-- ==== Sys2Proof/Word.lean ====
section
/-! DEFINITION. The plain values of the Calbrin LT4: bytes, wrapping counts, sequence numbers. -/

namespace Sys2Proof

/-- A byte of a frame on the host link or the sensor bus. -/
abbrev Byte := BitVec 8

/-- A count kept modulo 4,294,967,296 (R71, R122, R163). -/
abbrev Count := BitVec 32

/-- A parcel sequence number: 16 bits, the number after 65,535 is 0 (R62). -/
abbrev Seq := BitVec 16

end Sys2Proof
end

