-- ==== Sys2Proof/Syntax.lean ====
section
/-! DEFINITION. The commands of the LT4: one constructor for each row of spec/opcode_table.json.

A REQUEST row (START … STORE_SAVE, UNKNOWN_KIND) is the step in which the host link hands on the oldest request of its
receive queue (R183). Its fields are the payload of that frame, which stands in the state, so the constructor carries none.
An EVENT row carries what arrives from outside in that step. -/

namespace Sys2Proof

/-- The field inputs that pass the five-base-millisecond level filter (R29, R87, R123, R150, R171). -/
inductive FieldInput
  /-- The cold-store door eye. -/
  | doorEye
  /-- SEAL of lane 1..4. -/
  | sealIn (lane : Nat)
  /-- READY of lane 1..4. -/
  | readyIn (lane : Nat)
  /-- Shuttle ACCEPT. -/
  | acceptIn
  /-- Shuttle LOADED. -/
  | loadedIn
  /-- Shuttle DONE. -/
  | doneIn
  /-- Shuttle FAULT. -/
  | faultIn
  /-- External trip input 1 or 2. -/
  | externalTrip (input : Nat)
  /-- The commission key. -/
  | commissionKey
  deriving DecidableEq, Repr

/-- One command of the block. -/
inductive Instr
  /-- START is handed on (R3). -/
  | start
  /-- STOP is handed on, with or without a drain limit (R4). -/
  | stop
  /-- HALT is handed on (R7). -/
  | halt
  /-- RESUME is handed on (R10). -/
  | resume
  /-- CLEAR is handed on (R11). -/
  | clear
  /-- RESET LINE is handed on (R15). -/
  | resetLine
  /-- STATUS READ is handed on (R187). -/
  | statusRead
  /-- TIME READ is handed on (R20). -/
  | timeRead
  /-- TIME SET is handed on (R21). -/
  | timeSet
  /-- TIME TRIM is handed on (R22). -/
  | timeTrim
  /-- TRACK DEFINE is handed on (R34). -/
  | trackDefine
  /-- ZONE DEFINE is handed on (R37). -/
  | zoneDefine
  /-- TRACK READ is handed on (R54). -/
  | trackRead
  /-- DIVIDER RESET is handed on (R42). -/
  | dividerReset
  /-- NOTICE MODE SET is handed on (R48, R116). -/
  | noticeModeSet
  /-- INFEED DECLARE is handed on (R58). -/
  | infeedDeclare
  /-- PARCEL READ is handed on (R65). -/
  | parcelRead
  /-- LOT READ is handed on (R75). -/
  | lotRead
  /-- HOLD RANGE is handed on (R66). -/
  | holdRange
  /-- CLEAR HOLD RANGE is handed on (R67). -/
  | clearHoldRange
  /-- CHANNEL SET is handed on (R81). -/
  | channelSet
  /-- OFFSET STEP is handed on (R84). -/
  | offsetStep
  /-- LEVELS SET is handed on (R85). -/
  | levelsSet
  /-- ROUTE SET is handed on (R90). -/
  | routeSet
  /-- EXTERNAL TRIP SET is handed on (R88). -/
  | externalTripSet
  /-- SAMPLING SET is handed on (R79). -/
  | samplingSet
  /-- TRIP ACK is handed on (R96). -/
  | tripAck
  /-- CHANNEL READ is handed on (R97). -/
  | channelRead
  /-- RATE TABLE SET is handed on (R101). -/
  | rateTableSet
  /-- RECIPE THERMAL SET is handed on (R103). -/
  | recipeThermalSet
  /-- RECIPE PACKING SET is handed on (R104). -/
  | recipePackingSet
  /-- CLASS MAP SET is handed on (R120). -/
  | classMapSet
  /-- DEAD TIME SET is handed on (R132). -/
  | deadTimeSet
  /-- LANE OPEN is handed on (R123). -/
  | laneOpen
  /-- LANE CLOSE is handed on (R124). -/
  | laneClose
  /-- BAG READ is handed on (R140). -/
  | bagRead
  /-- BAG WEIGHT is handed on (R136). -/
  | bagWeight
  /-- PALLET CLOSE is handed on (R148). -/
  | palletClose
  /-- PALLET READ is handed on (R160, R186). -/
  | palletRead
  /-- SHUTTLE RESET is handed on (R157). -/
  | shuttleReset
  /-- JOB LIMIT SET is handed on (R158). -/
  | jobLimitSet
  /-- PROVE START is handed on (R165). -/
  | proveStart
  /-- PROVE ABORT is handed on (R170). -/
  | proveAbort
  /-- PROVING READ is handed on (R177). -/
  | provingRead
  /-- COMMISSION is handed on (R172). -/
  | commission
  /-- UNLOCK is handed on (R173). -/
  | unlock
  /-- STORE SAVE is handed on (R175). -/
  | storeSave
  /-- A frame whose kind is no request kind is handed on (R183). -/
  | unknownKind
  /-- These bytes arrive on the host link, one after the other (R181, R182). -/
  | frameReceived (bytes : List Byte)
  /-- The gap between two bytes of the frame in reception has passed its limit (R181). -/
  | interByteGapTimeout
  /-- The frame in transmission has been sent to its end (R184). -/
  | frameSent
  /-- One base millisecond passes; `seen` names the filtered field inputs seen asserted in it (R18, R25, R29). -/
  | baseMillisecond (seen : List FieldInput)
  /-- A pulse on encoder input 1..4, with the level of the infeed presence input at that moment (R40, R61). -/
  | encoderPulse (input : Nat) (presence : Bool)
  /-- A polling round begins (R79). -/
  | pollRoundStart
  /-- These bytes arrive on the sensor bus (R78, R190). -/
  | sampleFrame (bytes : List Byte)
  /-- The answer window of the poll in flight closes (R78). -/
  | answerWindowClose
  /-- The filtered edge of external trip input 1 or 2 is delivered (R87). -/
  | externalTripEdge (input : Nat)
  /-- The expiry of stall timer 1..4 is delivered (R53). -/
  | stallTimerExpiry (track : Nat)
  /-- The expiry of the drain timer is delivered (R6). -/
  | drainTimerExpiry
  /-- The expiry of the gate timer is delivered (R131). -/
  | gateTimerExpiry
  /-- The expiry of exposure timer 1..8 is delivered (R149). -/
  | exposureTimerExpiry (record : Nat)
  /-- The expiry of the shuttle job timer is delivered (R155). -/
  | shuttleJobTimerExpiry
  /-- The filtered edge of ACCEPT is delivered (R152). -/
  | acceptEdge
  /-- The filtered edge of LOADED is delivered (R152). -/
  | loadedEdge
  /-- The filtered edge of DONE is delivered (R154). -/
  | doneEdge
  /-- The filtered edge of FAULT is delivered (R155). -/
  | faultEdge
  /-- The filtered edge of the door eye is delivered (R153). -/
  | doorEyeEdge
  /-- The filtered edge of SEAL 1..4 is delivered (R135). -/
  | sealEdge (lane : Nat)
  /-- The filtered edge of READY 1..4 is delivered (R123). -/
  | readyEdge (lane : Nat)
  /-- The filtered edge of the commission key is delivered (R171). -/
  | commissionKeyEdge
  /-- The save in flight ends; `ok` says whether the image read back matches what was written (R174). -/
  | saveEnd (ok : Bool)
  /-- The line reset pin is asserted (R15). -/
  | lineResetPinAssert
  /-- The line reset pin is released (R15). -/
  | lineResetPinRelease
  /-- Power is applied; the levels the filtered inputs first show, and the two straps, high or not (R16, R31, R179). -/
  | powerOn (seen : List FieldInput) (strap1 strap2 : Bool)
  /-- Power is lost (R174). -/
  | powerLoss
  /-- A host-link character whose stop bit is found low (R179, R181). -/
  | brokenCharacter
  deriving DecidableEq, Repr

end Sys2Proof
end

