-- ==== Sys2Proof/Config.lean ====
section
/-! DEFINITION. What the guide fixes once for the part (sizes and limits), and the two free values. -/

namespace Sys2Proof.Config

/-- R17: the 48-bit maximum at which line time holds. -/
def lineTimeMax : Nat := 281474976710655

/-- R21: the ceiling on the value TIME SET may carry. -/
def timeSetMax : Nat := 140737488355327

/-- R18: the modulus of the trim accumulator. -/
def trimModulus : Nat := 1000000

/-- R29: base milliseconds a new level must be seen in a row before its edge is taken. -/
def filterRun : Nat := 5

/-- R78: base milliseconds the answer window of a poll lasts. -/
def answerWindow : Nat := 25

/-- R181: base milliseconds that may pass between two bytes of a frame. -/
def gapLimit : Nat := 10

/-- R33, R35: cells of the segment cell store. -/
def cellCount : Nat := 1000

/-- R36: zones the zone map holds. -/
def zoneCount : Nat := 16

/-- R49: entries a handover queue holds. -/
def handoverDepth : Nat := 8

/-- R51: a BACKED_UP track regains RUN when its queue holds this many entries or fewer. -/
def recoverDepth : Nat := 4

/-- Chapter 4: records of the parcel table. -/
def parcelCount : Nat := 1024

/-- R71: slots of the lot table. -/
def lotCount : Nat := 16

/-- R133: records of the bag table. -/
def bagCount : Nat := 32

/-- R133: the bag number after which numbering goes back to 1. -/
def bagNumberMax : Nat := 16777215

/-- R134: the parcel count at which a bag's lane is sent to SEALING. -/
def bagParcelMax : Nat := 255

/-- R143: records of the pallet table. -/
def palletCount : Nat := 8

/-- R144: the pallet number after which numbering goes back to 1. -/
def palletNumberMax : Nat := 65535

/-- R159: bag entries one PALLET TRANSFER part holds. -/
def transferPart : Nat := 60

/-- R186: lot records one LINE RESET DISCARD part holds. -/
def discardPart : Nat := 8

/-- R63: the ceiling of a parcel's blanch credit, in ref-ms. -/
def creditMax : Nat := 16000000

/-- R107: the longest interval between two samples, in milliseconds of line time, that does not break a chain. -/
def chainLimit : Nat := 6000

/-- R185: entries of the notice queue. -/
def noticeDepth : Nat := 32

/-- R182: places of the receive queue. -/
def receiveDepth : Nat := 4

/-- R182: replies the BUSY list holds. -/
def busyDepth : Nat := 4

/-- R181: the longest payload of a frame, in bytes. -/
def payloadMax : Nat := 1000

/-- FREE VALUE. R40: one pulse of a master encoder may index several tracks, each index is an event of its own, and
'either may be taken first'. This code picks the order; it is applied to State's draw counter, and nothing is known of it. -/
opaque pulseOrder : Nat → Nat

/-- FREE VALUE. R110: where a sample and zone entries of a parcel fall together 'either may be taken first at the credit unit,
for each parcel separately'. This code picks, for a draw counter and a parcel's record, how many of the entries the sample
comes after; nothing is known of it (log 36). -/
opaque sampleOrder : Nat → Nat → Nat

end Sys2Proof.Config
end

