-- ==== Sys2Proof/Machine/Table.lean ====
section
/-! DEFINITION. Tables of records in one canonical form: a list of (key, record) pairs, keys strictly rising. A key the list
does not hold is a free record, an undefined track, an IDLE timer or an empty cell. -/

namespace Sys2Proof.Machine

/-- A table of records by number. -/
abbrev Table (α : Type) := List (Nat × α)

/-- The record with key `k`, if the table holds one. -/
def Table.get? {α : Type} : Table α → Nat → Option α
  | [], _ => none
  | (k', v) :: t, k => if k = k' then some v else Table.get? t k

/-- The table with `v` under key `k`, in its place by key. -/
def Table.put {α : Type} : Table α → Nat → α → Table α
  | [], k, v => [(k, v)]
  | (k', v') :: t, k, v =>
    if k < k' then (k, v) :: (k', v') :: t
    else if k = k' then (k, v) :: t
    else (k', v') :: Table.put t k v

/-- The table without key `k`. -/
def Table.del {α : Type} : Table α → Nat → Table α
  | [], _ => []
  | (k', v') :: t, k => if k = k' then t else (k', v') :: Table.del t k

/-- The table with `f` applied to every record. -/
def Table.mapVals {α β : Type} (f : Nat → α → β) : Table α → Table β
  | [] => []
  | (k, v) :: t => (k, f k v) :: Table.mapVals f t

/-- The table with `f` applied to the record of key `k`, where there is one. -/
def Table.modify {α : Type} (t : Table α) (k : Nat) (f : α → α) : Table α :=
  t.mapVals fun k' v => if k' = k then f v else v

/-- The records, in order of their keys. -/
def Table.vals {α : Type} (t : Table α) : List α := t.map fun e => e.2

/-- The first (lowest-keyed) entry that satisfies `p`. -/
def Table.first? {α : Type} (p : Nat → α → Bool) : Table α → Option (Nat × α)
  | [] => none
  | (k, v) :: t => if p k v then some (k, v) else Table.first? p t

/-- The lowest of the `n` keys from `k` on that the table does not hold: 'the lowest-numbered free record'. -/
def Table.freeKey {α : Type} (t : Table α) (k : Nat) : Nat → Option Nat
  | 0 => none
  | n + 1 => if (t.get? k).isNone then some k else t.freeKey (k + 1) n

/-- The canonical form: keys strictly rising. -/
def Table.wf {α : Type} : Table α → Bool
  | [] => true
  | [_] => true
  | (k, _) :: (k', v') :: t => k < k' && Table.wf ((k', v') :: t)

/-- The table that holds `f k` under each of the `n` keys from `k` on. -/
def Table.fill {α : Type} (f : Nat → α) (k : Nat) : Nat → Table α
  | 0 => []
  | n + 1 => (k, f k) :: Table.fill f (k + 1) n

end Sys2Proof.Machine
end

