-- ==== Sys2Proof/Machine/Records.lean ====
section
/-! DEFINITION. The records the eleven blocks keep, each with the rule that names its fields. -/

namespace Sys2Proof.Machine

/-! ### Line controller -/

/-- R1: the six line states. -/
inductive LineState
  | setup | proving | ready | running | draining | halted
  deriving DecidableEq, Repr

/-- R80, R86: the four levels of a channel. -/
inductive LevelName
  | lowCrit | low | high | highCrit
  deriving DecidableEq, Repr

/-- R89: the 82 trip sources. -/
inductive TripSource
  | level (channel : Nat) (name : LevelName)
  | stale (channel : Nat)
  | exposure
  | shuttleFault
  deriving DecidableEq, Repr

/-- R1: the halt causes with their detail. -/
inductive HaltCause
  | request
  | trip (source : TripSource)
  | stall (track : Nat)
  | drainTimeout
  deriving DecidableEq, Repr

/-- R14: the causes a LINE STATE notice carries. -/
inductive LineCause
  | start | stop | drained | drainTimeout | request | trip | stall | resume | clear | prove | provingDone
  | commissioned | unlocked | lineReset | powerOn
  deriving DecidableEq, Repr

/-- R14: the cause detail of a LINE STATE notice. -/
inductive CauseDetail
  | absent
  | source (source : TripSource)
  | track (track : Nat)
  | lost (count : Nat)
  deriving DecidableEq, Repr

/-! ### Time base -/

/-- R23: the fifteen timers. -/
inductive TimerId
  | stall (track : Nat)
  | drain
  | gate
  | exposure (record : Nat)
  | shuttleJob
  deriving DecidableEq, Repr

/-- R29: the level filter of one input, with the direction (rising or not) and stamp of its last taken edge. The stamp is
kept for the door eye and the SEAL inputs alone. -/
structure Filter where
  level : Bool
  differs : Nat
  last : Option (Bool × Nat)
  deriving DecidableEq, Repr

/-- R29: an edge the filter has accepted, waiting to be delivered to its owner. -/
structure Edge where
  input : FieldInput
  rising : Bool
  stamp : Nat
  deriving DecidableEq, Repr

/-! ### Track unit -/

/-- R33, R47: index notice modes. -/
inductive NoticeMode
  | off | every | zone
  deriving DecidableEq, Repr

/-- R36: the kinds of zone. -/
inductive ZoneKind
  | blanch | cool | freeze | plain
  deriving DecidableEq, Repr

/-- R36: one entry of a track's zone list; its id and first position follow from the present map. -/
structure Zone where
  length : Nat
  kind : ZoneKind
  channel : Option Nat
  deriving DecidableEq, Repr

/-- R33, R49: a defined track, with the handover queue it feeds (parcel-table indexes, oldest first). -/
structure Track where
  segments : Nat
  pulses : Nat
  group : Nat
  stallLimit : Nat
  mode : NoticeMode
  staged : Option NoticeMode
  head : Nat
  counter : Nat
  backedUp : Bool
  stalled : Bool
  zones : List Zone
  queue : List Nat
  deriving DecidableEq, Repr

/-- R36: a zone as the present map gives it. -/
structure ZoneInfo where
  id : Nat
  track : Nat
  start : Nat
  length : Nat
  kind : ZoneKind
  channel : Option Nat
  deriving DecidableEq, Repr

/-! ### Parcel unit -/

/-- R63: where a parcel stands. -/
inductive Location
  | track (track pos : Nat)
  | queue (queue place : Nat)
  deriving DecidableEq, Repr

/-- R64: the deviation set. -/
structure Deviation where
  trip : Bool
  gap : Bool
  manual : Bool
  deriving DecidableEq, Repr

/-- R105, R110: a parcel's credit zone and arming as they stood before one of its zone entries. -/
structure CreditView where
  zone : Option Nat
  armed : Bool
  deriving DecidableEq, Repr

/-- R63: a live parcel's record. `movedAt` and `past` are the model's own (log 36): the base millisecond of the parcel's last
zone entry, and its credit zone and arming before each of the zone entries of that base millisecond. -/
structure Parcel where
  seq : Seq
  slot : Nat
  recipe : Nat
  cls : Nat
  loc : Location
  created : Nat
  freezerEntry : Option Nat
  credit : Nat
  zone : Option Nat
  armed : Bool
  deviation : Deviation
  proving : Bool
  movedAt : Nat
  past : List CreditView
  deriving DecidableEq, Repr

/-- R71: the states of a lot slot. -/
inductive LotState
  | free | active | retiring
  deriving DecidableEq, Repr

/-- R71: a lot record. The retirement time is absent while the lot is ACTIVE. -/
structure Lot where
  code : List Byte
  recipe : Nat
  cls : Nat
  proving : Bool
  created : Count
  released : Count
  held : Count
  redirected : Count
  lost : Count
  bagsAccepted : Count
  bagsRejected : Count
  palletsStored : Count
  palletsQuarantined : Count
  firstSeq : Option Seq
  lastSeq : Option Seq
  live : Count
  bagRefs : Count
  palletRefs : Count
  retired : Option Nat
  deriving DecidableEq, Repr

/-- R57: the staged declaration. -/
structure Staged where
  code : List Byte
  recipe : Nat
  cls : Nat
  tableFull : Bool
  deriving DecidableEq, Repr

/-! ### Probe unit -/

/-- One value for each of the four levels. -/
structure LevelMap (α : Type) where
  lowCrit : α
  low : α
  high : α
  highCrit : α
  deriving DecidableEq, Repr

/-- R80: channel roles. -/
inductive Role
  | zone | exit
  deriving DecidableEq, Repr

/-- R80: channel states. -/
inductive ChannelState
  | off | waiting | live | stale
  deriving DecidableEq, Repr

/-- R78, R80: the causes of a miss. -/
inductive MissCause
  | noAnswer | badFrame | sensorFault
  deriving DecidableEq, Repr

/-- R90: a route, the set of actions of a trip source. -/
structure Route where
  notify : Bool
  markZone : Bool
  holdInfeed : Bool
  stopLine : Bool
  deriving DecidableEq, Repr

/-- R80, R89, R90: a channel record with the latches and routes of its five sources. -/
structure Channel where
  address : Nat
  enabled : Bool
  role : Role
  offset : Int
  levels : LevelMap Int
  hysteresis : Nat
  state : ChannelState
  lastValue : Option Int
  lastSample : Option Nat
  overRange : Bool
  misses : Nat
  lastMiss : Option MissCause
  lastFault : Option Nat
  results : LevelMap Bool
  conditions : LevelMap Bool
  latches : LevelMap Bool
  staleLatch : Bool
  routes : LevelMap Route
  staleRoute : Route
  deriving DecidableEq, Repr

/-- R87: an external trip input: its binding to a channel and a level, and the level its owner last took. -/
structure ExternalTrip where
  binding : Option (Nat × LevelName)
  level : Bool
  deriving DecidableEq, Repr

/-- R89, R90, R95: latch and route of EXPOSURE or SHUTTLE_FAULT. -/
structure TransferSource where
  latch : Bool
  route : Route
  deriving DecidableEq, Repr

/-- R78: the exchange in flight: the base millisecond its window opened, whether CHANNEL SET has made its outcome void (R81),
and the bytes received from the sync byte on. -/
structure Exchange where
  channel : Nat
  address : Nat
  opened : Nat
  void : Bool
  bytes : List Byte
  deriving DecidableEq, Repr

/-! ### Credit unit -/

/-- R100: a band of the rate table. -/
structure Band where
  floor : Int
  weight : Nat
  deriving DecidableEq, Repr

/-- R102: a recipe record, thermal part and packing part. -/
structure Recipe where
  requiredCredit : Nat
  minDwell : Nat
  maxExit : Int
  exposureLimit : Nat
  bagMin : Nat
  bagMax : Nat
  bagsPerPallet : Nat
  deriving DecidableEq, Repr

/-- R105: the chain record of a channel. -/
structure Chain where
  previous : Option (Int × Nat)
  residue : Nat
  deriving DecidableEq, Repr

/-- R113: the reason set of a verdict. -/
structure Reasons where
  trip : Bool
  gap : Bool
  manual : Bool
  creditShort : Bool
  dwellShort : Bool
  exitUnknown : Bool
  exitWarm : Bool
  deriving DecidableEq, Repr

/-- R115: the verdict record; the verdict is HELD exactly when the reason set has a reason. -/
structure VerdictRecord where
  seq : Seq
  slot : Nat
  reasons : Reasons
  credit : Nat
  dwell : Option Nat
  exitValue : Option Int
  time : Nat
  deriving DecidableEq, Repr

/-! ### Distribution unit -/

/-- R119: the entry of a class: lanes in rising order, and the run length. -/
structure ClassEntry where
  lanes : List Nat
  run : Nat
  deriving DecidableEq, Repr

/-- R119: a class's run pointer. -/
structure RunPointer where
  last : Option Nat
  counter : Nat
  deriving DecidableEq, Repr

/-- R122: lane states. -/
inductive LaneState
  | closed | pending | accepting | sealing | blocked
  deriving DecidableEq, Repr

/-- R122: a lane record. -/
structure Lane where
  state : LaneState
  bag : Option Nat
  closeAfter : Bool
  ready : Bool
  deriving DecidableEq, Repr

/-- R122: the causes for which a parcel goes to lane 0. -/
inductive LaneZeroCause
  | held | proving | class0 | noLane | gateBusy | noBag
  deriving DecidableEq, Repr

/-- R122: the record of lane 0. -/
structure LaneZero where
  held : Count
  proving : Count
  class0 : Count
  noLane : Count
  gateBusy : Count
  noBag : Count
  deriving DecidableEq, Repr

/-- R133: the states of a bag. -/
inductive BagState
  | opened | sealed | accepted | rejected
  deriving DecidableEq, Repr

/-- R133: a bag record. -/
structure Bag where
  number : Nat
  lane : Nat
  slot : Nat
  recipe : Nat
  state : BagState
  parcels : Nat
  firstSeq : Seq
  lastSeq : Seq
  minCredit : Nat
  openTime : Nat
  sealTime : Option Nat
  grams : Option Nat
  deriving DecidableEq, Repr

/-- R125, R129: where the lane choice sends a parcel: the lane 0..4, the cause for lane 0, the bag number for lanes 1..4. -/
structure LaneResult where
  lane : Nat
  cause : Option LaneZeroCause
  bag : Option Nat
  deriving DecidableEq, Repr

/-! ### Transfer unit -/

/-- R143: the states of a pallet. -/
inductive PalletState
  | building | ready | granted | loaded | stored
  deriving DecidableEq, Repr

/-- R143: an entry of a pallet's bag list. -/
structure BagEntry where
  number : Nat
  grams : Nat
  parcels : Nat
  minCredit : Nat
  deriving DecidableEq, Repr

/-- R143: a pallet record. The verdict is QUARANTINE exactly when the reason set (EXPOSED, STRANDED) has a reason. -/
structure Pallet where
  number : Nat
  lane : Nat
  slot : Nat
  state : PalletState
  exposed : Bool
  stranded : Bool
  target : Nat
  bags : List BagEntry
  total : Nat
  exposureStart : Nat
  exposureDue : Nat
  readyOrder : Nat
  doorTime : Option Nat
  deriving DecidableEq, Repr

/-- R150: shuttle states. -/
inductive ShuttleState
  | idle | assigned | carrying | faulted
  deriving DecidableEq, Repr

/-- R150: fault causes. -/
inductive ShuttleCause
  | input | timeout
  deriving DecidableEq, Repr

/-- R150: the shuttle's job. -/
structure Job where
  pallet : Nat
  station : Nat
  granted : Nat
  doorMade : Bool
  deriving DecidableEq, Repr

/-- R150, R152: the shuttle inputs. -/
inductive ShuttleInput
  | accept | loaded | finished | fault
  deriving DecidableEq, Repr

/-- R150: the shuttle record, JOB VALID, and the levels last recorded of its four inputs. -/
structure Shuttle where
  state : ShuttleState
  job : Option Job
  jobValid : Bool
  cause : Option ShuttleCause
  stranded : Option Nat
  acceptLevel : Bool
  loadedLevel : Bool
  doneLevel : Bool
  faultLevel : Bool
  deriving DecidableEq, Repr

/-! ### Commissioning unit and settings store -/

/-- R167: results of a proving run. -/
inductive ProvingResult
  | none | running | pass | fail | aborted
  deriving DecidableEq, Repr

/-- R167: how a test parcel left the line. -/
inductive EntryOutcome
  | judged | lost
  deriving DecidableEq, Repr

/-- R167: an entry of the proving record. -/
structure ProvingEntry where
  seq : Seq
  outcome : EntryOutcome
  credit : Nat
  dwell : Option Nat
  exitValue : Option Int
  reasons : Reasons
  passed : Bool
  deriving DecidableEq, Repr

/-- R167: what a proving record holds when its result is not NONE. -/
structure ProvingRun where
  recipe : Nat
  count : Nat
  margin : Nat
  required : Nat
  noted : Count
  started : Nat
  ended : Option Nat
  entries : List ProvingEntry
  deriving DecidableEq, Repr

/-- R167: the proving record. -/
structure ProvingRecord where
  result : ProvingResult
  run : Option ProvingRun
  deriving DecidableEq, Repr

/-- R174: the three kinds of save. -/
inductive SaveKind
  | commission | unlock | store
  deriving DecidableEq, Repr

/-- R174: the store states. -/
inductive StoreState
  | valid | busy | invalid
  deriving DecidableEq, Repr

/-- R163, R174: a track's part of the stored set. -/
structure TrackSetting where
  segments : Nat
  pulses : Nat
  group : Nat
  stallLimit : Nat
  mode : NoticeMode
  zones : List Zone
  deriving DecidableEq, Repr

/-- R163, R174: a channel's part of the stored set, its routes included. -/
structure ChannelSetting where
  address : Nat
  enabled : Bool
  role : Role
  offset : Int
  levels : LevelMap Int
  hysteresis : Nat
  routes : LevelMap Route
  staleRoute : Route
  deriving DecidableEq, Repr

/-- R174: the stored set, what the image holds. -/
structure StoredSet where
  tracks : Table TrackSetting
  channels : Table ChannelSetting
  bindings : Table (Option (Nat × LevelName))
  exposureRoute : Route
  shuttleRoute : Route
  rates : List Band
  recipes : Table Recipe
  generation : Count
  classMap : Table ClassEntry
  deadTime : Nat
  period : Nat
  drainLimit : Nat
  jobLimit : Nat
  record : ProvingRecord
  locked : Bool
  deriving DecidableEq, Repr

/-- R174: a save in flight: its kind and the stored set as it stood when the save began. -/
structure Save where
  kind : SaveKind
  image : StoredSet
  deriving DecidableEq, Repr

end Sys2Proof.Machine
end

