-- ==== Sys2Proof/Machine/Messages.lean ====
section
/-! DEFINITION. The messages of the host link: request kinds, status codes, what each reply and notice carries. Their bytes
are laid out in Machine/Layout.lean. -/

namespace Sys2Proof.Machine

/-- R188: the requests, in the order of their groups and kinds. -/
inductive Request
  | start | stop | halt | resume | clear | resetLine | statusRead
  | timeRead | timeSet | timeTrim
  | trackDefine | zoneDefine | trackRead | dividerReset | noticeModeSet
  | infeedDeclare | parcelRead | lotRead | holdRange | clearHoldRange
  | channelSet | offsetStep | levelsSet | routeSet | externalTripSet | samplingSet | tripAck | channelRead
  | rateTableSet | recipeThermalSet | recipePackingSet
  | classMapSet | deadTimeSet | laneOpen | laneClose | bagRead | bagWeight
  | palletClose | palletRead | shuttleReset | jobLimitSet
  | proveStart | proveAbort | provingRead | commission | unlock | storeSave
  deriving DecidableEq, Repr

/-- R188: the status codes of a reply. -/
inductive Status
  | ok | accepted | unknownKind | badLength | badValue | wrongState | locked | busy | full | notFound
  | stillActive | keyAbsent | notProven | incomplete | tripLatched | probeNotLive | noLot
  deriving DecidableEq, Repr

/-- R180: a frame received from the host. -/
structure Frame where
  kind : Byte
  tag : Byte
  payload : List Byte
  deriving DecidableEq, Repr

/-! ### What replies carry -/

/-- R187: a track's part of the STATUS READ reply. -/
structure TrackStatus where
  defined : Bool
  run : Bool
  backedUp : Bool
  stalled : Bool
  deriving DecidableEq, Repr

/-- R187: the STATUS READ reply. -/
structure StatusReply where
  state : LineState
  origin : Option LineState
  cause : Option HaltCause
  locked : Bool
  key : Bool
  store : StoreState
  generation : Count
  time : Nat
  live : Nat
  current : Bool
  staged : Bool
  bagsInUse : Nat
  lanesWithBag : Nat
  palletsInUse : Nat
  shuttle : ShuttleState
  tracks : List TrackStatus
  infeedRun : Bool
  infeedHold : Bool
  latches : Nat
  overrun : Bool
  deriving DecidableEq, Repr

/-- R29: a last-edge record: the filtered level, and direction and stamp of the last taken edge. -/
structure LastEdge where
  level : Bool
  last : Option (Bool × Nat)
  deriving DecidableEq, Repr

/-- R20: the TIME READ reply; a timer's entry is its due, absent when it is IDLE. -/
structure TimeReply where
  time : Nat
  trim : Int
  accumulator : Nat
  timers : List (Option Nat)
  edges : List LastEdge
  deriving DecidableEq, Repr

/-- R54: the TRACK READ reply. -/
structure TrackReply where
  segments : Nat
  pulses : Nat
  group : Nat
  stallLimit : Nat
  mode : NoticeMode
  staged : Option NoticeMode
  zones : List ZoneInfo
  head : Nat
  counter : Nat
  run : Bool
  backedUp : Bool
  stalled : Bool
  queue : Option (List Seq)
  positions : List (Option Seq)
  deriving DecidableEq, Repr

/-- R65: the PARCEL READ reply. -/
structure ParcelReply where
  index : Nat
  parcel : Parcel
  code : List Byte
  deriving DecidableEq, Repr

/-- R75: the LOT READ reply; the lot comes with whether it is current and whether a staged declaration names its code. -/
structure LotReply where
  state : LotState
  lot : Option (Lot × Bool × Bool)
  staged : Option Staged
  deriving DecidableEq, Repr

/-- R97: the CHANNEL READ reply for a channel: its record, its zone ids, the external inputs bound to it with their levels. -/
structure ChannelReply where
  channel : Channel
  staleHolds : Bool
  zones : List Nat
  inputs : List (Nat × Bool)
  deriving DecidableEq, Repr

/-- R97: the CHANNEL READ reply for channel 0. -/
structure ProbeSummary where
  period : Nat
  lastRound : Nat
  inputs : List ExternalTrip
  exposure : TransferSource
  shuttleCondition : Bool
  shuttleFault : TransferSource
  infeedHold : Bool
  latches : Nat
  deriving DecidableEq, Repr

/-- R140: the BAG READ reply for number 0. -/
structure DistributionSummary where
  live : Table ClassEntry
  staged : Option (Table ClassEntry)
  pointers : Table RunPointer
  lanes : Table Lane
  lane0 : LaneZero
  openGate : Option Nat
  pendingGate : Option Nat
  gateDue : Option Nat
  deadTime : Nat
  lastBag : Nat
  bags : List (Nat × BagState)
  deriving DecidableEq, Repr

/-- R159, R189: the summary that precedes the entries of a transfer part. -/
structure PalletSummary where
  number : Nat
  lane : Nat
  slot : Nat
  code : List Byte
  exposed : Bool
  stranded : Bool
  target : Nat
  bagCount : Nat
  total : Nat
  exposureStart : Nat
  exposureDue : Nat
  doorTime : Option Nat
  deriving DecidableEq, Repr

/-- R160, R186: the PALLET READ reply: the record apart from its bag list, its number in the table, its exposure timer's due
(absent when IDLE), and the entries of the part asked for. -/
structure PalletReply where
  pallet : Pallet
  record : Nat
  due : Option Nat
  bagCount : Nat
  entries : List BagEntry
  deriving DecidableEq, Repr

/-- R160: a record in use, as the transfer summary lists it. -/
structure PalletLine where
  record : Nat
  number : Nat
  lane : Nat
  state : PalletState
  exposed : Bool
  stranded : Bool
  deriving DecidableEq, Repr

/-- R160: the PALLET READ reply for number 0. -/
structure TransferSummary where
  shuttle : Shuttle
  station : Nat
  jobDue : Option Nat
  jobLimit : Nat
  lastPallet : Nat
  lastReady : Nat
  waiting : List Nat
  pallets : List PalletLine
  deriving DecidableEq, Repr

/-- R177: the PROVING READ reply. -/
structure ProvingReply where
  record : ProvingRecord
  generation : Count
  matched : Bool
  locked : Bool
  key : Bool
  store : StoreState
  save : Option SaveKind
  lot : Option (Count × Count)
  deriving DecidableEq, Repr

/-- What a reply carries. Every status but OK and ACCEPTED stands alone (R183). -/
inductive ReplyBody
  /-- The status byte alone. -/
  | status (status : Status)
  | statusRead (reply : StatusReply)
  | timeRead (reply : TimeReply)
  | timeSet (time : Nat)
  | trackRead (reply : TrackReply)
  | parcelRead (reply : ParcelReply)
  | lotRead (reply : LotReply)
  /-- HOLD RANGE and CLEAR HOLD RANGE: live parcels in the range, and those the request changed. -/
  | rangeCounts (inRange changed : Nat)
  | offset (offset : Int)
  /-- TRIP ACK: whether the request cleared the latch, or found it clear. -/
  | tripAck (cleared : Bool)
  | channelRead (reply : ChannelReply)
  | probeSummary (reply : ProbeSummary)
  | rateTable (bands : List Band)
  | recipe (recipe : Recipe)
  | bagVerdict (accepted : Bool) (low high : Nat)
  | bagRead (record : Nat) (bag : Bag)
  | distribution (reply : DistributionSummary)
  | palletClose (bags total : Nat)
  | palletRead (reply : PalletReply)
  | transfer (reply : TransferSummary)
  | shuttleReset (stranded : Nat)
  | provingRead (reply : ProvingReply)
  deriving DecidableEq, Repr

/-- R180: a reply: its kind byte, the tag of its request, and what it carries. -/
structure Reply where
  kind : Byte
  tag : Byte
  body : ReplyBody
  deriving DecidableEq, Repr

/-! ### What notices carry -/

/-- R91: what caused a trip event. -/
inductive TripCause
  | sample | external | thirdMiss | transfer
  deriving DecidableEq, Repr

/-- R91: what a TRIP notice says of a channel source's channel. -/
structure TripChannel where
  value : Option Int
  overRange : Bool
  state : ChannelState
  miss : Option MissCause
  deriving DecidableEq, Repr

/-- R188: the notices. -/
inductive NoticeBody
  | lineState (state : LineState) (previous : Option LineState) (cause : LineCause) (origin : Option LineState) (detail : CauseDetail)
  | resetDiscard (parcels part parts : Nat) (lots : List (Nat × Lot))
  | index (track head stamp : Nat)
  | lost (seq : Seq) (slot track stamp : Nat)
  | lotTableFull (code : List Byte) (stamp : Nat)
  | lotSummary (slot : Nat) (lot : Lot)
  | trip (source : TripSource) (cause : TripCause) (channel : Option TripChannel) (pallet : Nat) (route : Route) (time : Nat)
  | staleCleared (channel : Nat) (value : Int) (stamp : Nat)
  | outfeed (verdict : VerdictRecord) (lane : Nat) (cause : Option LaneZeroCause) (bag : Option Nat)
  | sealUntracked (lane stamp : Nat)
  | bagRejected (record : Nat) (bag : Bag)
  | palletExposed (number lane slot : Nat) (state : PalletState) (exposureStart exposureDue : Nat)
  | palletTransfer (summary : PalletSummary) (part parts : Nat) (entries : List BagEntry)
  | doorUnexpected (stamp : Nat) (state : Option ShuttleState) (pallet : Option Nat)
  | shuttleUnexpected (input : ShuttleInput) (state : ShuttleState)
  | provingResult (record : ProvingRecord)
  | storeResult (kind : SaveKind) (ok : Bool) (generation : Count)
  deriving DecidableEq, Repr

/-- R180: a notice with the line time at which it was queued. -/
structure Notice where
  time : Nat
  body : NoticeBody
  deriving DecidableEq, Repr

/-- R185: a retained notice waiting to enter the queue; its owner holds the record it reports. -/
inductive Retained
  | lotSummary (slot : Nat)
  | palletPart (record part : Nat)
  deriving DecidableEq, Repr

/-! ### Places of the link -/

/-- R182: a place of the receive queue, from a frame's arrival until the first byte of its reply is sent. -/
inductive Place
  | waiting (frame : Frame)
  | answered (reply : Reply)
  deriving DecidableEq, Repr

/-- R184: the transmitter. A notice in transmission stands in the notice queue until its last byte is sent, unless a line
reset has emptied the queue meanwhile. -/
inductive Transmitter
  | idle
  | reply (reply : Reply)
  | notice (notice : Notice) (queued : Bool)
  deriving DecidableEq, Repr

end Sys2Proof.Machine
end

