-- ==== Sys2Proof/Machine/State.lean ====
section
/-! DEFINITION. The state of the LT4: one record for each block of 00_scope.md's overview, the output pins, the queue of
waiting commands; the reasons a step can stop; the machine right after power-on with an INVALID image. -/

namespace Sys2Proof.Machine

/-! ### Reasons to stop -/

/-- Why a step faults. -/
inductive Fault
  /-- A command names a field line, timer or record the part does not have (R23, R39, 00 'Field connections'). Raised by the
  meanings of the commands that carry such a number; safe: the hardware has no such event (log 26). -/
  | noSuchLine
  deriving DecidableEq, Repr

/-- Why a step is refused. -/
inductive Refusal
  /-- A command that has no meaning yet; raised by the arm of that command in Dispatch.lean alone; safe. -/
  | notModelled (mnemonic : String)
  deriving DecidableEq, Repr

/-! ### The blocks -/

/-- R1, R4: the line controller. -/
structure LineUnit where
  state : LineState
  origin : Option LineState
  cause : Option HaltCause
  drainLimit : Nat
  deriving DecidableEq, Repr

/-- R17 to R29: the time base. `timers` holds the ARMED timers by number with their dues; `expired` the expiries taken and not
yet delivered (R25, R26); `edges` the edges taken and not yet delivered (R29). -/
structure TimeUnit where
  lineTime : Nat
  trim : Int
  accumulator : Nat
  baseMs : Nat
  timers : Table Nat
  expired : List TimerId
  filters : List (FieldInput × Filter)
  edges : List Edge
  deriving DecidableEq, Repr

/-- R33 to R49: the track unit. Tracks 1 up to the track count are in `tracks`; an empty cell is not in `cells`. -/
structure TrackUnit where
  tracks : Table Track
  cells : Table Nat
  deriving DecidableEq, Repr

/-- R57 to R71: the parcel unit. A free parcel record and a FREE lot slot are not in their tables. -/
structure ParcelUnit where
  parcels : Table Parcel
  lots : Table Lot
  current : Option Nat
  staged : Option Staged
  lastSeq : Seq
  deriving DecidableEq, Repr

/-- R78 to R95: the probe unit. `nextRound` is the earliest base millisecond of the next round, `lastRound` the line time at
which the last round began, `remaining` the channels the round in progress has still to poll. -/
structure ProbeUnit where
  channels : Table Channel
  external : Table ExternalTrip
  exposure : TransferSource
  shuttleFault : TransferSource
  period : Nat
  nextRound : Nat
  lastRound : Nat
  remaining : List Nat
  exchange : Option Exchange
  deriving DecidableEq, Repr

/-- R100 to R116: the credit unit. -/
structure CreditUnit where
  rates : List Band
  recipes : Table Recipe
  chains : Table Chain
  outfeedNotices : Bool
  deriving DecidableEq, Repr

/-- R119 to R133: the distribution unit. -/
structure DistributionUnit where
  live : Table ClassEntry
  staged : Option (Table ClassEntry)
  pointers : Table RunPointer
  lanes : Table Lane
  lane0 : LaneZero
  openGate : Option Nat
  pendingGate : Option Nat
  deadTime : Nat
  bags : Table Bag
  lastBag : Nat
  deriving DecidableEq, Repr

/-- R143 to R158: the transfer unit. -/
structure TransferUnit where
  pallets : Table Pallet
  waiting : List Nat
  shuttle : Shuttle
  jobLimit : Nat
  lastPallet : Nat
  lastReady : Nat
  deriving DecidableEq, Repr

/-- R163 to R171: the commissioning unit. `owed` marks a PROVING RESULT to be queued at the pin's release (R170). -/
structure CommissionUnit where
  generation : Count
  record : ProvingRecord
  locked : Bool
  key : Bool
  owed : Bool
  deriving DecidableEq, Repr

/-- R174: the settings store; an absent image is INVALID. `owed` is a STORE RESULT to be queued at the pin's release (R178). -/
structure StoreUnit where
  image : Option StoredSet
  save : Option Save
  owed : Option (SaveKind × Bool × Count)
  deriving DecidableEq, Repr

/-- R179 to R185: the host link. `receiver` is absent while it hunts for a sync byte, and otherwise holds the bytes received
since; `lastByte` is the base millisecond of the last of them. -/
structure LinkUnit where
  baud : Nat
  receiver : Option (List Byte)
  lastByte : Nat
  receive : List Place
  busy : List Reply
  notices : List Notice
  waiting : List Retained
  overrun : Bool
  transmitter : Transmitter
  deriving DecidableEq, Repr

/-- 00 'Field connections': the levels driven on the field outputs, tracks, lanes and gates 1..4 in order. -/
structure Pins where
  trackRun : List Bool
  infeedRun : Bool
  gates : List Bool
  sealDemand : List Bool
  station : Nat
  jobValid : Bool
  deriving DecidableEq, Repr

/-- The state of the LT4. `draws` counts the free values drawn so far (logs 8, 36). -/
structure State where
  powered : Bool
  pin : Bool
  line : LineUnit
  time : TimeUnit
  track : TrackUnit
  parcel : ParcelUnit
  probe : ProbeUnit
  credit : CreditUnit
  dist : DistributionUnit
  transfer : TransferUnit
  comm : CommissionUnit
  store : StoreUnit
  link : LinkUnit
  pins : Pins
  draws : Nat
  pending : List Instr
  deriving DecidableEq, Repr

/-! ### Power-on values -/

/-- R29, R87, R123, R150, R171: the filtered inputs. -/
def FieldInput.all : List FieldInput :=
  [.doorEye, .sealIn 1, .sealIn 2, .sealIn 3, .sealIn 4, .readyIn 1, .readyIn 2, .readyIn 3, .readyIn 4,
    .acceptIn, .loadedIn, .doneIn, .faultIn, .externalTrip 1, .externalTrip 2, .commissionKey]

/-- The empty route. -/
def Route.empty : Route := ⟨false, false, false, false⟩

/-- The same value for each level. -/
def LevelMap.const {α : Type} (a : α) : LevelMap α := ⟨a, a, a, a⟩

/-- R167, R176: the proving record NONE, with no entries. -/
def ProvingRecord.blank : ProvingRecord := ⟨.none, none⟩

/-- R98: a channel's factory settings: its own number as address, disabled, role ZONE, levels at the ends of the range. -/
def ChannelSetting.factory (n : Nat) : ChannelSetting :=
  { address := n, enabled := false, role := .zone, offset := 0, levels := ⟨-500, -500, 1500, 1500⟩, hysteresis := 0,
    routes := .const .empty, staleRoute := .empty }

/-- R117: a recipe's factory values, the minimum of each field's range. -/
def Recipe.factory : Recipe :=
  { requiredCredit := 1, minDwell := 1, maxExit := -500, exposureLimit := 60, bagMin := 0, bagMax := 0, bagsPerPallet := 1 }

/-- R176: the factory values of an INVALID image. -/
def StoredSet.factory : StoredSet :=
  { tracks := [], channels := Table.fill ChannelSetting.factory 1 16, bindings := [(1, none), (2, none)],
    exposureRoute := .empty, shuttleRoute := .empty, rates := [], recipes := Table.fill (fun _ => Recipe.factory) 0 16,
    generation := 0, classMap := Table.fill (fun _ => ⟨[], 1⟩) 1 7, deadTime := 150, period := 500, drainLimit := 600,
    jobLimit := 180, record := .blank, locked := false }

/-- R55: a track as loaded from the image. -/
def TrackSetting.load (t : TrackSetting) : Track :=
  { segments := t.segments, pulses := t.pulses, group := t.group, stallLimit := t.stallLimit, mode := t.mode, staged := none,
    head := 0, counter := 0, backedUp := false, stalled := false, zones := t.zones, queue := [] }

/-- R98: a channel as loaded from the image, with its working values at power-on. -/
def ChannelSetting.load (c : ChannelSetting) : Channel :=
  { address := c.address, enabled := c.enabled, role := c.role, offset := c.offset, levels := c.levels,
    hysteresis := c.hysteresis, state := if c.enabled then .waiting else .off, lastValue := none, lastSample := none,
    overRange := false, misses := 0, lastMiss := none, lastFault := none, results := .const false,
    conditions := .const false, latches := .const false, staleLatch := false, routes := c.routes, staleRoute := c.staleRoute }

/-- R122: lane 0 with every count 0. -/
def LaneZero.zero : LaneZero := ⟨0, 0, 0, 0, 0, 0⟩

/-- R161: the shuttle IDLE, with the levels its inputs first show. -/
def Shuttle.idle (accept loaded finished fault : Bool) : Shuttle :=
  { state := .idle, job := none, jobValid := false, cause := none, stranded := none, acceptLevel := accept,
    loadedLevel := loaded, doneLevel := finished, faultLevel := fault }

/-- Every field output withdrawn. -/
def Pins.withdrawn : Pins :=
  { trackRun := [false, false, false, false], infeedRun := false, gates := [false, false, false, false],
    sealDemand := [false, false, false, false], station := 0, jobValid := false }

/-- R79, R80, R87, R98: the probe unit at power-on. Before the first round the start of the last round is 0, the model's choice
(log 39). -/
def ProbeUnit.fresh (set : StoredSet) (seen : List FieldInput) : ProbeUnit :=
  { channels := set.channels.mapVals fun _ c => c.load
    external := set.bindings.mapVals fun n b => ⟨b, decide (FieldInput.externalTrip n ∈ seen)⟩
    exposure := ⟨false, set.exposureRoute⟩
    shuttleFault := ⟨false, set.shuttleRoute⟩
    period := set.period, nextRound := 1, lastRound := 0, remaining := [], exchange := none }

/-- R141: the distribution unit at power-on. -/
def DistributionUnit.fresh (set : StoredSet) (seen : List FieldInput) : DistributionUnit :=
  { live := set.classMap, staged := none, pointers := Table.fill (fun _ => ⟨none, 0⟩) 1 7
    lanes := Table.fill (fun n => ⟨.closed, none, false, decide (FieldInput.readyIn n ∈ seen)⟩) 1 4
    lane0 := .zero, openGate := none, pendingGate := none, deadTime := set.deadTime, bags := [], lastBag := 0 }

/-- R161: the transfer unit at power-on. -/
def TransferUnit.fresh (set : StoredSet) (seen : List FieldInput) : TransferUnit :=
  { pallets := [], waiting := []
    shuttle := .idle (decide (FieldInput.acceptIn ∈ seen)) (decide (FieldInput.loadedIn ∈ seen))
      (decide (FieldInput.doneIn ∈ seen)) (decide (FieldInput.faultIn ∈ seen))
    jobLimit := set.jobLimit, lastPallet := 0, lastReady := 0 }

/-- R31, R191: the time base and the link at power-on. -/
def TimeUnit.fresh (seen : List FieldInput) : TimeUnit :=
  { lineTime := 0, trim := 0, accumulator := 0, baseMs := 0, timers := [], expired := []
    filters := FieldInput.all.map fun i => (i, ⟨decide (i ∈ seen), 0, none⟩), edges := [] }

/-- R191: the link at power-on, at the speed the straps give. -/
def LinkUnit.fresh (baud : Nat) : LinkUnit :=
  { baud := baud, receiver := none, lastByte := 0, receive := [], busy := [], notices := [], waiting := [], overrun := false,
    transmitter := .idle }

/-- R179: the speed the two straps choose. -/
def baudOf (strap1 strap2 : Bool) : Nat :=
  match strap2, strap1 with
  | false, false => 115200
  | false, true => 230400
  | true, false => 460800
  | true, true => 921600

/-- R16, R31, R55, R76, R98, R117, R141, R161, R176, R178: every block at power-on, its settings those of `set`, before any
notice is queued or any event fires. The line reset pin counts as released until its next assertion, the model's choice
(log 37). -/
def State.fresh (image : Option StoredSet) (set : StoredSet) (seen : List FieldInput) (baud draws : Nat)
    (pending : List Instr) : State :=
  { powered := true, pin := false
    line := { state := if set.locked then .ready else .setup, origin := none, cause := none, drainLimit := set.drainLimit }
    time := .fresh seen
    track := { tracks := set.tracks.mapVals fun _ t => t.load, cells := [] }
    parcel := { parcels := [], lots := [], current := none, staged := none, lastSeq := 65535 }
    probe := .fresh set seen
    credit := { rates := set.rates, recipes := set.recipes, chains := Table.fill (fun _ => ⟨none, 0⟩) 1 16, outfeedNotices := false }
    dist := .fresh set seen
    transfer := .fresh set seen
    comm := { generation := set.generation, record := set.record, locked := set.locked
              key := decide (FieldInput.commissionKey ∈ seen), owed := false }
    store := { image := image, save := none, owed := none }
    link := .fresh baud
    pins := .withdrawn, draws := draws, pending := pending }

/-- The LINE STATE notice of power-on (R14, R16) on a line that comes up in SETUP at line time 0. -/
def powerOnNotice : Notice := ⟨0, .lineState .setup none .powerOn none .absent⟩

/-- The machine right after power-on with an INVALID image, every input deasserted and both straps low (log 1). The
transmitter has begun to send the POWER_ON notice. -/
def State.reset : State :=
  let s := State.fresh none .factory [] (baudOf false false) 0 []
  { s with link := { s.link with notices := [powerOnNotice], transmitter := .notice powerOnNotice true } }

end Sys2Proof.Machine
end

