-- ==== Sys2Proof/Machine/Flags.lean ====
section
/-! DEFINITION. Every condition, mark and level the guide derives from the records: zones and cells, trip conditions, latches
and routes, the infeed hold, the drive outputs, the states of store and lots, CRC. -/

namespace Sys2Proof.Machine

/-! ### Levels and trip sources -/

/-- The value of one level. -/
def LevelMap.look {α : Type} (m : LevelMap α) : LevelName → α
  | .lowCrit => m.lowCrit
  | .low => m.low
  | .high => m.high
  | .highCrit => m.highCrit

/-- The map with one level's value replaced. -/
def LevelMap.put {α : Type} (m : LevelMap α) (a : α) : LevelName → LevelMap α
  | .lowCrit => { m with lowCrit := a }
  | .low => { m with low := a }
  | .high => { m with high := a }
  | .highCrit => { m with highCrit := a }

/-- R80: the four levels in their order. -/
def LevelName.all : List LevelName := [.lowCrit, .low, .high, .highCrit]

/-- R89: the five sources of a channel. -/
def TripSource.ofChannel (c : Nat) : List TripSource := LevelName.all.map (TripSource.level c) ++ [.stale c]

/-- R80: the channel numbers. -/
def channelNumbers : List Nat := [1, 2, 3, 4, 5, 6, 7, 8, 9, 10, 11, 12, 13, 14, 15, 16]

/-- R89: the 82 trip sources. -/
def TripSource.all : List TripSource := channelNumbers.flatMap TripSource.ofChannel ++ [.exposure, .shuttleFault]

/-- R90: the present route of a source. -/
def State.route (s : State) : TripSource → Route
  | .level c l => match s.probe.channels.get? c with
    | some ch => ch.routes.look l
    | none => .empty
  | .stale c => match s.probe.channels.get? c with
    | some ch => ch.staleRoute
    | none => .empty
  | .exposure => s.probe.exposure.route
  | .shuttleFault => s.probe.shuttleFault.route

/-- R89: whether a source's latch is set. -/
def State.latch (s : State) : TripSource → Bool
  | .level c l => match s.probe.channels.get? c with
    | some ch => ch.latches.look l
    | none => false
  | .stale c => match s.probe.channels.get? c with
    | some ch => ch.staleLatch
    | none => false
  | .exposure => s.probe.exposure.latch
  | .shuttleFault => s.probe.shuttleFault.latch

/-- R89, R95: whether a source's condition holds. EXPOSURE's holds for the raise alone. -/
def State.condition (s : State) : TripSource → Bool
  | .level c l => match s.probe.channels.get? c with
    | some ch => ch.conditions.look l
    | none => false
  | .stale c => match s.probe.channels.get? c with
    | some ch => decide (ch.state = .stale)
    | none => false
  | .exposure => false
  | .shuttleFault => decide (s.transfer.shuttle.state = .faulted)

/-- R93: the infeed hold is in force while a latched source's present route includes HOLD_INFEED. -/
def State.infeedHold (s : State) : Bool := TripSource.all.any fun x => s.latch x && (s.route x).holdInfeed

/-- R3, R94: a latched source's present route includes STOP_LINE. -/
def State.stopLatched (s : State) : Bool := TripSource.all.any fun x => s.latch x && (s.route x).stopLine

/-- R97, R187: the number of latches set across the 82 sources. -/
def State.latchCount (s : State) : Nat := (TripSource.all.filter s.latch).length

/-- R87: an external trip input bound to this channel and level is asserted. -/
def State.forced (s : State) (c : Nat) (l : LevelName) : Bool :=
  s.probe.external.any fun e => e.2.level && decide (e.2.binding = some (c, l))

/-! ### Line state -/

/-- R2, R40: the states in which belts run and counters count. -/
def LineState.runs : LineState → Bool
  | .running => true
  | .draining => true
  | .proving => true
  | .setup => false
  | .ready => false
  | .halted => false

/-- R1: the state a lock calls for when the line is at rest. -/
def restState (locked : Bool) : LineState := if locked then .ready else .setup

/-- R2: RUN of track `n`: asserted in the running states on a defined track that is not BACKED_UP. -/
def State.trackRun (s : State) (n : Nat) : Bool :=
  match s.track.tracks.get? n with
  | some t => s.line.state.runs && !t.backedUp
  | none => false

/-- R2: infeed RUN: asserted in RUNNING and PROVING while no infeed hold is in force. -/
def State.infeedRun (s : State) : Bool :=
  (decide (s.line.state = .running) || decide (s.line.state = .proving)) && !s.infeedHold

/-- R150: the station code lines. -/
def Shuttle.station (sh : Shuttle) : Nat :=
  match sh.state, sh.job with
  | .assigned, some j => j.station
  | .carrying, some j => j.station
  | _, _ => 0

/-- R122: SEAL DEMAND of a lane. -/
def State.sealDemand (s : State) (n : Nat) : Bool :=
  match s.dist.lanes.get? n with
  | some l => decide (l.state = .sealing)
  | none => false

/-- R2, R122, R130, R150: the levels the records call for; R15: all withdrawn while the pin is asserted or power is off. -/
def State.drivenPins (s : State) : Pins :=
  if s.pin || !s.powered then .withdrawn
  else
    { trackRun := [s.trackRun 1, s.trackRun 2, s.trackRun 3, s.trackRun 4]
      infeedRun := s.infeedRun
      gates := [1, 2, 3, 4].map fun n => decide (s.dist.openGate = some n)
      sealDemand := [s.sealDemand 1, s.sealDemand 2, s.sealDemand 3, s.sealDemand 4]
      station := s.transfer.shuttle.station
      jobValid := s.transfer.shuttle.jobValid && decide (s.transfer.shuttle.state = .assigned) }

/-- R5: the line holds no parcel: every cell and every handover queue is empty. -/
def State.lineEmpty (s : State) : Bool := s.track.cells.isEmpty && s.track.tracks.all fun e => e.2.queue.isEmpty

/-! ### Zones and cells -/

/-- R36: the zones of one track, ids and first positions counted on from `id` and `start`. -/
def zonesFrom (n : Nat) : Nat → Nat → List Zone → List ZoneInfo
  | _, _, [] => []
  | id, start, z :: zs => ⟨id, n, start, z.length, z.kind, z.channel⟩ :: zonesFrom n (id + 1) (start + z.length) zs

/-- R36: the zone map of the tracks from the next id on. -/
def zoneMapFrom : Nat → Table Track → List ZoneInfo
  | _, [] => []
  | id, (n, t) :: ts => zonesFrom n id 0 t.zones ++ zoneMapFrom (id + t.zones.length) ts

/-- R36: the present zone map. -/
def TrackUnit.zoneMap (u : TrackUnit) : List ZoneInfo := zoneMapFrom 0 u.tracks

/-- R36: the zone of a position. -/
def TrackUnit.zoneAt (u : TrackUnit) (n pos : Nat) : Option ZoneInfo :=
  u.zoneMap.find? fun z => decide (z.track = n) && decide (z.start ≤ pos) && decide (pos < z.start + z.length)

/-- R36: the zone id of a position, read from the present map. -/
def TrackUnit.zoneId (u : TrackUnit) (n pos : Nat) : Option Nat := (u.zoneAt n pos).map fun z => z.id

/-- R82: a BLANCH zone is bound to the channel. -/
def TrackUnit.watchesBlanch (u : TrackUnit) (c : Nat) : Bool :=
  u.zoneMap.any fun z => decide (z.kind = .blanch) && decide (z.channel = some c)

/-- R105: a sample of channel `c` reaches this parcel. -/
def TrackUnit.reached (u : TrackUnit) (c : Nat) (p : Parcel) : Bool :=
  match p.zone with
  | some i => u.zoneMap.any fun z => decide (z.id = i) && decide (z.kind = .blanch) && decide (z.channel = some c)
  | none => false

/-- R92: this parcel stands at a position of a zone bound to channel `c`. -/
def TrackUnit.inZoneOf (u : TrackUnit) (c : Nat) (p : Parcel) : Bool :=
  match p.loc with
  | .track n pos => match u.zoneAt n pos with
    | some z => decide (z.channel = some c)
    | none => false
  | .queue _ _ => false

/-- R35: the cell at which a track's run begins. -/
def cellBase (n : Nat) : Table Track → Nat
  | [] => 0
  | (m, t) :: ts => if m < n then t.segments + cellBase n ts else cellBase n ts

/-- R38: position `pos` is held in ring cell (h - pos) mod S of the track's run. -/
def TrackUnit.cellOf (u : TrackUnit) (n : Nat) (t : Track) (pos : Nat) : Nat :=
  cellBase n u.tracks + (t.head + t.segments - pos) % t.segments

/-- R33: the track count. -/
def TrackUnit.count (u : TrackUnit) : Nat := u.tracks.length

/-- R39: the encoder input a defined track counts: its own, or that of its group's lowest-numbered member. -/
def TrackUnit.source (u : TrackUnit) (n : Nat) : Option Nat :=
  match u.tracks.get? n with
  | some t => if t.group = 0 then some n else (u.tracks.first? fun _ t' => decide (t'.group = t.group)).map fun e => e.1
  | none => none

/-! ### Channels -/

/-- R80: the EXIT channel. -/
def ProbeUnit.exitChannel (u : ProbeUnit) : Option Channel :=
  (u.channels.first? fun _ c => decide (c.role = .exit)).map fun e => e.2

/-- R80: a channel's state is LIVE. -/
def ProbeUnit.isLive (u : ProbeUnit) (c : Nat) : Bool :=
  match u.channels.get? c with
  | some ch => decide (ch.state = .live)
  | none => false

/-- R80: a channel's state is STALE. -/
def ProbeUnit.isStale (u : ProbeUnit) (c : Nat) : Bool :=
  match u.channels.get? c with
  | some ch => decide (ch.state = .stale)
  | none => false

/-- R3, R165: every channel bound to a BLANCH zone is LIVE, and so is the EXIT channel (log 22: there is one). -/
def State.probesLive (s : State) : Bool :=
  (s.track.zoneMap.all fun z => !decide (z.kind = .blanch) ||
    match z.channel with
    | some c => s.probe.isLive c
    | none => false) &&
  match s.probe.exitChannel with
  | some ch => decide (ch.state = .live)
  | none => false

/-- R44, R92: a condition routed to MARK_ZONE holds for the channel. -/
def State.markHolds (s : State) (c : Nat) : Bool :=
  (TripSource.ofChannel c).any fun x => s.condition x && (s.route x).markZone

/-! ### Lots, lanes, pallets, store -/

/-- R71: the state of a slot. -/
def ParcelUnit.slotState (u : ParcelUnit) (slot : Nat) : LotState :=
  match u.lots.get? slot with
  | some l => if l.retired.isSome then .retiring else .active
  | none => .free

/-- R3: an infeed declaration is present, current or staged. -/
def ParcelUnit.declared (u : ParcelUnit) : Bool := u.current.isSome || u.staged.isSome

/-- R65: the live parcel with this number. -/
def ParcelUnit.find (u : ParcelUnit) (q : Seq) : Option (Nat × Parcel) := u.parcels.first? fun _ p => decide (p.seq = q)

/-- R66: the number lies in the range, which runs through 65,535 when its last number is below its first. -/
def inRange (first last q : Seq) : Bool :=
  if first ≤ last then decide (first ≤ q) && decide (q ≤ last) else decide (first ≤ q) || decide (q ≤ last)

/-- R136: the bag record in use that holds this number. -/
def DistributionUnit.findBag (u : DistributionUnit) (number : Nat) : Option (Nat × Bag) :=
  u.bags.first? fun _ b => decide (b.number = number)

/-- R148: the pallet record in use that holds this number. -/
def TransferUnit.findPallet (u : TransferUnit) (number : Nat) : Option (Nat × Pallet) :=
  u.pallets.first? fun _ p => decide (p.number = number)

/-- R143: the BUILDING pallet of a lane. -/
def TransferUnit.building (u : TransferUnit) (lane : Nat) : Option (Nat × Pallet) :=
  u.pallets.first? fun _ p => decide (p.lane = lane) && decide (p.state = .building)

/-- R143: the verdict is QUARANTINE. -/
def Pallet.quarantined (p : Pallet) : Bool := p.exposed || p.stranded

/-- R113: the reason set has a reason. -/
def Reasons.isHeld (r : Reasons) : Bool :=
  r.trip || r.gap || r.manual || r.creditShort || r.dwellShort || r.exitUnknown || r.exitWarm

/-- R174, R176: the store state. -/
def StoreUnit.state (u : StoreUnit) : StoreState :=
  if u.save.isSome then .busy else if u.image.isSome then .valid else .invalid

/-- R164: a COMMISSION save is in flight. -/
def StoreUnit.commissioning (u : StoreUnit) : Bool :=
  match u.save with
  | some v => decide (v.kind = .commission)
  | none => false

/-- R3, R173: an UNLOCK save is in flight. -/
def StoreUnit.unlocking (u : StoreUnit) : Bool :=
  match u.save with
  | some v => decide (v.kind = .unlock)
  | none => false

/-! ### Timers by number -/

/-- R23: the place of a timer in the table of timers. -/
def TimerId.index : TimerId → Nat
  | .stall n => n - 1
  | .drain => 4
  | .gate => 5
  | .exposure k => 5 + k
  | .shuttleJob => 14

/-- R23: the timer at a place of the table. -/
def TimerId.ofIndex (i : Nat) : TimerId :=
  if i < 4 then .stall (i + 1)
  else if i = 4 then .drain
  else if i = 5 then .gate
  else if i < 14 then .exposure (i - 5)
  else .shuttleJob

/-- R130, R131: the dead time is running: the gate timer is ARMED, or its expiry has yet to be delivered (log 6). -/
def TimeUnit.gateRunning (u : TimeUnit) : Bool :=
  (u.timers.get? TimerId.gate.index).isSome || u.expired.contains .gate

/-! ### CRC -/

/-- One bit of the CRC with generator 0x1021, most significant bit first (R180). -/
def crcBit (c : BitVec 16) : BitVec 16 := if c.msb then (c <<< 1) ^^^ 0x1021#16 else c <<< 1

/-- One byte of the CRC (R180). -/
def crcByte (c : BitVec 16) (b : Byte) : BitVec 16 :=
  crcBit (crcBit (crcBit (crcBit (crcBit (crcBit (crcBit (crcBit (c ^^^ (b.setWidth 16 <<< 8)))))))))

/-- R180: the CRC of a run of bytes, started from 0xFFFF, with no final inversion. -/
def crc (bs : List Byte) : BitVec 16 := bs.foldl crcByte 0xFFFF#16

end Sys2Proof.Machine
end

