-- ==== Sys2Proof/Machine/Operands.lean ====
section
/-! DEFINITION. Operand forms: the kinds of R188 and the payload of every request, read by the layout of R189. A parser
answers none where the length is not one the request allows (BAD_LENGTH, R183); it makes no check of values. -/

namespace Sys2Proof.Machine

/-- R188: the kind byte of a request. -/
def Request.kind : Request → Byte
  | .start => 0x01
  | .stop => 0x02
  | .halt => 0x03
  | .resume => 0x04
  | .clear => 0x05
  | .resetLine => 0x06
  | .statusRead => 0x07
  | .timeRead => 0x10
  | .timeSet => 0x11
  | .timeTrim => 0x12
  | .trackDefine => 0x18
  | .zoneDefine => 0x19
  | .trackRead => 0x1A
  | .dividerReset => 0x1B
  | .noticeModeSet => 0x1C
  | .infeedDeclare => 0x20
  | .parcelRead => 0x21
  | .lotRead => 0x22
  | .holdRange => 0x23
  | .clearHoldRange => 0x24
  | .channelSet => 0x28
  | .offsetStep => 0x29
  | .levelsSet => 0x2A
  | .routeSet => 0x2B
  | .externalTripSet => 0x2C
  | .samplingSet => 0x2D
  | .tripAck => 0x2E
  | .channelRead => 0x2F
  | .rateTableSet => 0x30
  | .recipeThermalSet => 0x31
  | .recipePackingSet => 0x32
  | .classMapSet => 0x38
  | .deadTimeSet => 0x39
  | .laneOpen => 0x3A
  | .laneClose => 0x3B
  | .bagRead => 0x3C
  | .bagWeight => 0x3D
  | .palletClose => 0x40
  | .palletRead => 0x41
  | .shuttleReset => 0x42
  | .jobLimitSet => 0x43
  | .proveStart => 0x48
  | .proveAbort => 0x49
  | .provingRead => 0x4A
  | .commission => 0x4B
  | .unlock => 0x4C
  | .storeSave => 0x4D

/-- R188: every request. -/
def Request.all : List Request :=
  [.start, .stop, .halt, .resume, .clear, .resetLine, .statusRead, .timeRead, .timeSet, .timeTrim, .trackDefine, .zoneDefine,
    .trackRead, .dividerReset, .noticeModeSet, .infeedDeclare, .parcelRead, .lotRead, .holdRange, .clearHoldRange,
    .channelSet, .offsetStep, .levelsSet, .routeSet, .externalTripSet, .samplingSet, .tripAck, .channelRead,
    .rateTableSet, .recipeThermalSet, .recipePackingSet, .classMapSet, .deadTimeSet, .laneOpen, .laneClose, .bagRead,
    .bagWeight, .palletClose, .palletRead, .shuttleReset, .jobLimitSet, .proveStart, .proveAbort, .provingRead,
    .commission, .unlock, .storeSave]

/-- R188: the kind byte is that of a request. -/
def isRequestKind (k : Byte) : Bool := Request.all.any fun r => decide (r.kind = k)

/-- R180: the kind of the reply to a frame of this kind: the kind + 0x80, or 0x80 outside 0x01..0x5F. -/
def replyKind (k : Byte) : Byte := if 0x01 ≤ k ∧ k ≤ 0x5F then k + 0x80 else 0x80

/-! ### Numbers -/

/-- R180: a multi-byte number, low byte first. -/
def leNat : List Byte → Nat
  | [] => 0
  | b :: bs => b.toNat + 256 * leNat bs

/-- R180: a number of `bits` bits read in two's complement. -/
def twos (bits n : Nat) : Int := if n < 2 ^ (bits - 1) then (n : Int) else (n : Int) - (2 ^ bits : Nat)

/-- A signed two-byte number. -/
def leInt (bs : List Byte) : Int := twos 16 (leNat bs)

/-- R189: a field that may be absent, its flag byte and its value: absent for 0, present for 1, ill-formed otherwise (log 17). -/
def optField {α : Type} (flag : Nat) (a : α) : Option (Option α) :=
  if flag = 0 then some none else if flag = 1 then some (some a) else none

/-- R189: a yes or no byte, 1 for yes; any other value but 0 is ill-formed (log 17). -/
def yesNo (n : Nat) : Option Bool := if n = 0 then some false else if n = 1 then some true else none

/-- R33: notice modes are numbered OFF, EVERY, ZONE. -/
def NoticeMode.ofNat? (n : Nat) : Option NoticeMode :=
  if n = 0 then some .off else if n = 1 then some .every else if n = 2 then some .zone else none

/-- R36: zone kinds are numbered BLANCH, COOL, FREEZE, PLAIN. -/
def ZoneKind.ofNat? (n : Nat) : Option ZoneKind :=
  if n = 0 then some .blanch else if n = 1 then some .cool else if n = 2 then some .freeze
  else if n = 3 then some .plain else none

/-- R80, R81: roles are numbered ZONE, EXIT. -/
def Role.ofNat? (n : Nat) : Option Role := if n = 0 then some .zone else if n = 1 then some .exit else none

/-- R88: the levels a binding may name are numbered HIGH, HIGH_CRIT. -/
def bindingLevel? (n : Nat) : Option LevelName := if n = 0 then some .high else if n = 1 then some .highCrit else none

/-- R116: the outfeed notice setting is numbered ON, OFF (log 18). -/
def outfeedSetting? (n : Nat) : Option Bool := if n = 0 then some true else if n = 1 then some false else none

/-- R189: a trip source's two bytes. -/
def TripSource.ofBytes? (c n : Nat) : Option TripSource :=
  if c = 0 then (if n = 0 then some .exposure else if n = 1 then some .shuttleFault else none)
  else if c ≤ 16 then
    (if n = 0 then some (.level c .lowCrit) else if n = 1 then some (.level c .low) else if n = 2 then some (.level c .high)
      else if n = 3 then some (.level c .highCrit) else if n = 4 then some (.stale c) else none)
  else none

/-- R90, R189: an action set, bits NOTIFY, MARK_ZONE, HOLD_INFEED, STOP_LINE; another bit names no action. -/
def Route.ofNat? (n : Nat) : Option Route :=
  if n < 16 then some ⟨n.testBit 0, n.testBit 1, n.testBit 2, n.testBit 3⟩ else none

/-- R189: a set of lanes, bit 0 for lane 1; another bit names no lane. -/
def laneSet? (n : Nat) : Option (List Nat) :=
  if n < 16 then some ([1, 2, 3, 4].filter fun l => n.testBit (l - 1)) else none

/-! ### Payloads -/

/-- A request without fields. -/
def parseNone : List Byte → Option Unit
  | [] => some ()
  | _ => none

/-- STOP, with or without a drain limit (R4). -/
def parseStop : List Byte → Option (Option Nat)
  | [] => some none
  | [a, b] => some (some (leNat [a, b]))
  | _ => none

/-- One byte. -/
def parseByte : List Byte → Option Nat
  | [a] => some a.toNat
  | _ => none

/-- A two-byte number. -/
def parseWord : List Byte → Option Nat
  | [a, b] => some (leNat [a, b])
  | _ => none

/-- A signed two-byte number (R22). -/
def parseSigned : List Byte → Option Int
  | [a, b] => some (leInt [a, b])
  | _ => none

/-- A three-byte bag number (R140). -/
def parseBagNumber : List Byte → Option Nat
  | [a, b, c] => some (leNat [a, b, c])
  | _ => none

/-- A six-byte line time (R21). -/
def parseTime : List Byte → Option Nat
  | [a, b, c, d, e, f] => some (leNat [a, b, c, d, e, f])
  | _ => none

/-- R34: the fields of TRACK DEFINE. -/
structure TrackDefine where
  track : Nat
  segments : Nat
  pulses : Nat
  group : Nat
  stallLimit : Nat
  mode : Nat
  deriving DecidableEq, Repr

/-- TRACK DEFINE (R34). -/
def parseTrackDefine : List Byte → Option TrackDefine
  | [n, s0, s1, p0, p1, g, l0, l1, m] => some ⟨n.toNat, leNat [s0, s1], leNat [p0, p1], g.toNat, leNat [l0, l1], m.toNat⟩
  | _ => none

/-- R37: an entry of ZONE DEFINE: length, kind, and the channel with its flag. -/
structure ZoneEntry where
  length : Nat
  kind : Nat
  flag : Nat
  channel : Nat
  deriving DecidableEq, Repr

/-- R37: the fields of ZONE DEFINE. -/
structure ZoneDefine where
  track : Nat
  entries : List ZoneEntry
  deriving DecidableEq, Repr

/-- R189: the entries of a zone list, five bytes each. -/
def zoneEntries : List Byte → List ZoneEntry
  | l0 :: l1 :: k :: f :: c :: rest => ⟨leNat [l0, l1], k.toNat, f.toNat, c.toNat⟩ :: zoneEntries rest
  | _ => []

/-- ZONE DEFINE: track, count, entries (R37, R183). -/
def parseZoneDefine : List Byte → Option ZoneDefine
  | n :: k :: rest => if rest.length = 5 * k.toNat then some ⟨n.toNat, zoneEntries rest⟩ else none
  | _ => none

/-- TRACK READ: track, first position, count (R54). -/
def parseTrackRead : List Byte → Option (Nat × Nat × Nat)
  | [n, a, b, c, d] => some (n.toNat, leNat [a, b], leNat [c, d])
  | _ => none

/-- NOTICE MODE SET: track, mode, and the optional outfeed notice setting (R48, R116). -/
def parseNoticeMode : List Byte → Option (Nat × Nat × Option Nat)
  | [n, m] => some (n.toNat, m.toNat, none)
  | [n, m, o] => some (n.toNat, m.toNat, some o.toNat)
  | _ => none

/-- INFEED DECLARE: the twelve characters of the code, recipe, class (R58). -/
def parseDeclare (bs : List Byte) : Option (List Byte × Nat × Nat) :=
  match bs.drop 12 with
  | [r, c] => some (bs.take 12, r.toNat, c.toNat)
  | _ => none

/-- A sequence number (R65). -/
def parseSeq : List Byte → Option Seq
  | [a, b] => some (b ++ a)
  | _ => none

/-- HOLD RANGE and CLEAR HOLD RANGE: first and last number (R66, R67). -/
def parseRange : List Byte → Option (Seq × Seq)
  | [a, b, c, d] => some (b ++ a, d ++ c)
  | _ => none

/-- CHANNEL SET: channel, address, enable, role (R81). -/
def parseChannelSet : List Byte → Option (Nat × Nat × Nat × Nat)
  | [c, a, e, r] => some (c.toNat, a.toNat, e.toNat, r.toNat)
  | _ => none

/-- OFFSET STEP: channel, direction in two's complement (R84). -/
def parseOffsetStep : List Byte → Option (Nat × Int)
  | [c, d] => some (c.toNat, d.toInt)
  | _ => none

/-- R85: the fields of LEVELS SET. -/
structure LevelsSet where
  channel : Nat
  levels : LevelMap Int
  hysteresis : Nat
  deriving DecidableEq, Repr

/-- LEVELS SET: channel, LOW_CRIT, LOW, HIGH, HIGH_CRIT, hysteresis (R85). -/
def parseLevelsSet : List Byte → Option LevelsSet
  | [c, a0, a1, b0, b1, c0, c1, d0, d1, h] =>
    some ⟨c.toNat, ⟨leInt [a0, a1], leInt [b0, b1], leInt [c0, c1], leInt [d0, d1]⟩, h.toNat⟩
  | _ => none

/-- ROUTE SET: source, action set (R90). -/
def parseRouteSet : List Byte → Option (Nat × Nat × Nat)
  | [c, n, r] => some (c.toNat, n.toNat, r.toNat)
  | _ => none

/-- R88: the fields of EXTERNAL TRIP SET. -/
structure ExternalSet where
  input : Nat
  flag : Nat
  channel : Nat
  level : Nat
  deriving DecidableEq, Repr

/-- EXTERNAL TRIP SET: input, and the binding with its flag (R88). -/
def parseExternalSet : List Byte → Option ExternalSet
  | [i, f, c, l] => some ⟨i.toNat, f.toNat, c.toNat, l.toNat⟩
  | _ => none

/-- TRIP ACK: source (R96). -/
def parseSource : List Byte → Option (Nat × Nat)
  | [c, n] => some (c.toNat, n.toNat)
  | _ => none

/-- R189: the bands of a rate table, four bytes each. -/
def bandEntries : List Byte → List Band
  | f0 :: f1 :: w0 :: w1 :: rest => ⟨leInt [f0, f1], leNat [w0, w1]⟩ :: bandEntries rest
  | _ => []

/-- RATE TABLE SET: count, bands (R101, R183). -/
def parseRateTable : List Byte → Option (List Band)
  | k :: rest => if rest.length = 4 * k.toNat then some (bandEntries rest) else none
  | _ => none

/-- R103: the fields of RECIPE THERMAL SET. -/
structure ThermalSet where
  recipe : Nat
  requiredCredit : Nat
  minDwell : Nat
  maxExit : Int
  exposureLimit : Nat
  deriving DecidableEq, Repr

/-- RECIPE THERMAL SET: recipe, required credit, minimum dwell, maximum exit temperature, exposure limit (R103). -/
def parseThermal : List Byte → Option ThermalSet
  | [r, c0, c1, c2, d0, d1, e0, e1, x0, x1] =>
    some ⟨r.toNat, leNat [c0, c1, c2], leNat [d0, d1], leInt [e0, e1], leNat [x0, x1]⟩
  | _ => none

/-- R104: the fields of RECIPE PACKING SET. -/
structure PackingSet where
  recipe : Nat
  bagMin : Nat
  bagMax : Nat
  bagsPerPallet : Nat
  deriving DecidableEq, Repr

/-- RECIPE PACKING SET: recipe, bag minimum, bag maximum, bags per pallet (R104). -/
def parsePacking : List Byte → Option PackingSet
  | [r, a0, a1, b0, b1, n] => some ⟨r.toNat, leNat [a0, a1], leNat [b0, b1], n.toNat⟩
  | _ => none

/-- R189: the entries of a class map, lane set and run length. -/
def classEntries : List Byte → List (Nat × Nat)
  | l :: r :: rest => (l.toNat, r.toNat) :: classEntries rest
  | _ => []

/-- CLASS MAP SET: the count 7 of a full map, and its entries (R120, R183, log 19). -/
def parseClassMap : List Byte → Option (List (Nat × Nat))
  | k :: rest => if k.toNat = 7 ∧ rest.length = 14 then some (classEntries rest) else none
  | _ => none

/-- BAG WEIGHT: bag number, grams (R136). -/
def parseBagWeight : List Byte → Option (Nat × Nat)
  | [a, b, c, g0, g1] => some (leNat [a, b, c], leNat [g0, g1])
  | _ => none

/-- PALLET READ: pallet number and the optional part (R160, R186). -/
def parsePalletRead : List Byte → Option (Nat × Option Nat)
  | [a, b] => some (leNat [a, b], none)
  | [a, b, p] => some (leNat [a, b], some p.toNat)
  | _ => none

/-- PROVE START: recipe, N, margin (R165). -/
def parseProve : List Byte → Option (Nat × Nat × Nat)
  | [r, n, m] => some (r.toNat, n.toNat, m.toNat)
  | _ => none

end Sys2Proof.Machine
end

