-- ==== Sys2Proof/Machine/Ops.lean ====
section
/-! DEFINITION. The shared operations: one update per block, timers, the notice queue, lot retirement, line transitions,
halts, trip events, the transmitter, and the taking of a request. -/

namespace Sys2Proof.Machine

/-- The outcome of a command. -/
abbrev Outcome := Host.Outcome State Fault Refusal

/-! ### One update per block -/

/-- Update the line controller. -/
def State.onLine (s : State) (f : LineUnit → LineUnit) : State := { s with line := f s.line }
/-- Update the time base. -/
def State.onTime (s : State) (f : TimeUnit → TimeUnit) : State := { s with time := f s.time }
/-- Update the track unit. -/
def State.onTrack (s : State) (f : TrackUnit → TrackUnit) : State := { s with track := f s.track }
/-- Update the parcel unit. -/
def State.onParcel (s : State) (f : ParcelUnit → ParcelUnit) : State := { s with parcel := f s.parcel }
/-- Update the probe unit. -/
def State.onProbe (s : State) (f : ProbeUnit → ProbeUnit) : State := { s with probe := f s.probe }
/-- Update the credit unit. -/
def State.onCredit (s : State) (f : CreditUnit → CreditUnit) : State := { s with credit := f s.credit }
/-- Update the distribution unit. -/
def State.onDist (s : State) (f : DistributionUnit → DistributionUnit) : State := { s with dist := f s.dist }
/-- Update the transfer unit. -/
def State.onTransfer (s : State) (f : TransferUnit → TransferUnit) : State := { s with transfer := f s.transfer }
/-- Update the commissioning unit. -/
def State.onComm (s : State) (f : CommissionUnit → CommissionUnit) : State := { s with comm := f s.comm }
/-- Update the settings store. -/
def State.onStore (s : State) (f : StoreUnit → StoreUnit) : State := { s with store := f s.store }
/-- Update the host link. -/
def State.onLink (s : State) (f : LinkUnit → LinkUnit) : State := { s with link := f s.link }

/-- Apply `f` for each element of a list in turn. -/
def State.each {α : Type} (f : α → State → State) : List α → State → State
  | [], s => s
  | a :: l, s => State.each f l (f a s)

/-! ### Timers -/

/-- R24: arm a timer with a due, replacing any due it held; a due past the 48-bit maximum is the maximum. -/
def State.arm (s : State) (id : TimerId) (due : Nat) : State :=
  s.onTime fun u => { u with timers := u.timers.put id.index (min due Config.lineTimeMax) }

/-- R24: arm a timer with a duration counted from the present line time. -/
def State.armFor (s : State) (id : TimerId) (ms : Nat) : State := s.arm id (s.time.lineTime + ms)

/-- R26: return a timer to IDLE. -/
def State.cancel (s : State) (id : TimerId) : State := s.onTime fun u => { u with timers := u.timers.del id.index }

/-- R7, R12: cancel every track's stall timer. -/
def State.cancelStalls (s : State) : State := (((s.cancel (.stall 1)).cancel (.stall 2)).cancel (.stall 3)).cancel (.stall 4)

/-- R52: arm the stall timer of every defined track whose RUN output is asserted. -/
def State.armStalls (s : State) : State :=
  State.each (fun e s => if e.2.backedUp then s else s.armFor (.stall e.1) e.2.stallLimit) s.track.tracks s

/-! ### The notice queue -/

/-- R185: offer an ordinary notice. It enters when there is a free entry and no retained notice waits; otherwise it is dropped
and the overrun mark is set. It carries the present line time (R180). -/
def State.notify (s : State) (b : NoticeBody) : State :=
  s.onLink fun u =>
    if u.notices.length < Config.noticeDepth ∧ u.waiting = [] then { u with notices := u.notices ++ [⟨s.time.lineTime, b⟩] }
    else { u with overrun := true }

/-- R185: a retained notice takes an entry of the queue. -/
def State.enter (s : State) (b : NoticeBody) : State :=
  s.onLink fun u => { u with notices := u.notices ++ [⟨s.time.lineTime, b⟩] }

/-- R185: a retained notice joins the waiting list. -/
def State.await (s : State) (r : Retained) : State := s.onLink fun u => { u with waiting := u.waiting ++ [r] }

/-- R185: a retained notice leaves the waiting list without entering. -/
def State.withdraw (s : State) (r : Retained) : State :=
  s.onLink fun u => { u with waiting := u.waiting.filter fun x => !decide (x = r) }

/-- R185: the notice queue has a free entry. -/
def LinkUnit.hasRoom (u : LinkUnit) : Bool := decide (u.notices.length < Config.noticeDepth)

/-! ### Lots -/

/-- R72: change a lot record. -/
def State.onLot (s : State) (slot : Nat) (f : Lot → Lot) : State :=
  s.onParcel fun u => { u with lots := u.lots.modify slot f }

/-- R73: a lot's summary enters the notice queue, and its slot becomes FREE in the same step. -/
def State.enterSummary (s : State) (slot : Nat) : State :=
  match s.parcel.lots.get? slot with
  | some l => (s.enter (.lotSummary slot l)).onParcel fun u => { u with lots := u.lots.del slot }
  | none => s

/-- R73, R185: offer a lot's summary as a retained notice. -/
def State.offerSummary (s : State) (slot : Nat) : State :=
  if s.link.hasRoom then s.enterSummary slot else s.await (.lotSummary slot)

/-- R73: an ACTIVE lot that is not current and that nothing refers to may retire. -/
def ParcelUnit.mayRetire (u : ParcelUnit) (slot : Nat) (l : Lot) : Bool :=
  !decide (u.current = some slot) && decide (l.live = 0) && decide (l.bagRefs = 0) && decide (l.palletRefs = 0) &&
    l.retired.isNone

/-- R73: the retirement test. -/
def State.retireTest (s : State) (slot : Nat) : State :=
  match s.parcel.lots.get? slot with
  | some l =>
    if s.parcel.mayRetire slot l then
      (s.onLot slot fun l => { l with retired := some s.time.lineTime }).offerSummary slot
    else s
  | none => s

/-- R59, R60: the lot of `slot` becomes current and the staged declaration absent; a different lot that was current is tested
for retirement. -/
def State.makeCurrent (s : State) (slot : Nat) : State :=
  let s' := s.onParcel fun u => { u with current := some slot, staged := none }
  match s.parcel.current with
  | some old => if old = slot then s' else s'.retireTest old
  | none => s'

/-- R60: the current declaration becomes absent; its lot is tested for retirement. -/
def State.dropCurrent (s : State) : State :=
  let s' := s.onParcel fun u => { u with current := none }
  match s.parcel.current with
  | some old => s'.retireTest old
  | none => s'

/-- R59, R60: a new lot record, every count 0 and the sequence numbers absent. -/
def Lot.new (code : List Byte) (recipe cls : Nat) (proving : Bool) : Lot :=
  { code := code, recipe := recipe, cls := cls, proving := proving, created := 0, released := 0, held := 0, redirected := 0,
    lost := 0, bagsAccepted := 0, bagsRejected := 0, palletsStored := 0, palletsQuarantined := 0, firstSeq := none,
    lastSeq := none, live := 0, bagRefs := 0, palletRefs := 0, retired := none }

/-- R59, R60: write a new lot into a slot. -/
def State.newLot (s : State) (slot : Nat) (l : Lot) : State := s.onParcel fun u => { u with lots := u.lots.put slot l }

/-! ### Parcels -/

/-- R69: a parcel retired as LOST in its lot's account. -/
def Lot.lose (l : Lot) : Lot := { l with lost := l.lost + 1, live := l.live - 1 }

/-- Change every live parcel that satisfies `p`. -/
def State.markParcels (s : State) (p : Parcel → Bool) (f : Parcel → Parcel) : State :=
  s.onParcel fun u => { u with parcels := u.parcels.mapVals fun _ x => if p x then f x else x }

/-- R64: add TRIP. -/
def Parcel.addTrip (p : Parcel) : Parcel := { p with deviation := { p.deviation with trip := true } }
/-- R64: add GAP. -/
def Parcel.addGap (p : Parcel) : Parcel := { p with deviation := { p.deviation with gap := true } }
/-- R64, R66, R67: set or remove MANUAL. -/
def Parcel.setManual (p : Parcel) (b : Bool) : Parcel := { p with deviation := { p.deviation with manual := b } }

/-! ### The line state -/

/-- R1, R14: write the line state record and queue the LINE STATE notice with the state that was left. -/
def State.setLine (s : State) (state : LineState) (origin : Option LineState) (cause : Option HaltCause) (why : LineCause)
    (detail : CauseDetail) : State :=
  (s.onLine fun u => { u with state := state, origin := origin, cause := cause }).notify
    (.lineState state (some s.line.state) why origin detail)

/-- R41: hold every pulse counter at 0. -/
def State.holdCounters (s : State) : State :=
  s.onTrack fun u => { u with tracks := u.tracks.mapVals fun _ t => { t with counter := 0 } }

/-- R5, R11: clear every BACKED_UP mark. -/
def State.clearBacked (s : State) : State :=
  s.onTrack fun u => { u with tracks := u.tracks.mapVals fun _ t => { t with backedUp := false } }

/-- R3, R12, R41: release the sync hold with every counter at 0, assert RUN on every defined track (so no BACKED_UP mark
stands, log 21), and arm the stall timers. -/
def State.releaseSync (s : State) : State := s.holdCounters.clearBacked.armStalls

/-- R170: a RUNNING proving record ends ABORTED with the present line time, and the current declaration becomes absent. -/
def State.endProving (s : State) : State :=
  match s.comm.record.result, s.comm.record.run with
  | .running, some r =>
    (s.onComm fun u => { u with record := ⟨.aborted, some { r with ended := some s.time.lineTime }⟩ }).dropCurrent
  | _, _ => s

/-- R170: end a RUNNING proving record ABORTED and queue PROVING RESULT. -/
def State.abortProving (s : State) : State :=
  if s.comm.record.result = .running then
    let s' := s.endProving
    s'.notify (.provingResult s'.comm.record)
  else s

/-- R14: the notice cause of a halt. -/
def HaltCause.why : HaltCause → LineCause
  | .request => .request
  | .trip _ => .trip
  | .stall _ => .stall
  | .drainTimeout => .drainTimeout

/-- R14: the cause detail of a halt. -/
def HaltCause.detail : HaltCause → CauseDetail
  | .request => .absent
  | .trip x => .source x
  | .stall n => .track n
  | .drainTimeout => .absent

/-- R6, R7, R8, R9: enter HALTED from a running state: stall timers cancelled, the drain timer cancelled when the origin is
DRAINING, origin and cause written, LINE STATE queued, and a proving run ended when the origin is PROVING. -/
def State.enterHalted (s : State) (cause : HaltCause) : State :=
  let s1 := s.cancelStalls
  let s2 := if s.line.state = .draining then s1.cancel .drain else s1
  let s3 := s2.setLine .halted (some s.line.state) (some cause) cause.why cause.detail
  if s.line.state = .proving then s3.abortProving else s3

/-- R8: take a halt raised by another block: it acts in the running states and leaves the record unchanged in the others, and
while the line reset pin is asserted (R15). -/
def State.raiseHalt (s : State) (cause : HaltCause) : State :=
  if s.line.state.runs ∧ s.pin = false then s.enterHalted cause else s

/-- R5: in DRAINING, a line that holds no parcel passes on to READY. -/
def State.emptyTest (s : State) : State :=
  if s.line.state = .draining ∧ s.lineEmpty = true then
    (((s.cancel .drain).cancelStalls.holdCounters).clearBacked).setLine .ready none none .drained .absent
  else s

/-! ### Trip events -/

/-- R89: set or clear a source's latch. -/
def State.setLatch (s : State) (x : TripSource) (b : Bool) : State :=
  s.onProbe fun u =>
    match x with
    | .level c l => { u with channels := u.channels.modify c fun ch => { ch with latches := ch.latches.put b l } }
    | .stale c => { u with channels := u.channels.modify c fun ch => { ch with staleLatch := b } }
    | .exposure => { u with exposure := { u.exposure with latch := b } }
    | .shuttleFault => { u with shuttleFault := { u.shuttleFault with latch := b } }

/-- The channel of a channel source. -/
def TripSource.channel : TripSource → Option Nat
  | .level c _ => some c
  | .stale c => some c
  | .exposure => none
  | .shuttleFault => none

/-- R91: what a TRIP notice says of the source's channel; the last miss cause for a STALE event alone. -/
def State.tripChannel (s : State) : TripSource → Option TripChannel
  | .level c _ => (s.probe.channels.get? c).map fun ch => ⟨ch.lastValue, ch.overRange, ch.state, none⟩
  | .stale c => (s.probe.channels.get? c).map fun ch => ⟨ch.lastValue, ch.overRange, ch.state, ch.lastMiss⟩
  | .exposure => none
  | .shuttleFault => none

/-- R92: add TRIP to every live parcel at a position of a zone bound to the source's channel. -/
def State.markZone (s : State) (x : TripSource) : State :=
  match x.channel with
  | some c => s.markParcels (s.track.inZoneOf c) Parcel.addTrip
  | none => s

/-- R89: an event fires: the latch is set, TRIP is queued with NOTIFY (R91), and the other actions of the route are carried
out (R92, R94; the infeed hold of R93 follows from latch and route). TRIP is queued before the LINE STATE of the halt, the
model's choice (log 11). -/
def State.fire (s : State) (x : TripSource) (cause : TripCause) (pallet time : Nat) : State :=
  let r := s.route x
  let s1 := s.setLatch x true
  let s2 := if r.notify then s1.notify (.trip x cause (s.tripChannel x) pallet r time) else s1
  let s3 := if r.markZone then s2.markZone x else s2
  if r.stopLine then s3.raiseHalt (.trip x) else s3

/-- R87, R89: form the four conditions of a channel again from its sample results and the external forcing, and fire an event
for each that begins to hold, in the order of the levels (log 10). -/
def State.reform (s : State) (c : Nat) (cause : TripCause) (time : Nat) : State :=
  match s.probe.channels.get? c with
  | some ch =>
    let now : LevelMap Bool :=
      ⟨ch.results.lowCrit || s.forced c .lowCrit, ch.results.low || s.forced c .low,
        ch.results.high || s.forced c .high, ch.results.highCrit || s.forced c .highCrit⟩
    let s' := s.onProbe fun u => { u with channels := u.channels.modify c fun ch => { ch with conditions := now } }
    State.each (fun l s => if now.look l && !ch.conditions.look l then s.fire (.level c l) cause 0 time else s) LevelName.all s'
  | none => s

/-! ### The end of a command -/

/-- R184: when the transmitter is idle it chooses the oldest reply made, then the oldest BUSY reply, then the oldest notice. A
reply leaves its place as it is chosen (its first byte is sent, log 15); a notice stays until its last byte is sent. -/
def LinkUnit.choose (u : LinkUnit) : LinkUnit :=
  match u.transmitter with
  | .idle =>
    match u.receive with
    | .answered r :: rest => { u with transmitter := .reply r, receive := rest }
    | _ =>
      match u.busy with
      | r :: rest => { u with transmitter := .reply r, busy := rest }
      | [] =>
        match u.notices with
        | n :: _ => { u with transmitter := .notice n true }
        | [] => u
  | _ => u

/-- The end of a command: the transmitter chooses (it sends nothing while the pin is asserted, R184), and the outputs are
driven as the records now call for. -/
def State.finish (s : State) : State :=
  let s' := if s.pin || !s.powered then s else s.onLink LinkUnit.choose
  { s' with pins := s'.drivenPins }

/-- One command of a powered part: its effect, then the end of the command. An unpowered part does nothing (log 14). -/
def State.act (s : State) (effect : State → State) : Outcome := .next (if s.powered then (effect s).finish else s)

/-! ### Taking a request -/

/-- R182, R183: the oldest frame of the receive queue that waits to be handed on. -/
def LinkUnit.oldest (u : LinkUnit) : Option Frame :=
  match u.receive.find? fun p => match p with
      | .waiting _ => true
      | .answered _ => false with
  | some (.waiting f) => some f
  | _ => none

/-- R182: a reply takes the place of the oldest waiting frame. -/
def answerOldest (r : Reply) : List Place → List Place
  | [] => []
  | .answered q :: rest => .answered q :: answerOldest r rest
  | .waiting _ :: rest => .answered r :: rest

/-- R183: answer the request that has been handed on. -/
def State.answer (s : State) (f : Frame) (b : ReplyBody) : State :=
  s.onLink fun u => { u with receive := answerOldest ⟨replyKind f.kind, f.tag, b⟩ u.receive }

/-- R13: a cell of the availability table. -/
inductive Cell
  | yes | no | lock
  deriving DecidableEq, Repr

/-- R13: the availability table. -/
def Request.cell : Request → LineState → Cell
  | .start, .ready => .yes
  | .start, _ => .no
  | .stop, .running => .yes
  | .stop, .draining => .yes
  | .stop, _ => .no
  | .halt, .setup => .no
  | .halt, .ready => .no
  | .halt, _ => .yes
  | .resume, .halted => .yes
  | .resume, _ => .no
  | .clear, .halted => .yes
  | .clear, _ => .no
  | .resetLine, .setup => .yes
  | .resetLine, .ready => .yes
  | .resetLine, .halted => .yes
  | .resetLine, _ => .no
  | .timeSet, .setup => .yes
  | .timeSet, .ready => .yes
  | .timeSet, _ => .no
  | .trackDefine, .setup => .yes
  | .trackDefine, _ => .lock
  | .zoneDefine, .setup => .yes
  | .zoneDefine, _ => .lock
  | .dividerReset, .setup => .yes
  | .dividerReset, .ready => .yes
  | .dividerReset, .halted => .yes
  | .dividerReset, _ => .no
  | .infeedDeclare, .setup => .no
  | .infeedDeclare, .proving => .no
  | .infeedDeclare, _ => .yes
  | .channelSet, .setup => .yes
  | .channelSet, _ => .lock
  | .offsetStep, .setup => .yes
  | .offsetStep, _ => .lock
  | .levelsSet, .setup => .yes
  | .levelsSet, _ => .lock
  | .routeSet, .setup => .yes
  | .routeSet, _ => .lock
  | .externalTripSet, .setup => .yes
  | .externalTripSet, _ => .lock
  | .rateTableSet, .setup => .yes
  | .rateTableSet, _ => .lock
  | .recipeThermalSet, .setup => .yes
  | .recipeThermalSet, _ => .lock
  | .recipePackingSet, .setup => .no
  | .recipePackingSet, .proving => .no
  | .recipePackingSet, _ => .yes
  | .classMapSet, .setup => .no
  | .classMapSet, .proving => .no
  | .classMapSet, _ => .yes
  | .deadTimeSet, .setup => .no
  | .deadTimeSet, .proving => .no
  | .deadTimeSet, _ => .yes
  | .laneOpen, .setup => .no
  | .laneOpen, .proving => .no
  | .laneOpen, _ => .yes
  | .laneClose, .setup => .no
  | .laneClose, .proving => .no
  | .laneClose, _ => .yes
  | .proveStart, .setup => .yes
  | .proveStart, _ => .no
  | .proveAbort, .proving => .yes
  | .proveAbort, _ => .no
  | .commission, .setup => .yes
  | .commission, _ => .no
  | .unlock, .ready => .yes
  | .unlock, _ => .no
  | .storeSave, .proving => .no
  | .storeSave, _ => .yes
  | .statusRead, _ => .yes
  | .timeRead, _ => .yes
  | .trackRead, _ => .yes
  | .parcelRead, _ => .yes
  | .lotRead, _ => .yes
  | .channelRead, _ => .yes
  | .bagRead, _ => .yes
  | .palletRead, _ => .yes
  | .provingRead, _ => .yes
  | .timeTrim, _ => .yes
  | .noticeModeSet, _ => .yes
  | .holdRange, _ => .yes
  | .clearHoldRange, _ => .yes
  | .samplingSet, _ => .yes
  | .tripAck, _ => .yes
  | .bagWeight, _ => .yes
  | .palletClose, _ => .yes
  | .shuttleReset, _ => .yes
  | .jobLimitSet, _ => .yes

/-- R13: what the availability table answers, absent when it admits the request. -/
def State.unavailable (s : State) (r : Request) : Option Status :=
  match r.cell s.line.state with
  | .yes => none
  | .no => some .wrongState
  | .lock => if s.comm.locked then some .locked else some .wrongState

/-- R183: the link hands on the oldest waiting frame when it is of this request's kind: BAD_LENGTH where its payload does not
parse, then the availability table, then the owner's checks and action. No frame is handed on while the line reset pin is
asserted (log 13), and a frame of another kind is another command's (log 2). -/
def State.handOn {α : Type} (s : State) (r : Request) (parse : List Byte → Option α)
    (owner : α → State → State × ReplyBody) : State :=
  if s.pin then s
  else
    match s.link.oldest with
    | none => s
    | some f =>
      if f.kind = r.kind then
        match parse f.payload with
        | none => s.answer f (.status .badLength)
        | some a =>
          match s.unavailable r with
          | some st => s.answer f (.status st)
          | none =>
            let out := owner a s
            out.1.answer f out.2
      else s

/-- A refusal: the reply carries the status alone, and nothing changes. -/
def State.refuse (s : State) (st : Status) : State × ReplyBody := (s, .status st)

/-- R164: an accepted edit of the validated set advances the generation, and ends a PASS proving record (log 24). -/
def State.edited (s : State) : State :=
  s.onComm fun u =>
    { u with generation := u.generation + 1, record := if u.record.result = .pass then .blank else u.record }

/-! ### Edges and expiries -/

/-- R29: the oldest undelivered edge of an input, taken out of the list. -/
def takeEdgeFrom (i : FieldInput) : List Edge → Option (Edge × List Edge)
  | [] => none
  | e :: es =>
    if e.input = i then some (e, es)
    else
      match takeEdgeFrom i es with
      | some (x, rest) => some (x, e :: rest)
      | none => none

/-- R29: deliver the oldest undelivered edge of an input to its owner; without one nothing happens (log 5). -/
def State.deliver (s : State) (i : FieldInput) (owner : Edge → State → State) : State :=
  match takeEdgeFrom i s.time.edges with
  | some (e, rest) => owner e (s.onTime fun u => { u with edges := rest })
  | none => s

/-- R25, R26: deliver a timer's expiry to its owner; without one nothing happens (log 5), and while the line reset pin is
asserted it is lost (R15). -/
def State.expire (s : State) (id : TimerId) (owner : State → State) : State :=
  if s.time.expired.contains id then
    let s' := s.onTime fun u => { u with expired := u.expired.erase id }
    if s.pin then s' else owner s'
  else s

end Sys2Proof.Machine
end

