-- ==== Sys2Proof/Machine/Credit.lean ====
section
/-! DEFINITION. The credit unit (chapter 6): the rate table and recipes, the chain of each channel, the increment, zone
entries and the release verdict. -/

namespace Sys2Proof.Machine

/-! ### The rate table and the recipes -/

/-- R100: the band with the greatest floor at or below a temperature. -/
def bandFor : List Band → Int → Option Band
  | [], _ => none
  | b :: bs, t =>
    match bandFor bs t with
    | some b' => if b.floor ≤ t ∧ b'.floor < b.floor then some b else some b'
    | none => if b.floor ≤ t then some b else none

/-- R100: the weight of a temperature, 0 below the first floor and in an empty table. -/
def weightOf (bs : List Band) (t : Int) : Nat :=
  match bandFor bs t with
  | some b => b.weight
  | none => 0

/-- R101: the floors rise strictly and the weights never fall. -/
def bandsRise : List Band → Bool
  | [] => true
  | [_] => true
  | b :: b' :: bs => decide (b.floor < b'.floor) && decide (b.weight ≤ b'.weight) && bandsRise (b' :: bs)

/-- R100, R101: what RATE TABLE SET asks of its list. -/
def ratesOk (bs : List Band) : Bool :=
  decide (1 ≤ bs.length) && decide (bs.length ≤ 24) && (bs.all fun b => decide (-500 ≤ b.floor) && decide (b.floor ≤ 1500)) &&
    bandsRise bs

/-- R101: RATE TABLE SET. -/
def doRateTableSet (bs : List Band) (s : State) : State × ReplyBody :=
  if !ratesOk bs then s.refuse .badValue
  else if s.store.commissioning then s.refuse .busy
  else ((s.onCredit fun u => { u with rates := bs }).edited, .rateTable bs)

/-- RATE TABLE SET (R101). -/
def execRateTableSet (s : State) : Outcome := s.act fun s => s.handOn .rateTableSet parseRateTable doRateTableSet

/-- R102: the ranges of the thermal part. -/
def ThermalSet.ok (d : ThermalSet) : Bool :=
  decide (d.recipe ≤ 15) && decide (1 ≤ d.requiredCredit) && decide (d.requiredCredit ≤ 16000000) &&
    decide (1 ≤ d.minDwell) && decide (d.minDwell ≤ 14400) && decide (-500 ≤ d.maxExit) && decide (d.maxExit ≤ 1500) &&
    decide (60 ≤ d.exposureLimit) && decide (d.exposureLimit ≤ 7200)

/-- R103: the recipe with its thermal part replaced. -/
def Recipe.withThermal (r : Recipe) (d : ThermalSet) : Recipe :=
  { r with requiredCredit := d.requiredCredit, minDwell := d.minDwell, maxExit := d.maxExit, exposureLimit := d.exposureLimit }

/-- A recipe record; recipes 0..15 are always in the table. -/
def CreditUnit.recipe (u : CreditUnit) (n : Nat) : Recipe := (u.recipes.get? n).getD Recipe.factory

/-- R103: RECIPE THERMAL SET. -/
def doRecipeThermalSet (d : ThermalSet) (s : State) : State × ReplyBody :=
  if !d.ok then s.refuse .badValue
  else if s.store.commissioning then s.refuse .busy
  else
    let r := (s.credit.recipe d.recipe).withThermal d
    ((s.onCredit fun u => { u with recipes := u.recipes.put d.recipe r }).edited, .recipe r)

/-- RECIPE THERMAL SET (R103). -/
def execRecipeThermalSet (s : State) : Outcome := s.act fun s => s.handOn .recipeThermalSet parseThermal doRecipeThermalSet

/-- R104: what RECIPE PACKING SET asks of its fields. -/
def PackingSet.ok (d : PackingSet) : Bool :=
  decide (d.recipe ≤ 15) && decide (1 ≤ d.bagsPerPallet) && decide (d.bagsPerPallet ≤ 120) && decide (d.bagMin ≤ d.bagMax)

/-- R104: RECIPE PACKING SET; the generation does not advance. -/
def doRecipePackingSet (d : PackingSet) (s : State) : State × ReplyBody :=
  if !d.ok then s.refuse .badValue
  else
    let r := { s.credit.recipe d.recipe with bagMin := d.bagMin, bagMax := d.bagMax, bagsPerPallet := d.bagsPerPallet }
    (s.onCredit fun u => { u with recipes := u.recipes.put d.recipe r }, .recipe r)

/-- RECIPE PACKING SET (R104). -/
def execRecipePackingSet (s : State) : Outcome := s.act fun s => s.handOn .recipePackingSet parsePacking doRecipePackingSet

/-! ### The chain of a channel -/

/-- R107: the cases of a sample. -/
inductive ChainCase
  /-- No previous sample. -/
  | fresh
  /-- A break with GAP. -/
  | gapBreak
  /-- A break without GAP. -/
  | quietBreak
  /-- An increment from this previous sample. -/
  | increment (value : Int) (time : Nat)
  deriving DecidableEq, Repr

/-- R107: the judgement of the chain record. -/
def Chain.judge (ch : Chain) (t : Nat) (wasStale : Bool) : ChainCase :=
  match ch.previous with
  | none => .fresh
  | some (v, t') =>
    if t' + Config.chainLimit < t then .gapBreak
    else if wasStale then .quietBreak
    else .increment v t'

/-- R109: the product P of an interval: the lower weight times the interval, plus the residue. -/
def creditProduct (rates : List Band) (v' v : Int) (dt residue : Nat) : Nat :=
  min (weightOf rates v') (weightOf rates v) * dt + residue

/-- R107: an unarmed parcel becomes armed. -/
def Parcel.arm (p : Parcel) : Parcel := { p with armed := true }
/-- R108: a parcel becomes unarmed. -/
def Parcel.disarm (p : Parcel) : Parcel := { p with armed := false }
/-- R110: an armed parcel gains I, up to the ceiling; an unarmed one becomes armed. -/
def Parcel.gain (i : Nat) (p : Parcel) : Parcel :=
  if p.armed then { p with credit := min (p.credit + i) Config.creditMax } else p.arm

/-- R105: write the chain record of a channel. -/
def State.setChain (s : State) (c : Nat) (ch : Chain) : State := s.onCredit fun u => { u with chains := u.chains.put c ch }

/-- R110: the credit views of a parcel's zone entries in base millisecond `now`. -/
def Parcel.views (now : Nat) (p : Parcel) : List CreditView := if p.movedAt = now then p.past else []

/-- R110: a parcel about to take a zone entry in base millisecond `now`: its credit zone and arming are kept as a view. -/
def Parcel.remember (now : Nat) (p : Parcel) : Parcel := { p with movedAt := now, past := p.views now ++ [⟨p.zone, p.armed⟩] }

/-- R110: a parcel as one of its views shows it. -/
def Parcel.asOf (v : CreditView) (p : Parcel) : Parcel := { p with zone := v.zone, armed := v.armed }

/-- R105: the effect of a sample on a parcel, where the sample reaches it. -/
def Parcel.sampled (reached : Parcel → Bool) (f : Parcel → Parcel) (p : Parcel) : Parcel := if reached p then f p else p

/-- R110: a sample taken after the first `i` of a parcel's `views` and before the others: it meets the parcel as the next view
shows it, and the later entries settle credit zone and arming; past the last view it meets the parcel as it stands. The views
before the sample are dropped, so that a later sample of the same moment comes no earlier. -/
def Parcel.meetAt (views : List CreditView) (i : Nat) (reached : Parcel → Bool) (f : Parcel → Parcel) (p : Parcel) : Parcel :=
  match views.drop i with
  | v :: rest => { (p.asOf v).sampled reached f with zone := p.zone, armed := p.armed, past := v :: rest }
  | [] => { p.sampled reached f with past := [] }

/-- R110: a sample in base millisecond `now` at a parcel: without a zone entry in that moment it meets the parcel as it stands;
otherwise a code picks how many of the entries it comes after (log 36). -/
def Parcel.meet (now code : Nat) (reached : Parcel → Bool) (f : Parcel → Parcel) (p : Parcel) : Parcel :=
  if p.views now = [] then p.sampled reached f
  else p.meetAt (p.views now) (code % ((p.views now).length + 1)) reached f

/-- R110: a live parcel has taken a zone entry in the present base millisecond. -/
def State.entriesMeet (s : State) : Bool := s.parcel.parcels.any fun e => !decide (e.2.views s.time.baseMs = [])

/-- R110: a sample of channel `c` at every live parcel, for each separately before or after the zone entries of the same moment
(log 36). -/
def State.meetParcels (s : State) (c : Nat) (f : Parcel → Parcel) : State :=
  let s1 := s.onParcel fun u =>
    { u with parcels := u.parcels.mapVals fun k p =>
              p.meet s.time.baseMs (Config.sampleOrder s.draws k) (s.track.reached c) f }
  if s.entriesMeet then { s1 with draws := s1.draws + 1 } else s1

/-- R105, R110: a sample of channel `c` at the parcels it reaches. A sample that ends STALE meets them as they stand: an entry it
came before would have found the channel LIVE, which is the order of the sample's row before the index's (log 36). -/
def State.sampleParcels (s : State) (c : Nat) (wasStale : Bool) (f : Parcel → Parcel) : State :=
  if wasStale then s.markParcels (s.track.reached c) f else s.meetParcels c f

/-- R107 to R110: a sample of channel `c` with value `v` and stamp `t`. -/
def State.creditSample (s : State) (c : Nat) (v : Int) (t : Nat) (wasStale : Bool) : State :=
  let ch := (s.credit.chains.get? c).getD ⟨none, 0⟩
  match ch.judge t wasStale with
  | .fresh => (s.setChain c ⟨some (v, t), ch.residue⟩).sampleParcels c wasStale Parcel.arm
  | .gapBreak => (s.setChain c ⟨some (v, t), 0⟩).sampleParcels c wasStale fun p => p.disarm.addGap
  | .quietBreak => (s.setChain c ⟨some (v, t), 0⟩).sampleParcels c wasStale Parcel.disarm
  | .increment v' t' =>
    let p := creditProduct s.credit.rates v' v (t - t') ch.residue
    (s.setChain c ⟨some (v, t), p % 1000⟩).sampleParcels c wasStale (Parcel.gain (p / 1000))

/-- R111: channel `c` has become STALE. -/
def State.creditStale (s : State) (c : Nat) : State := s.markParcels (s.track.reached c) fun p => p.disarm.addGap

/-! ### Zone entry -/

/-- R106: the arming rule for a new zone. -/
def Parcel.creditZone (z : ZoneInfo) (stale : Bool) (p : Parcel) : Parcel :=
  if z.kind = .blanch then
    let p' := { p with zone := some z.id, armed := false }
    if stale then p'.addGap else p'
  else { p with zone := none, armed := false }

/-- R44: the freezer-entry stamp. -/
def Parcel.freezer (z : ZoneInfo) (stamp : Nat) (p : Parcel) : Parcel :=
  if z.kind = .freeze ∧ p.freezerEntry = none then { p with freezerEntry := some stamp } else p

/-- R44: a zone entry in base millisecond `now`: arming, the freezer stamp, and TRIP where a condition routed to MARK_ZONE
holds. -/
def Parcel.enterZone (z : ZoneInfo) (stale marked : Bool) (now stamp : Nat) (p : Parcel) : Parcel :=
  let p' := ((p.remember now).creditZone z stale).freezer z stamp
  if marked then p'.addTrip else p'

/-- R44, R106: the entry of a parcel into a zone, judged against its channel. -/
def State.entering (s : State) (z : ZoneInfo) (stamp : Nat) (p : Parcel) : Parcel :=
  match z.channel with
  | some c => p.enterZone z (s.probe.isStale c) (s.markHolds c) s.time.baseMs stamp
  | none => p.enterZone z false false s.time.baseMs stamp

/-- R43: a parcel that joins a handover queue in base millisecond `now` is in no zone. -/
def Parcel.leaveZone (now : Nat) (p : Parcel) : Parcel := { p.remember now with zone := none, armed := false }

/-! ### The release verdict -/

/-- R113: the freezer dwell at outfeed. -/
def Parcel.dwell (p : Parcel) (t : Nat) : Option Nat := p.freezerEntry.map fun e => t - e

/-- R113, R114: the reason set. -/
def State.reasons (s : State) (p : Parcel) (t : Nat) : Reasons :=
  let r := s.credit.recipe p.recipe
  let exit := s.probe.exitChannel
  let live := match exit with
    | some ch => decide (ch.state = .live)
    | none => false
  { trip := p.deviation.trip, gap := p.deviation.gap, manual := p.deviation.manual
    creditShort := decide (p.credit < r.requiredCredit)
    dwellShort := match p.dwell t with
      | some d => decide (d < r.minDwell * 1000)
      | none => true
    exitUnknown := !live
    exitWarm := live && match exit.bind fun ch => ch.lastValue with
      | some v => decide (r.maxExit < v)
      | none => false }

/-- R115: the verdict record. -/
def State.verdict (s : State) (p : Parcel) (t : Nat) : VerdictRecord :=
  { seq := p.seq, slot := p.slot, reasons := s.reasons p t, credit := p.credit, dwell := p.dwell t
    exitValue := s.probe.exitChannel.bind fun ch => ch.lastValue, time := t }

end Sys2Proof.Machine
end

