-- ==== Sys2Proof/Machine/Commission.lean ====
section
/-! DEFINITION. The commissioning unit and the settings store (chapter 9): proving runs, saves, the lock, the key. -/

namespace Sys2Proof.Machine

/-! ### The stored set -/

/-- R163, R174: a track's part of the stored set; its staged mode is not saved. -/
def Track.setting (t : Track) : TrackSetting := ⟨t.segments, t.pulses, t.group, t.stallLimit, t.mode, t.zones⟩

/-- R163, R174: a channel's part of the stored set. -/
def Channel.setting (c : Channel) : ChannelSetting :=
  { address := c.address, enabled := c.enabled, role := c.role, offset := c.offset, levels := c.levels
    hysteresis := c.hysteresis, routes := c.routes, staleRoute := c.staleRoute }

/-- R174: the stored set as it stands in the working settings, with a lock flag. -/
def State.storedSet (s : State) (lockFlag : Bool) : StoredSet :=
  { tracks := s.track.tracks.mapVals fun _ t => t.setting, channels := s.probe.channels.mapVals fun _ c => c.setting
    bindings := s.probe.external.mapVals fun _ e => e.binding, exposureRoute := s.probe.exposure.route
    shuttleRoute := s.probe.shuttleFault.route, rates := s.credit.rates, recipes := s.credit.recipes
    generation := s.comm.generation, classMap := s.dist.live, deadTime := s.dist.deadTime, period := s.probe.period
    drainLimit := s.line.drainLimit, jobLimit := s.transfer.jobLimit, record := s.comm.record, locked := lockFlag }

/-- R174: the lock flag each kind of save writes. -/
def SaveKind.flag (k : SaveKind) (working : Bool) : Bool :=
  match k with
  | .commission => true
  | .unlock => false
  | .store => working

/-- R174: begin a save. -/
def State.beginSave (k : SaveKind) (s : State) : State :=
  s.onStore fun u => { u with save := some ⟨k, s.storedSet (k.flag s.comm.locked)⟩ }

/-- R171, R172: the proving record is PASS and carries the present generation. -/
def CommissionUnit.proven (u : CommissionUnit) : Bool :=
  decide (u.record.result = .pass) &&
    match u.record.run with
    | some r => decide (r.noted = u.generation)
    | none => false

/-- R172: COMMISSION. -/
def doCommission (_ : Unit) (s : State) : State × ReplyBody :=
  if !s.comm.proven then s.refuse .notProven
  else if !s.comm.key then s.refuse .keyAbsent
  else if s.store.save.isSome then s.refuse .busy
  else (s.beginSave .commission, .status .accepted)

/-- COMMISSION (R172). -/
def execCommission (s : State) : Outcome := s.act fun s => s.handOn .commission parseNone doCommission

/-- R173: UNLOCK. -/
def doUnlock (_ : Unit) (s : State) : State × ReplyBody :=
  if !s.comm.key then s.refuse .keyAbsent
  else if s.store.save.isSome then s.refuse .busy
  else (s.beginSave .unlock, .status .accepted)

/-- UNLOCK (R173). -/
def execUnlock (s : State) : Outcome := s.act fun s => s.handOn .unlock parseNone doUnlock

/-- R175: STORE SAVE. -/
def doStoreSave (_ : Unit) (s : State) : State × ReplyBody :=
  if s.store.save.isSome then s.refuse .busy else (s.beginSave .store, .status .accepted)

/-- STORE SAVE (R175). -/
def execStoreSave (s : State) : Outcome := s.act fun s => s.handOn .storeSave parseNone doStoreSave

/-! ### The end of a save -/

/-- R172, R173, R175: the lock after a save of kind `k`. -/
def SaveKind.lockAfter (k : SaveKind) (ok working : Bool) : Bool := if ok then k.flag working else working

/-- R12, R172, R173: the line after a save that has completed: COMMISSION takes SETUP to READY, UNLOCK takes READY to SETUP.
The marks BACKED_UP are cleared on the entry to READY (R51, log 21). -/
def State.lineAfterSave (k : SaveKind) (s : State) : State :=
  match k, s.line.state with
  | .commission, .setup => s.clearBacked.setLine .ready none none .commissioned .absent
  | .unlock, .ready => s.setLine .setup none none .unlocked .absent
  | _, _ => s

/-- R174: the image and the store state after a save. -/
def StoreUnit.finishSave (v : Save) (ok : Bool) (u : StoreUnit) : StoreUnit :=
  { u with image := if ok then some v.image else none, save := none }

/-- R172 to R175, R178: the end of save `v`: image and lock change at once; while the line reset pin is asserted the STORE
RESULT is owed and the line state stands. -/
def State.endSave (v : Save) (ok : Bool) (s : State) : State :=
  let s1 := s.onStore (StoreUnit.finishSave v ok)
  let s2 := s1.onComm fun u => { u with locked := v.kind.lockAfter ok u.locked }
  if s.pin then s2.onStore fun u => { u with owed := some (v.kind, ok, v.image.generation) }
  else
    let s3 := s2.notify (.storeResult v.kind ok v.image.generation)
    if ok then s3.lineAfterSave v.kind else s3

/-- SAVE END (R174); without a save in flight nothing happens (log 27). -/
def execSaveEnd (ok : Bool) (s : State) : Outcome :=
  s.act fun s =>
    match s.store.save with
    | some v => s.endSave v ok
    | none => s

/-- COMMISSION KEY EDGE (R171): the edge sets the key input state as it is delivered (log 46). -/
def execCommissionKeyEdge (s : State) : Outcome :=
  s.act fun s => s.deliver .commissionKey fun e s => s.onComm fun u => { u with key := e.rising }

/-! ### Proving runs -/

/-- R165, step 3: the line's definition can be proved. -/
def State.complete (s : State) : Bool :=
  !s.track.tracks.isEmpty && (s.track.zoneMap.any fun z => decide (z.kind = .blanch)) &&
  (s.track.zoneMap.all fun z =>
    match z.channel with
    | some c => match s.probe.channels.get? c with
      | some ch => ch.enabled
      | none => false
    | none => true) &&
  s.probe.exitChannel.isSome && !s.credit.rates.isEmpty

/-- R57: the reserved code, "PROVING" and five spaces. -/
def provingCode : List Byte := [0x50, 0x52, 0x4F, 0x56, 0x49, 0x4E, 0x47, 0x20, 0x20, 0x20, 0x20, 0x20]

/-- R60, R166: the proving lot in slot `k`, the record RUNNING, and the line in PROVING. -/
def State.beginProving (k recipe n margin : Nat) (s : State) : State :=
  let s1 := (s.newLot k (Lot.new provingCode recipe 0 true)).makeCurrent k
  let run : ProvingRun :=
    { recipe := recipe, count := n, margin := margin, required := (s.credit.recipe recipe).requiredCredit
      noted := s.comm.generation, started := s.time.lineTime, ended := none, entries := [] }
  let s2 := s1.onComm fun u => { u with record := ⟨.running, some run⟩ }
  s2.releaseSync.setLine .proving none none .prove .absent

/-- R165: PROVE START's checks in their order. -/
def doProveStart (d : Nat × Nat × Nat) (s : State) : State × ReplyBody :=
  if ¬(d.1 ≤ 15 ∧ 1 ≤ d.2.1 ∧ d.2.1 ≤ 32 ∧ d.2.2 ≤ 100) then s.refuse .badValue
  else if s.store.commissioning then s.refuse .busy
  else if !s.complete then s.refuse .incomplete
  else if s.stopLatched then s.refuse .tripLatched
  else if !s.probesLive then s.refuse .probeNotLive
  else
    match s.parcel.lots.freeKey 0 Config.lotCount with
    | none => s.refuse .full
    | some k => (s.beginProving k d.1 d.2.1 d.2.2, .status .ok)

/-- PROVE START (R165, R166). -/
def execProveStart (s : State) : Outcome := s.act fun s => s.handOn .proveStart parseProve doProveStart

/-- R170: PROVE ABORT halts the line with cause REQUEST, which ends the record ABORTED. -/
def doProveAbort (_ : Unit) (s : State) : State × ReplyBody := (s.enterHalted .request, .status .ok)

/-- PROVE ABORT (R170). -/
def execProveAbort (s : State) : Outcome := s.act fun s => s.handOn .proveAbort parseNone doProveAbort

/-! ### Entries and completion -/

/-- R168: the test of a JUDGED entry. -/
def entryPasses (run : ProvingRun) (v : VerdictRecord) : Bool :=
  let r := v.reasons
  !(r.trip || r.gap || r.manual || r.dwellShort || r.exitUnknown || r.exitWarm) &&
    decide (run.required * (100 + run.margin) ≤ v.credit * 100)

/-- R168: the entry of a test parcel at the outfeed. -/
def judgedEntry (run : ProvingRun) (v : VerdictRecord) : ProvingEntry :=
  ⟨v.seq, .judged, v.credit, v.dwell, v.exitValue, v.reasons, entryPasses run v⟩

/-- R168: the entry of a test parcel lost to backpressure. -/
def lostEntry (p : Parcel) : ProvingEntry :=
  ⟨p.seq, .lost, p.credit, none, none, ⟨p.deviation.trip, p.deviation.gap, p.deviation.manual, false, false, false, false⟩, false⟩

/-- R168: while the result is RUNNING, take an entry for a test parcel. -/
def State.takeEntry (p : Parcel) (entry : ProvingRun → ProvingEntry) (s : State) : State :=
  match p.proving, s.comm.record.result, s.comm.record.run with
  | true, .running, some r =>
    s.onComm fun u => { u with record := ⟨.running, some { r with entries := r.entries ++ [entry r] }⟩ }
  | _, _, _ => s

/-- R12, R169: the line from PROVING to SETUP. -/
def State.endProvingLine (s : State) : State :=
  s.cancelStalls.holdCounters.setLine .setup none none .provingDone .absent

/-- R169: the Nth entry completes the run. -/
def State.completeProving (s : State) : State :=
  match s.comm.record.result, s.comm.record.run with
  | .running, some r =>
    if r.count ≤ r.entries.length then
      let result := if r.entries.all fun e => e.passed then ProvingResult.pass else ProvingResult.fail
      let record : ProvingRecord := ⟨result, some { r with ended := some s.time.lineTime }⟩
      (((s.onComm fun u => { u with record := record }).dropCurrent).notify (.provingResult record)).endProvingLine
    else s
  | _, _ => s

/-! ### PROVING READ -/

/-- R177: the PROVING READ reply. -/
def State.provingReply (s : State) : ProvingReply :=
  { record := s.comm.record, generation := s.comm.generation, matched := s.comm.proven, locked := s.comm.locked
    key := s.comm.key, store := s.store.state, save := s.store.save.map fun v => v.kind
    lot :=
      if s.comm.record.result = .running then
        (s.parcel.current.bind fun k => s.parcel.lots.get? k).map fun l => (l.created, l.live)
      else none }

/-- R177: PROVING READ changes nothing. -/
def doProvingRead (_ : Unit) (s : State) : State × ReplyBody := (s, .provingRead s.provingReply)

/-- PROVING READ (R177). -/
def execProvingRead (s : State) : Outcome := s.act fun s => s.handOn .provingRead parseNone doProvingRead

end Sys2Proof.Machine
end

