-- ==== Sys2Proof/WellFormed.lean ====
section
/-! DEFINITION. Which commands name only lines, timers and records the part has (the field connections of 00_scope.md, R23). -/

namespace Sys2Proof

/-- The part has SEAL and READY inputs 1..4 and external trip inputs 1 and 2. -/
def FieldInput.ok : FieldInput → Bool
  | .doorEye => true
  | .sealIn lane => 1 ≤ lane && lane ≤ 4
  | .readyIn lane => 1 ≤ lane && lane ≤ 4
  | .acceptIn => true
  | .loadedIn => true
  | .doneIn => true
  | .faultIn => true
  | .externalTrip input => 1 ≤ input && input ≤ 2
  | .commissionKey => true

/-- A command is well formed when every line, timer or record it names exists. -/
def Instr.wellFormed : Instr → Bool
  | .baseMillisecond seen => seen.all FieldInput.ok
  | .encoderPulse input _ => 1 ≤ input && input ≤ 4
  | .externalTripEdge input => 1 ≤ input && input ≤ 2
  | .stallTimerExpiry track => 1 ≤ track && track ≤ 4
  | .exposureTimerExpiry record => 1 ≤ record && record ≤ 8
  | .sealEdge lane => 1 ≤ lane && lane ≤ 4
  | .readyEdge lane => 1 ≤ lane && lane ≤ 4
  | .powerOn seen _ _ => seen.all FieldInput.ok
  | .start | .stop | .halt | .resume | .clear | .resetLine | .statusRead | .timeRead | .timeSet | .timeTrim
  | .trackDefine | .zoneDefine | .trackRead | .dividerReset | .noticeModeSet | .infeedDeclare | .parcelRead
  | .lotRead | .holdRange | .clearHoldRange | .channelSet | .offsetStep | .levelsSet | .routeSet
  | .externalTripSet | .samplingSet | .tripAck | .channelRead | .rateTableSet | .recipeThermalSet
  | .recipePackingSet | .classMapSet | .deadTimeSet | .laneOpen | .laneClose | .bagRead | .bagWeight
  | .palletClose | .palletRead | .shuttleReset | .jobLimitSet | .proveStart | .proveAbort | .provingRead
  | .commission | .unlock | .storeSave | .unknownKind | .frameReceived _ | .interByteGapTimeout | .frameSent
  | .pollRoundStart | .sampleFrame _ | .answerWindowClose | .drainTimerExpiry | .gateTimerExpiry
  | .shuttleJobTimerExpiry | .acceptEdge | .loadedEdge | .doneEdge | .faultEdge | .doorEyeEdge
  | .commissionKeyEdge | .saveEnd _ | .lineResetPinAssert | .lineResetPinRelease | .powerLoss
  | .brokenCharacter => true

end Sys2Proof
end

