-- ==== Sys2Proof/Machine/Lanes.lean ====
section
/-! DEFINITION. The distribution unit's lanes, gates and settings (chapter 7): CLASS MAP SET, DEAD TIME SET, LANE OPEN, LANE
CLOSE, BAG READ, the SEAL and READY edges, the gate timer, and the freeing of bag records. -/

namespace Sys2Proof.Machine

/-! ### The class map -/

/-- R120: one entry of CLASS MAP SET, where it is well formed. -/
def classEntry? (e : Nat × Nat) : Option ClassEntry :=
  match laneSet? e.1 with
  | some lanes => if 1 ≤ e.2 ∧ e.2 ≤ 16 then some ⟨lanes, e.2⟩ else none
  | none => none

/-- R120: the entries of classes `k`, `k` + 1, …, where all are well formed. -/
def classMap? : Nat → List (Nat × Nat) → Option (Table ClassEntry)
  | _, [] => some []
  | k, e :: es =>
    match classEntry? e, classMap? (k + 1) es with
    | some c, some t => some ((k, c) :: t)
    | _, _ => none

/-- R120: CLASS MAP SET stages a full map. -/
def doClassMapSet (es : List (Nat × Nat)) (s : State) : State × ReplyBody :=
  match classMap? 1 es with
  | some m => (s.onDist fun u => { u with staged := some m }, .status .ok)
  | none => s.refuse .badValue

/-- CLASS MAP SET (R120). -/
def execClassMapSet (s : State) : Outcome := s.act fun s => s.handOn .classMapSet parseClassMap doClassMapSet

/-- R119: a run pointer with no last lane. -/
def RunPointer.empty : RunPointer := ⟨none, 0⟩

/-- R121: the staged map becomes live; the run pointer of each class whose entry differs is emptied. -/
def State.applyClassMap (s : State) : State :=
  s.onDist fun u =>
    match u.staged with
    | some m =>
      { u with live := m, staged := none
               pointers := u.pointers.mapVals fun k r => if m.get? k = u.live.get? k then r else RunPointer.empty }
    | none => u

/-- R132: DEAD TIME SET. -/
def doDeadTimeSet (ms : Nat) (s : State) : State × ReplyBody :=
  if ms ≤ 2000 then (s.onDist fun u => { u with deadTime := ms }, .status .ok) else s.refuse .badValue

/-- DEAD TIME SET (R132). -/
def execDeadTimeSet (s : State) : Outcome := s.act fun s => s.handOn .deadTimeSet parseWord doDeadTimeSet

/-! ### Lanes -/

/-- Change a lane record. -/
def State.onLane (s : State) (n : Nat) (f : Lane → Lane) : State :=
  s.onDist fun u => { u with lanes := u.lanes.modify n f }

/-- R123, R135, R139: a lane ACCEPTING or PENDING by its READY level. -/
def Lane.byReady (l : Lane) : Lane := { l with state := if l.ready then .accepting else .pending }

/-- R123: LANE OPEN's effect on the lane. -/
def Lane.reopen (free : Bool) (l : Lane) : Lane :=
  match l.state with
  | .closed => l.byReady
  | .sealing => { l with closeAfter := false }
  | .blocked => if free then l.byReady else l
  | .pending => l
  | .accepting => l

/-- R133: a bag record is free. -/
def DistributionUnit.hasFreeBag (u : DistributionUnit) : Bool := (u.bags.freeKey 0 Config.bagCount).isSome

/-- R123: LANE OPEN. -/
def doLaneOpen (n : Nat) (s : State) : State × ReplyBody :=
  if 1 ≤ n ∧ n ≤ 4 then (s.onLane n (Lane.reopen s.dist.hasFreeBag), .status .ok) else s.refuse .badValue

/-- LANE OPEN (R123). -/
def execLaneOpen (s : State) : Outcome := s.act fun s => s.handOn .laneOpen parseByte doLaneOpen

/-- R124: LANE CLOSE's effect on the lane. -/
def Lane.shut (l : Lane) : Lane :=
  if l.state = .sealing then { l with closeAfter := true }
  else if l.bag.isSome then { l with state := .sealing, closeAfter := true }
  else { l with state := .closed }

/-- R124: LANE CLOSE. -/
def doLaneClose (n : Nat) (s : State) : State × ReplyBody :=
  if 1 ≤ n ∧ n ≤ 4 then (s.onLane n Lane.shut, .status .ok) else s.refuse .badValue

/-- LANE CLOSE (R124). -/
def execLaneClose (s : State) : Outcome := s.act fun s => s.handOn .laneClose parseByte doLaneClose

/-- R123: a READY edge moves PENDING to ACCEPTING and ACCEPTING to PENDING. -/
def Lane.readyEdge (rising : Bool) (l : Lane) : Lane :=
  match l.state with
  | .pending => if rising then { l with state := .accepting, ready := rising } else { l with ready := rising }
  | .accepting => if rising then { l with ready := rising } else { l with state := .pending, ready := rising }
  | .closed => { l with ready := rising }
  | .sealing => { l with ready := rising }
  | .blocked => { l with ready := rising }

/-- READY EDGE (R123); while the line reset pin is asserted only the level is recorded (R142). -/
def execReadyEdge (n : Nat) (s : State) : Outcome :=
  if (Instr.readyEdge n).wellFormed then
    s.act fun s => s.deliver (.readyIn n) fun e s =>
      s.onLane n fun l => if s.pin then { l with ready := e.rising } else l.readyEdge e.rising
  else .fault .noSuchLine

/-! ### Sealing -/

/-- R135: a lane after its bag has been sealed. -/
def Lane.sealed (l : Lane) : Lane :=
  let l' := { l with bag := none }
  if l.state = .sealing then
    if l.closeAfter then { l' with state := .closed, closeAfter := false } else l'.byReady
  else l'

/-- R135: a rising SEAL edge of lane `n` with its stamp. -/
def State.sealLane (n stamp : Nat) (s : State) : State :=
  match (s.dist.lanes.get? n).bind fun l => l.bag with
  | none => s.notify (.sealUntracked n stamp)
  | some number =>
    (s.onDist fun u =>
      { u with bags := u.bags.mapVals fun _ b =>
                if b.number = number then { b with state := .sealed, sealTime := some stamp } else b }).onLane n Lane.sealed

/-- SEAL EDGE (R135); ignored while the line reset pin is asserted (R142). -/
def execSealEdge (n : Nat) (s : State) : Outcome :=
  if (Instr.sealEdge n).wellFormed then
    s.act fun s => s.deliver (.sealIn n) fun e s => if e.rising && !s.pin then s.sealLane n e.stamp else s
  else .fault .noSuchLine

/-! ### Gates -/

/-- R130: close the open gate and start the dead time. -/
def State.closeGate (s : State) (pending : Option Nat) : State :=
  (s.onDist fun u => { u with openGate := none, pendingGate := pending }).armFor .gate s.dist.deadTime

/-- R130: a parcel's request for lane `b`. -/
def State.requestGate (s : State) (b : Nat) : State :=
  match s.dist.openGate with
  | some a => if a = b then s else s.closeGate (some b)
  | none =>
    if s.time.gateRunning then s.onDist fun u => { u with pendingGate := some b }
    else s.onDist fun u => { u with openGate := some b }

/-- R130: a parcel's request for lane 0; with no gate open a pending gate stays pending, by R130's table against R131's last
sentence (log 45). -/
def State.requestLaneZero (s : State) : State :=
  match s.dist.openGate with
  | some _ => s.closeGate none
  | none => s

/-- R131: the pending gate opens. -/
def State.openPending (s : State) : State :=
  s.onDist fun u =>
    match u.pendingGate with
    | some b => { u with openGate := some b, pendingGate := none }
    | none => u

/-- GATE TIMER EXPIRY (R131). -/
def execGateTimerExpiry (s : State) : Outcome := s.act fun s => s.expire .gate State.openPending

/-! ### Freeing bag records -/

/-- R139: the lowest-numbered BLOCKED lane returns. -/
def State.unblock (s : State) : State :=
  match s.dist.lanes.first? fun _ l => decide (l.state = .blocked) with
  | some (n, _) => s.onLane n Lane.byReady
  | none => s

/-- R72, R138: a lot with one bag reference fewer. -/
def Lot.dropBag (l : Lot) : Lot := { l with bagRefs := l.bagRefs - 1 }

/-- R138, R139: free bag record `k`: the lot's bag references fall and it is tested for retirement, and one lane returns. -/
def State.freeBag (k : Nat) (s : State) : State :=
  match s.dist.bags.get? k with
  | some b =>
    (((s.onDist fun u => { u with bags := u.bags.del k }).onLot b.slot Lot.dropBag).retireTest b.slot).unblock
  | none => s

/-! ### BAG READ -/

/-- R140: the distribution summary. -/
def State.distributionSummary (s : State) : DistributionSummary :=
  { live := s.dist.live, staged := s.dist.staged, pointers := s.dist.pointers, lanes := s.dist.lanes, lane0 := s.dist.lane0
    openGate := s.dist.openGate, pendingGate := s.dist.pendingGate, gateDue := s.time.timers.get? TimerId.gate.index
    deadTime := s.dist.deadTime, lastBag := s.dist.lastBag, bags := s.dist.bags.vals.map fun b => (b.number, b.state) }

/-- R140: BAG READ. -/
def doBagRead (number : Nat) (s : State) : State × ReplyBody :=
  if number = 0 then (s, .distribution s.distributionSummary)
  else
    match s.dist.findBag number with
    | some (k, b) => (s, .bagRead k b)
    | none => s.refuse .notFound

/-- BAG READ (R140). -/
def execBagRead (s : State) : Outcome := s.act fun s => s.handOn .bagRead parseBagNumber doBagRead

end Sys2Proof.Machine
end

