-- ==== Sys2Proof/Machine/Transfer.lean ====
section
/-! DEFINITION. The transfer unit (chapter 8): counting bags, pallets, the arbiter, the shuttle, exposure, PALLET TRANSFER, and
BAG WEIGHT, which hands it the accepted bags. -/

namespace Sys2Proof.Machine

/-- Change a pallet record. -/
def State.onPallet (s : State) (r : Nat) (f : Pallet → Pallet) : State :=
  s.onTransfer fun u => { u with pallets := u.pallets.modify r f }

/-- Change the shuttle record. -/
def State.onShuttle (s : State) (f : Shuttle → Shuttle) : State := s.onTransfer fun u => { u with shuttle := f u.shuttle }

/-! ### The arbiter -/

/-- R151: earlier exposure due first, then the lower lane, then the lower ready order. -/
def Pallet.before (a b : Pallet) : Bool :=
  decide (a.exposureDue < b.exposureDue) ||
    (decide (a.exposureDue = b.exposureDue) &&
      (decide (a.lane < b.lane) || (decide (a.lane = b.lane) && decide (a.readyOrder < b.readyOrder))))

/-- R151: the READY pallet the arbiter chooses, with its record. -/
def bestReady : Table Pallet → Option (Nat × Pallet)
  | [] => none
  | (r, p) :: t =>
    if p.state = .ready then
      match bestReady t with
      | some (r', q) => if q.before p then some (r', q) else some (r, p)
      | none => some (r, p)
    else bestReady t

/-- R151: the grant of the shuttle to the pallet of record `r`. -/
def State.grant (r : Nat) (p : Pallet) (s : State) : State :=
  ((s.onPallet r fun p => { p with state := .granted }).onShuttle fun sh =>
    { sh with state := .assigned, job := some ⟨p.number, p.lane, s.time.lineTime, false⟩, jobValid := true }).armFor
    .shuttleJob (s.transfer.jobLimit * 1000)

/-- R151: the arbiter grants the IDLE shuttle to the chosen READY pallet. -/
def State.arbitrate (s : State) : State :=
  if s.transfer.shuttle.state = .idle then
    match bestReady s.transfer.pallets with
    | some (r, p) => s.grant r p
    | none => s
  else s

/-- R151: the pallet of record `r` becomes READY with the next ready order, and the arbiter makes its choice. -/
def State.becomeReady (r : Nat) (s : State) : State :=
  let order := s.transfer.lastReady + 1
  ((s.onPallet r fun p => { p with state := .ready, readyOrder := order }).onTransfer
    fun u => { u with lastReady := order }).arbitrate

/-! ### Counting bags -/

/-- R144: the number after `n`, 1 after the last. -/
def nextNumber (max n : Nat) : Nat := if max ≤ n then 1 else n + 1

/-- R133, R144: the first number from `n` on that is not in use. -/
def unusedNumber (max : Nat) (used : List Nat) : Nat → Nat → Nat
  | 0, n => n
  | fuel + 1, n => if n ∈ used then unusedNumber max used fuel (nextNumber max n) else n

/-- R72, R144: a lot with one pallet reference more. -/
def Lot.addPallet (l : Lot) : Lot := { l with palletRefs := l.palletRefs + 1 }
/-- R72, R159: a lot with one pallet reference fewer. -/
def Lot.dropPallet (l : Lot) : Lot := { l with palletRefs := l.palletRefs - 1 }

/-- R143: the recipe that governs a lot slot. -/
def State.recipeOfSlot (s : State) (slot : Nat) : Recipe :=
  match s.parcel.lots.get? slot with
  | some l => s.credit.recipe l.recipe
  | none => Recipe.factory

/-- R144: create a pallet record for a bag in the free record `r`; its ready order is 0 until it becomes READY, the model's
choice (log 42). -/
def State.createPallet (r : Nat) (b : Bag) (s : State) : State :=
  let number := unusedNumber Config.palletNumberMax (s.transfer.pallets.vals.map fun p => p.number)
    (Config.palletCount + 1) (nextNumber Config.palletNumberMax s.transfer.lastPallet)
  let p : Pallet :=
    { number := number, lane := b.lane, slot := b.slot, state := .building, exposed := false, stranded := false
      target := (s.recipeOfSlot b.slot).bagsPerPallet, bags := [], total := 0, exposureStart := 0, exposureDue := 0
      readyOrder := 0, doorTime := none }
  (s.onTransfer fun u => { u with pallets := u.pallets.put r p, lastPallet := number }).onLot b.slot Lot.addPallet

/-- R147: a pallet after a bag has been counted onto it, under an exposure limit in seconds. -/
def Pallet.count (b : Bag) (limit : Nat) (p : Pallet) : Pallet :=
  let stamp := b.sealTime.getD b.openTime
  let start := if p.bags = [] then stamp else min p.exposureStart stamp
  let grams := b.grams.getD 0
  { p with bags := p.bags ++ [⟨b.number, grams, b.parcels, b.minCredit⟩], total := p.total + grams, exposureStart := start
           exposureDue := min (start + limit * 1000) Config.lineTimeMax }

/-- R147: count the bag of record `k` onto the pallet of record `r`. -/
def State.countOnto (r k : Nat) (s : State) : State :=
  match s.transfer.pallets.get? r, s.dist.bags.get? k with
  | some p, some b =>
    let p' := p.count b (s.recipeOfSlot p.slot).exposureLimit
    let s1 := ((s.onPallet r fun _ => p').arm (.exposure r) p'.exposureDue).freeBag k
    if p'.target ≤ p'.bags.length then s1.becomeReady r else s1
  | _, _ => s

/-- R145: a new pallet for the bag where a record is free; the answer says whether the bag was counted. -/
def State.countNew (k : Nat) (b : Bag) (s : State) : State × Bool :=
  match s.transfer.pallets.freeKey 1 Config.palletCount with
  | some r => ((s.createPallet r b).countOnto r k, true)
  | none => (s, false)

/-- R145: count the bag of record `k` where it can be counted; a BUILDING pallet of another lot becomes READY first. -/
def State.tryCount (k : Nat) (s : State) : State × Bool :=
  match s.dist.bags.get? k with
  | none => (s, true)
  | some b =>
    match s.transfer.building b.lane with
    | some (r, p) => if p.slot = b.slot then (s.countOnto r k, true) else (s.becomeReady r).countNew k b
    | none => s.countNew k b

/-- R146: a bag of this lane waits. -/
def State.laneWaits (s : State) (lane : Nat) : Bool :=
  s.transfer.waiting.any fun number =>
    match s.dist.findBag number with
    | some (_, b) => decide (b.lane = lane)
    | none => false

/-- R146: a bag joins the tail of the waiting list. -/
def State.waitBag (number : Nat) (s : State) : State := s.onTransfer fun u => { u with waiting := u.waiting ++ [number] }

/-- R146: a newly accepted bag is counted at once, or joins the waiting list. -/
def State.submitBag (k : Nat) (b : Bag) (s : State) : State :=
  if s.laneWaits b.lane then s.waitBag b.number
  else
    let out := s.tryCount k
    if out.2 then out.1 else out.1.waitBag b.number

/-- R146: the walk of the waiting list, oldest first: the bags left waiting, and the state. `lanes` are the lanes of which an
earlier bag has stayed. -/
def walk : List Nat → List Nat → State → State × List Nat
  | [], _, s => (s, [])
  | number :: rest, lanes, s =>
    match s.dist.findBag number with
    | none => walk rest lanes s
    | some (k, b) =>
      if b.lane ∈ lanes then
        let out := walk rest lanes s
        (out.1, number :: out.2)
      else
        let try_ := s.tryCount k
        if try_.2 then walk rest lanes try_.1
        else
          let out := walk rest (b.lane :: lanes) try_.1
          (out.1, number :: out.2)

/-- R146: walk the waiting list. -/
def State.walkWaiting (s : State) : State :=
  let out := walk s.transfer.waiting [] s
  out.1.onTransfer fun u => { u with waiting := out.2 }

/-! ### PALLET TRANSFER -/

/-- R159: the count of parts. -/
def Pallet.parts (p : Pallet) : Nat := if p.bags.length ≤ Config.transferPart then 1 else 2

/-- R159: the entries of a part. -/
def Pallet.partEntries (p : Pallet) (part : Nat) : List BagEntry :=
  if part = 1 then p.bags.take Config.transferPart else p.bags.drop Config.transferPart

/-- R159, R189: the summary of a part. -/
def State.palletSummary (s : State) (p : Pallet) : PalletSummary :=
  { number := p.number, lane := p.lane, slot := p.slot
    code := match s.parcel.lots.get? p.slot with
      | some l => l.code
      | none => []
    exposed := p.exposed, stranded := p.stranded, target := p.target, bagCount := p.bags.length, total := p.total
    exposureStart := p.exposureStart, exposureDue := p.exposureDue, doorTime := p.doorTime }

/-- R159: free pallet record `r`: the lot's pallet references fall and it is tested for retirement, and the waiting list is
walked. An exposure expiry taken and not yet delivered is dropped with its record (log 7). -/
def State.freePallet (r : Nat) (s : State) : State :=
  match s.transfer.pallets.get? r with
  | some p =>
    let s1 := s.onTransfer fun u => { u with pallets := u.pallets.del r }
    let s2 := (s1.cancel (.exposure r)).onTime fun u => { u with expired := u.expired.filter fun x => !decide (x = .exposure r) }
    ((s2.onLot p.slot Lot.dropPallet).retireTest p.slot).walkWaiting
  | none => s

/-- R159: a part enters the notice queue. -/
def State.enterTransfer (r part : Nat) (s : State) : State :=
  match s.transfer.pallets.get? r with
  | some p => s.enter (.palletTransfer (s.palletSummary p) part p.parts (p.partEntries part))
  | none => s

/-- R159: the last part enters, and the record is freed in the same step. -/
def State.enterLast (r part : Nat) (s : State) : State := (s.enterTransfer r part).freePallet r

/-- R159, R185: offer the last part. -/
def State.offerLast (r part : Nat) (s : State) : State :=
  if s.link.hasRoom then s.enterLast r part else s.await (.palletPart r part)

/-- R159: a part enters; part 2 is offered when part 1 has entered. -/
def State.enterPart (r part : Nat) (s : State) : State :=
  match s.transfer.pallets.get? r with
  | some p => if part < p.parts then (s.enterTransfer r part).offerLast r (part + 1) else s.enterLast r part
  | none => s

/-- R159, R185: offer a part of PALLET TRANSFER as a retained notice. -/
def State.offerPart (r part : Nat) (s : State) : State :=
  if s.link.hasRoom then s.enterPart r part else s.await (.palletPart r part)

/-! ### BAG WEIGHT -/

/-- R72, R136: a lot with one more bag verdict. -/
def Lot.addBagVerdict (accepted : Bool) (l : Lot) : Lot :=
  if accepted then { l with bagsAccepted := l.bagsAccepted + 1 } else { l with bagsRejected := l.bagsRejected + 1 }

/-- R136, R137: judge the SEALED bag of record `k` against its recipe: accepted it goes to the transfer unit, rejected it is
reported and freed. -/
def State.weigh (k : Nat) (b : Bag) (grams : Nat) (s : State) : State × ReplyBody :=
  let r := s.credit.recipe b.recipe
  let accepted := decide (r.bagMin ≤ grams) && decide (grams ≤ r.bagMax)
  let b' : Bag := { b with grams := some grams, state := if accepted then .accepted else .rejected }
  let s1 := (s.onDist fun u => { u with bags := u.bags.modify k fun _ => b' }).onLot b.slot (Lot.addBagVerdict accepted)
  let s2 := if accepted then s1.submitBag k b' else (s1.notify (.bagRejected k b')).freeBag k
  (s2, .bagVerdict accepted r.bagMin r.bagMax)

/-- R136: BAG WEIGHT's checks in their order. -/
def doBagWeight (d : Nat × Nat) (s : State) : State × ReplyBody :=
  if d.1 = 0 then s.refuse .badValue
  else
    match s.dist.findBag d.1 with
    | none => s.refuse .notFound
    | some (k, b) => if b.state = .sealed then s.weigh k b d.2 else s.refuse .wrongState

/-- BAG WEIGHT (R136, R137). -/
def execBagWeight (s : State) : Outcome := s.act fun s => s.handOn .bagWeight parseBagWeight doBagWeight

/-! ### PALLET CLOSE, PALLET READ, JOB LIMIT SET -/

/-- R148: PALLET CLOSE. -/
def doPalletClose (number : Nat) (s : State) : State × ReplyBody :=
  if number = 0 then s.refuse .badValue
  else
    match s.transfer.findPallet number with
    | none => s.refuse .notFound
    | some (r, p) =>
      if p.state = .building then (s.becomeReady r, .palletClose p.bags.length p.total) else s.refuse .wrongState

/-- PALLET CLOSE (R148). -/
def execPalletClose (s : State) : Outcome := s.act fun s => s.handOn .palletClose parseWord doPalletClose

/-- R160: the transfer summary. -/
def State.transferSummary (s : State) : TransferSummary :=
  { shuttle := s.transfer.shuttle, station := s.transfer.shuttle.station
    jobDue := s.time.timers.get? TimerId.shuttleJob.index, jobLimit := s.transfer.jobLimit
    lastPallet := s.transfer.lastPallet, lastReady := s.transfer.lastReady, waiting := s.transfer.waiting
    pallets := s.transfer.pallets.map fun e => ⟨e.1, e.2.number, e.2.lane, e.2.state, e.2.exposed, e.2.stranded⟩ }

/-- R160, R186: the reply for the pallet of record `r`, with the entries of a part. -/
def State.palletReply (s : State) (r : Nat) (p : Pallet) (part : Nat) : PalletReply :=
  ⟨{ p with bags := [] }, r, s.time.timers.get? (TimerId.exposure r).index, p.bags.length, p.partEntries part⟩

/-- R160, R186: PALLET READ; a part other than 1 or 2 is refused first, and number 0 ignores part 1 or 2, the model's choice
(log 43). -/
def doPalletRead (d : Nat × Option Nat) (s : State) : State × ReplyBody :=
  let part := d.2.getD 1
  if part ≠ 1 ∧ part ≠ 2 then s.refuse .badValue
  else if d.1 = 0 then (s, .transfer s.transferSummary)
  else
    match s.transfer.findPallet d.1 with
    | some (r, p) => (s, .palletRead (s.palletReply r p part))
    | none => s.refuse .notFound

/-- PALLET READ (R160, R186). -/
def execPalletRead (s : State) : Outcome := s.act fun s => s.handOn .palletRead parsePalletRead doPalletRead

/-- R158: JOB LIMIT SET. -/
def doJobLimitSet (seconds : Nat) (s : State) : State × ReplyBody :=
  if 10 ≤ seconds ∧ seconds ≤ 600 then (s.onTransfer fun u => { u with jobLimit := seconds }, .status .ok)
  else s.refuse .badValue

/-- JOB LIMIT SET (R158). -/
def execJobLimitSet (s : State) : Outcome := s.act fun s => s.handOn .jobLimitSet parseWord doJobLimitSet

end Sys2Proof.Machine
end

