-- ==== Sys2Proof/Machine/Distribution.lean ====
section
/-! DEFINITION. The lane choice (R125 to R130) and the joining of bags (R133, R134). -/

namespace Sys2Proof.Machine

/-! ### Lane 0 -/

/-- R122: lane 0 with one more parcel of a cause. -/
def LaneZero.add (z : LaneZero) : LaneZeroCause → LaneZero
  | .held => { z with held := z.held + 1 }
  | .proving => { z with proving := z.proving + 1 }
  | .class0 => { z with class0 := z.class0 + 1 }
  | .noLane => { z with noLane := z.noLane + 1 }
  | .gateBusy => { z with gateBusy := z.gateBusy + 1 }
  | .noBag => { z with noBag := z.noBag + 1 }

/-- R122: count a parcel at lane 0. -/
def State.countLaneZero (s : State) (c : LaneZeroCause) : State := s.onDist fun u => { u with lane0 := u.lane0.add c }

/-- R125, R126, R128: a parcel sent to lane 0 under the gate rule for lane 0. -/
def State.toLaneZero (s : State) (c : LaneZeroCause) : State × LaneResult :=
  ((s.countLaneZero c).requestLaneZero, ⟨0, some c, none⟩)

/-! ### Candidates and the pick -/

/-- R126: the lane holds an open bag of another lot slot. -/
def DistributionUnit.otherLot (u : DistributionUnit) (slot : Nat) (l : Lane) : Bool :=
  match l.bag.bind fun number => u.findBag number with
  | some (_, b) => decide (b.slot ≠ slot)
  | none => false

/-- R126: lot breaks: each ACCEPTING lane of the set with another lot's bag is sent to SEALING, close after seal clear. -/
def State.lotBreak (s : State) (lanes : List Nat) (slot : Nat) : State :=
  s.onDist fun u =>
    { u with lanes := u.lanes.mapVals fun n l =>
              if n ∈ lanes ∧ l.state = .accepting ∧ u.otherLot slot l = true then { l with state := .sealing, closeAfter := false }
              else l }

/-- R126: the candidate lanes of a set, in rising order. -/
def DistributionUnit.candidates (u : DistributionUnit) (lanes : List Nat) (slot : Nat) : List Nat :=
  (u.lanes.filter fun e => decide (e.1 ∈ lanes) && decide (e.2.state = .accepting) && !u.otherLot slot e.2).map fun e => e.1

/-- R127: the lanes after `n` in the cyclic order, `n` itself last. -/
def cyclicAfter (n : Nat) : List Nat := [n % 4 + 1, (n + 1) % 4 + 1, (n + 2) % 4 + 1, (n + 3) % 4 + 1]

/-- R127: the lane picked among the candidates, with the run pointer after the pick. -/
def pickLane (r : RunPointer) (run : Nat) (cs : List Nat) : Option (Nat × RunPointer) :=
  match r.last with
  | some n =>
    if n ∈ cs ∧ r.counter < run then some (n, r)
    else ((cyclicAfter n).find? fun m => decide (m ∈ cs)).map fun m => (m, ⟨some m, 0⟩)
  | none => cs.head?.map fun m => (m, ⟨some m, 0⟩)

/-! ### Bags -/

/-- R134: an open bag with one more parcel. -/
def Bag.join (p : Parcel) (b : Bag) : Bag :=
  { b with parcels := b.parcels + 1, lastSeq := p.seq, minCredit := min b.minCredit p.credit }

/-- R134: a bag opened by a parcel. -/
def Bag.openFor (number lane stamp : Nat) (p : Parcel) : Bag :=
  { number := number, lane := lane, slot := p.slot, recipe := p.recipe, state := .opened, parcels := 1, firstSeq := p.seq
    lastSeq := p.seq, minCredit := p.credit, openTime := stamp, sealTime := none, grams := none }

/-- R72, R134: a lot with one bag reference more. -/
def Lot.addBag (l : Lot) : Lot := { l with bagRefs := l.bagRefs + 1 }

/-- R133: the number a new bag takes. -/
def DistributionUnit.nextBag (u : DistributionUnit) : Nat :=
  unusedNumber Config.bagNumberMax (u.bags.vals.map fun b => b.number) (Config.bagCount + 1)
    (nextNumber Config.bagNumberMax u.lastBag)

/-- R134: a parcel opens a bag on lane `n` in the free record `k`. -/
def State.openBag (k n stamp : Nat) (p : Parcel) (s : State) : State × Nat :=
  let number := s.dist.nextBag
  (((s.onDist fun u => { u with bags := u.bags.put k (Bag.openFor number n stamp p), lastBag := number }).onLane n
      fun l => { l with bag := some number }).onLot p.slot Lot.addBag, number)

/-- R134: a parcel joins the bag of record `k` on lane `n`; at 255 parcels the lane is sent to SEALING. -/
def State.joinBag (k n : Nat) (p : Parcel) (s : State) : State :=
  let s1 := s.onDist fun u => { u with bags := u.bags.modify k (Bag.join p) }
  match s1.dist.bags.get? k with
  | some b =>
    if Config.bagParcelMax ≤ b.parcels then s1.onLane n fun l => { l with state := .sealing, closeAfter := false } else s1
  | none => s1

/-- R134: a parcel diverted into lane `n` joins its open bag or opens one; the answer is the bag's number. -/
def State.divert (n stamp : Nat) (p : Parcel) (s : State) : State × Option Nat :=
  match (s.dist.lanes.get? n).bind fun l => l.bag.bind fun number => s.dist.findBag number with
  | some (k, b) => (s.joinBag k n p, some b.number)
  | none =>
    match s.dist.bags.freeKey 0 Config.bagCount with
    | some k =>
      let out := s.openBag k n stamp p
      (out.1, some out.2)
    | none => (s, none)

/-! ### The choice -/

/-- R119, R129: the run counter of class `k` grows by one. -/
def State.countRun (k : Nat) (s : State) : State :=
  s.onDist fun u => { u with pointers := u.pointers.modify k fun r => { r with counter := r.counter + 1 } }

/-- R129, R130: the gate of the chosen lane `n`: open, the parcel is diverted; otherwise it falls to lane 0 with GATE_BUSY. -/
def State.passGate (n : Nat) (p : Parcel) (stamp : Nat) (s : State) : State × LaneResult :=
  let s1 := s.requestGate n
  if s1.dist.openGate = some n then
    let out := s1.divert n stamp p
    (out.1.countRun p.cls, ⟨n, none, out.2⟩)
  else (s1.countLaneZero .gateBusy, ⟨0, some .gateBusy, none⟩)

/-- R128, R129: the chosen lane `n`: without a bag and with none free it becomes BLOCKED. -/
def State.useLane (n : Nat) (p : Parcel) (stamp : Nat) (s : State) : State × LaneResult :=
  let bag := (s.dist.lanes.get? n).bind fun l => l.bag
  if bag.isNone ∧ s.dist.hasFreeBag = false then (s.onLane n fun l => { l with state := .blocked }).toLaneZero .noBag
  else s.passGate n p stamp

/-- R126, R127: a RELEASED parcel of a class with an entry in the live map. -/
def State.chooseLane (e : ClassEntry) (p : Parcel) (stamp : Nat) (s : State) : State × LaneResult :=
  let s1 := s.lotBreak e.lanes p.slot
  match pickLane ((s.dist.pointers.get? p.cls).getD RunPointer.empty) e.run (s1.dist.candidates e.lanes p.slot) with
  | some (n, r) => (s1.onDist fun u => { u with pointers := u.pointers.put p.cls r }).useLane n p stamp
  | none => s1.toLaneZero .noLane

/-- R125: the lane choice for a parcel with its verdict record. -/
def State.distribute (p : Parcel) (v : VerdictRecord) (s : State) : State × LaneResult :=
  if p.proving then s.toLaneZero .proving
  else if v.reasons.isHeld then s.toLaneZero .held
  else if p.cls = 0 then s.toLaneZero .class0
  else
    match s.dist.live.get? p.cls with
    | some e => s.chooseLane e p v.time
    | none => s.toLaneZero .noLane

end Sys2Proof.Machine
end

