-- ==== Sys2Proof/Machine/LineControl.lean ====
section
/-! DEFINITION. The line controller's requests (chapter 1): START, STOP, HALT, RESUME, CLEAR, and STATUS READ of chapter 10.
RESET LINE stands with the other resets in Machine/System.lean. -/

namespace Sys2Proof.Machine

/-! ### START -/

/-- R3: START's own checks in their order, the release of the sync hold, and the entry to RUNNING. -/
def doStart (_ : Unit) (s : State) : State × ReplyBody :=
  if s.store.unlocking then s.refuse .busy
  else if s.stopLatched then s.refuse .tripLatched
  else if !s.probesLive then s.refuse .probeNotLive
  else if !s.parcel.declared then s.refuse .noLot
  else (s.releaseSync.setLine .running none none .start .absent, .status .ok)

/-- START (R3, R13). -/
def execStart (s : State) : Outcome := s.act fun s => s.handOn .start parseNone doStart

/-! ### STOP -/

/-- R4: arm the drain timer in full from the present line time. -/
def State.armDrain (s : State) : State := s.armFor .drain (s.line.drainLimit * 1000)

/-- R4: STOP with a drain limit that is absent or in range: the limit replaces the working one first; RUNNING passes to
DRAINING, and DRAINING re-arms its timer only for a limit. -/
def State.stop (limit : Option Nat) (s : State) : State :=
  let s1 := match limit with
    | some l => s.onLine fun u => { u with drainLimit := l }
    | none => s
  if s.line.state = .running then (s1.armDrain.setLine .draining none none .stop .absent).emptyTest
  else if limit.isSome then s1.armDrain
  else s1

/-- R4: the range of STOP's drain limit. -/
def doStop (limit : Option Nat) (s : State) : State × ReplyBody :=
  match limit with
  | none => (s.stop none, .status .ok)
  | some l => if 10 ≤ l ∧ l ≤ 3600 then (s.stop (some l), .status .ok) else s.refuse .badValue

/-- STOP (R4, R13). -/
def execStop (s : State) : Outcome := s.act fun s => s.handOn .stop parseStop doStop

/-! ### HALT -/

/-- R7: HALT in a running state enters HALTED with cause REQUEST; in HALTED it changes nothing. -/
def doHalt (_ : Unit) (s : State) : State × ReplyBody :=
  if s.line.state = .halted then (s, .status .ok) else (s.enterHalted .request, .status .ok)

/-- HALT (R7, R13). -/
def execHalt (s : State) : Outcome := s.act fun s => s.handOn .halt parseNone doHalt

/-! ### RESUME -/

/-- R10, R51: a track at RESUME: STALLED cleared, counter 0, BACKED_UP kept only while its queue holds more than 4. -/
def Track.resume (t : Track) : Track :=
  { t with counter := 0, stalled := false, backedUp := t.backedUp && decide (Config.recoverDepth < t.queue.length) }

/-- R10: the return to the halt origin. -/
def State.resumeTo (origin : LineState) (s : State) : State :=
  let s1 := (s.onTrack fun u => { u with tracks := u.tracks.mapVals fun _ t => t.resume }).armStalls
  let s2 := if origin = .draining then s1.armDrain else s1
  (s2.setLine origin none none .resume .absent).emptyTest

/-- R10: RESUME's checks in their order. -/
def doResume (_ : Unit) (s : State) : State × ReplyBody :=
  match s.line.origin with
  | none => s.refuse .wrongState
  | some origin =>
    if origin = .proving then s.refuse .wrongState
    else if s.stopLatched then s.refuse .tripLatched
    else if !s.probesLive then s.refuse .probeNotLive
    else if origin = .running ∧ s.parcel.declared = false then s.refuse .noLot
    else (s.resumeTo origin, .status .ok)

/-- RESUME (R10, R13). -/
def execResume (s : State) : Outcome := s.act fun s => s.handOn .resume parseNone doResume

/-! ### CLEAR -/

/-- R11: a track at CLEAR; its head pointer keeps its value. -/
def Track.clear (t : Track) : Track := { t with counter := 0, backedUp := false, stalled := false, queue := [] }

/-- R11, R69: retire every live parcel as LOST and empty the tracks. -/
def State.loseAll (s : State) : State :=
  ((State.each (fun p s => s.onLot p.slot Lot.lose) s.parcel.parcels.vals s).onParcel
      fun u => { u with parcels := [] }).onTrack
    fun u => { tracks := u.tracks.mapVals fun _ t => t.clear, cells := [] }

/-- R11, R69, R73: CLEAR ends the halt; LINE STATE carries the count, and then the lots that lost a parcel are tested for
retirement, in slot order (log 11). -/
def doClear (_ : Unit) (s : State) : State × ReplyBody :=
  let s1 := s.loseAll.setLine (restState s.comm.locked) none none .clear (.lost s.parcel.parcels.length)
  let slots := (List.range Config.lotCount).filter fun k => s.parcel.parcels.vals.any fun p => decide (p.slot = k)
  (State.each (fun k s => s.retireTest k) slots s1, .status .ok)

/-- CLEAR (R11, R13). -/
def execClear (s : State) : Outcome := s.act fun s => s.handOn .clear parseNone doClear

/-! ### STATUS READ -/

/-- R187: what STATUS READ says of track `n`. -/
def State.trackStatus (s : State) (n : Nat) : TrackStatus :=
  match s.track.tracks.get? n with
  | some t => ⟨true, s.trackRun n, t.backedUp, t.stalled⟩
  | none => ⟨false, false, false, false⟩

/-- R187: the STATUS READ reply. -/
def State.status (s : State) : StatusReply :=
  { state := s.line.state, origin := s.line.origin, cause := s.line.cause, locked := s.comm.locked, key := s.comm.key
    store := s.store.state, generation := s.comm.generation, time := s.time.lineTime, live := s.parcel.parcels.length
    current := s.parcel.current.isSome, staged := s.parcel.staged.isSome, bagsInUse := s.dist.bags.length
    lanesWithBag := (s.dist.lanes.vals.filter fun l => l.bag.isSome).length, palletsInUse := s.transfer.pallets.length
    shuttle := s.transfer.shuttle.state, tracks := [1, 2, 3, 4].map s.trackStatus, infeedRun := s.infeedRun
    infeedHold := s.infeedHold, latches := s.latchCount, overrun := s.link.overrun }

/-- R185, R187: the reply carries the overrun mark as it stood, and the mark is cleared in the same step. -/
def doStatusRead (_ : Unit) (s : State) : State × ReplyBody :=
  (s.onLink fun u => { u with overrun := false }, .statusRead s.status)

/-- STATUS READ (R187). -/
def execStatusRead (s : State) : Outcome := s.act fun s => s.handOn .statusRead parseNone doStatusRead

/-! ### The drain timer -/

/-- DRAIN TIMER EXPIRY (R6): in DRAINING the line halts with cause DRAIN_TIMEOUT; in any other state nothing happens. -/
def execDrainTimerExpiry (s : State) : Outcome :=
  s.act fun s => s.expire .drain fun s => if s.line.state = .draining then s.enterHalted .drainTimeout else s

end Sys2Proof.Machine
end

