-- ==== Sys2Proof/Machine/Shuttle.lean ====
section
/-! DEFINITION. Exposure, the shuttle's inputs, the door eye, faults and SHUTTLE RESET (chapter 8). -/

namespace Sys2Proof.Machine

/-! ### Exposure -/

/-- R149, R153: the pallet of record `r` is quarantined EXPOSED: the verdict, the raise of EXPOSURE (R95), PALLET EXPOSED. -/
def State.expose (r : Nat) (p : Pallet) (s : State) : State :=
  ((s.onPallet r fun p => { p with exposed := true }).fire .exposure .transfer p.number s.time.lineTime).notify
    (.palletExposed p.number p.lane p.slot p.state p.exposureStart p.exposureDue)

/-- R149: the expiry of exposure timer `r`. -/
def State.exposureExpired (r : Nat) (s : State) : State :=
  match s.transfer.pallets.get? r with
  | none => s
  | some p =>
    if p.state = .stored then s
    else if p.state = .building then (s.expose r p).becomeReady r
    else s.expose r p

/-- EXPOSURE TIMER EXPIRY (R149). -/
def execExposureTimerExpiry (r : Nat) (s : State) : Outcome :=
  if (Instr.exposureTimerExpiry r).wellFormed then s.act fun s => s.expire (.exposure r) (State.exposureExpired r)
  else .fault .noSuchLine

/-! ### Faults -/

/-- R155: the shuttle record in FAULTED. -/
def Shuttle.fail (cause : ShuttleCause) (stranded : Option Nat) (sh : Shuttle) : Shuttle :=
  { sh with state := .faulted, job := none, jobValid := false, cause := some cause, stranded := stranded }

/-- R155: what becomes of the job's pallet, of record `r`: GRANTED it returns to READY, LOADED it is stranded. -/
def State.returnPallet (r : Nat) (p : Pallet) (s : State) : State :=
  if p.state = .granted then s.becomeReady r
  else if p.state = .loaded then s.onPallet r fun p => { p with stranded := true }
  else s

/-- R155: the number the raise of SHUTTLE_FAULT carries: the job's pallet, or 0 with no job or a STORED pallet. -/
def raisedNumber (p : Option (Nat × Pallet)) : Nat :=
  match p with
  | some (_, q) => if q.state = .stored then 0 else q.number
  | none => 0

/-- R155: the shuttle's stranded pallet. -/
def strandedBy (p : Option (Nat × Pallet)) : Option Nat :=
  match p with
  | some (_, q) => if q.state = .loaded then some q.number else none
  | none => none

/-- R155: the job's pallet as a fault finds it, with its record: none without a job, and none once the door pass has been made.
The pallet is then STORED, its record may have been freed (R159), and another pallet may hold its number (R144). -/
def TransferUnit.jobPallet (u : TransferUnit) : Option (Nat × Pallet) :=
  u.shuttle.job.bind fun j => if j.doorMade then none else u.findPallet j.pallet

/-- R155: the shuttle enters FAULTED. -/
def State.faultShuttle (cause : ShuttleCause) (s : State) : State :=
  let pallet := s.transfer.jobPallet
  let s1 := (s.cancel .shuttleJob).onShuttle (Shuttle.fail cause (strandedBy pallet))
  let s2 := match pallet with
    | some (r, p) => s1.returnPallet r p
    | none => s1
  s2.fire .shuttleFault .transfer (raisedNumber pallet) s.time.lineTime

/-- SHUTTLE JOB TIMER EXPIRY (R155): in ASSIGNED and CARRYING the shuttle is FAULTED with cause TIMEOUT. -/
def execShuttleJobTimerExpiry (s : State) : Outcome :=
  s.act fun s => s.expire .shuttleJob fun s =>
    if s.transfer.shuttle.state = .assigned ∨ s.transfer.shuttle.state = .carrying then s.faultShuttle .timeout else s

/-- FAULT EDGE (R150, R155); while the pin is asserted only the level is recorded (R162). -/
def execFaultEdge (s : State) : Outcome :=
  s.act fun s => s.deliver .faultIn fun e s =>
    let s1 := s.onShuttle fun sh => { sh with faultLevel := e.rising }
    if e.rising && !s.pin && !decide (s.transfer.shuttle.state = .faulted) then s1.faultShuttle .input else s1

/-! ### The handshake -/

/-- R152, R154: a shuttle input that is not expected. -/
def State.unexpected (i : ShuttleInput) (s : State) : State := s.notify (.shuttleUnexpected i s.transfer.shuttle.state)

/-- R152: an asserting edge of ACCEPT. -/
def State.accepted (s : State) : State :=
  if s.transfer.shuttle.state = .assigned then s.onShuttle fun sh => { sh with jobValid := false } else s.unexpected .accept

/-- ACCEPT EDGE (R150, R152). -/
def execAcceptEdge (s : State) : Outcome :=
  s.act fun s => s.deliver .acceptIn fun e s =>
    let s1 := s.onShuttle fun sh => { sh with acceptLevel := e.rising }
    if e.rising && !s.pin then s1.accepted else s1

/-- R152: an asserting edge of LOADED. -/
def State.loaded (s : State) : State :=
  match s.transfer.shuttle.state, s.transfer.shuttle.job with
  | .assigned, some j =>
    let s1 := s.onShuttle fun sh => { sh with state := .carrying, jobValid := false }
    match s.transfer.findPallet j.pallet with
    | some (r, _) => s1.onPallet r fun p => { p with state := .loaded }
    | none => s1
  | _, _ => s.unexpected .loaded

/-- LOADED EDGE (R150, R152). -/
def execLoadedEdge (s : State) : Outcome :=
  s.act fun s => s.deliver .loadedIn fun e s =>
    let s1 := s.onShuttle fun sh => { sh with loadedLevel := e.rising }
    if e.rising && !s.pin then s1.loaded else s1

/-- R154: an asserting edge of DONE ends the job after the door pass. -/
def State.jobDone (s : State) : State :=
  match s.transfer.shuttle.state, s.transfer.shuttle.job with
  | .carrying, some j =>
    if j.doorMade then
      ((s.cancel .shuttleJob).onShuttle fun sh => { sh with state := .idle, job := none, jobValid := false }).arbitrate
    else s.unexpected .finished
  | _, _ => s.unexpected .finished

/-- DONE EDGE (R150, R154). -/
def execDoneEdge (s : State) : Outcome :=
  s.act fun s => s.deliver .doneIn fun e s =>
    let s1 := s.onShuttle fun sh => { sh with doneLevel := e.rising }
    if e.rising && !s.pin then s1.jobDone else s1

/-! ### The door -/

/-- R72, R153: a lot with one more pallet in the store. -/
def Lot.storePallet (quarantined : Bool) (l : Lot) : Lot :=
  if quarantined then { l with palletsQuarantined := l.palletsQuarantined + 1 } else { l with palletsStored := l.palletsStored + 1 }

/-- R153, step 3: a door time past the due quarantines a pallet that is not yet EXPOSED. -/
def State.judgeDoor (r : Nat) (stamp : Nat) (s : State) : State :=
  match s.transfer.pallets.get? r with
  | some p => if p.exposureDue < stamp ∧ p.exposed = false then s.expose r p else s
  | none => s

/-- R153, steps 4 and 5: the pallet is STORED, counted by its verdict, and its PALLET TRANSFER is offered. -/
def State.storePallet (r : Nat) (s : State) : State :=
  match s.transfer.pallets.get? r with
  | some p =>
    ((s.onPallet r fun p => { p with state := .stored }).onLot p.slot (Lot.storePallet p.quarantined)).offerPart r 1
  | none => s

/-- R153: the door pass of the pallet of record `r`. -/
def State.doorPass (r stamp : Nat) (s : State) : State :=
  let s1 := s.onPallet r fun p => { p with doorTime := some stamp }
  let s2 := s1.onShuttle fun sh => { sh with job := sh.job.map fun j => { j with doorMade := true } }
  ((s2.cancel (.exposure r)).judgeDoor r stamp).storePallet r

/-- R153, R154: a rising edge of the door eye. -/
def State.doorEdge (stamp : Nat) (s : State) : State :=
  match s.transfer.shuttle.state, s.transfer.shuttle.job with
  | .carrying, some j =>
    if j.doorMade then s.notify (.doorUnexpected stamp none (some j.pallet))
    else
      match s.transfer.findPallet j.pallet with
      | some (r, _) => s.doorPass r stamp
      | none => s
  | st, _ => s.notify (.doorUnexpected stamp (some st) none)

/-- DOOR EYE EDGE (R153, R154); a falling edge is ignored, and so is any edge while the pin is asserted (R162). -/
def execDoorEyeEdge (s : State) : Outcome :=
  s.act fun s => s.deliver .doorEye fun e s => if e.rising && !s.pin then s.doorEdge e.stamp else s

/-! ### SHUTTLE RESET -/

/-- R157: the shuttle IDLE again. -/
def Shuttle.recover (sh : Shuttle) : Shuttle :=
  { sh with state := .idle, job := none, jobValid := false, cause := none, stranded := none }

/-- R157: the stranded pallet returns to READY, and the arbiter makes its choice. -/
def State.recoverShuttle (s : State) : State :=
  let s1 := s.onShuttle Shuttle.recover
  match s.transfer.shuttle.stranded.bind fun number => s.transfer.findPallet number with
  | some (r, _) => s1.becomeReady r
  | none => s1.arbitrate

/-- R157: SHUTTLE RESET, judged by the FAULT level last delivered (log 46). -/
def doShuttleReset (_ : Unit) (s : State) : State × ReplyBody :=
  if s.transfer.shuttle.state ≠ .faulted then s.refuse .wrongState
  else if s.transfer.shuttle.faultLevel then s.refuse .stillActive
  else (s.recoverShuttle, .shuttleReset (s.transfer.shuttle.stranded.getD 0))

/-- SHUTTLE RESET (R157). -/
def execShuttleReset (s : State) : Outcome := s.act fun s => s.handOn .shuttleReset parseNone doShuttleReset

end Sys2Proof.Machine
end

