-- ==== Sys2Proof/Machine/Link.lean ====
section
/-! DEFINITION. The host link (chapter 10): the receiver, the receive queue, BUSY replies, the end of a frame sent, and the
answer to an unknown kind. -/

namespace Sys2Proof.Machine

/-! ### The receiver -/

/-- R182: a whole frame arrives: it takes a place, or is answered BUSY, or is discarded. -/
def LinkUnit.arrive (pin : Bool) (f : Frame) (u : LinkUnit) : LinkUnit :=
  if pin then u
  else if u.receive.length < Config.receiveDepth then { u with receive := u.receive ++ [.waiting f] }
  else if u.busy.length < Config.busyDepth then { u with busy := u.busy ++ [⟨replyKind f.kind, f.tag, .status .busy⟩] }
  else u

/-- R180, R181: a frame read to its end, where its CRC matches. The bytes are those after the sync byte: length, kind, tag,
payload and CRC. -/
def frameOf (bytes : List Byte) : Option Frame :=
  let n := bytes.length - 2
  let body := bytes.take n
  match body, bytes.drop n with
  | _ :: _ :: kind :: tag :: payload, [k0, k1] => if crc body = k1 ++ k0 then some ⟨kind, tag, payload⟩ else none
  | _, _ => none

/-- R181: one byte after a sync byte, with those read before it: hunting again, still reading, or a frame read to its end. -/
def LinkUnit.readByte (pin : Bool) (acc : List Byte) (b : Byte) (u : LinkUnit) : LinkUnit :=
  let acc' := acc ++ [b]
  if acc'.length = 2 ∧ Config.payloadMax < leNat acc' then { u with receiver := none }
  else if acc'.length < 2 ∨ acc'.length < 6 + leNat (acc'.take 2) then { u with receiver := some acc' }
  else
    let u' := { u with receiver := none }
    match frameOf acc' with
    | some f => u'.arrive pin f
    | none => u'

/-- R181: one byte received. -/
def LinkUnit.takeByte (pin : Bool) (b : Byte) (u : LinkUnit) : LinkUnit :=
  match u.receiver with
  | none => if b = 0xA5 then { u with receiver := some [] } else u
  | some acc => u.readByte pin acc b

/-- R181: bytes received one after the other. -/
def LinkUnit.takeBytes (pin : Bool) : List Byte → LinkUnit → LinkUnit
  | [], u => u
  | b :: bs, u => LinkUnit.takeBytes pin bs (u.takeByte pin b)

/-- R181, R19: more than 10 base milliseconds have passed since the last byte of the frame in reception. -/
def LinkUnit.gapPassed (now : Nat) (u : LinkUnit) : Bool := u.receiver.isSome && decide (u.lastByte + Config.gapLimit < now)

/-- R181: the frame in reception is discarded when its gap has passed. -/
def LinkUnit.dropGap (now : Nat) (u : LinkUnit) : LinkUnit := if u.gapPassed now then { u with receiver := none } else u

/-- R181, R182: bytes received at a base millisecond. -/
def LinkUnit.receiveBytes (pin : Bool) (now : Nat) (bytes : List Byte) (u : LinkUnit) : LinkUnit :=
  if bytes = [] then u else { LinkUnit.takeBytes pin bytes (u.dropGap now) with lastByte := now }

/-- FRAME RECEIVED (R181, R182). -/
def execFrameReceived (bytes : List Byte) (s : State) : Outcome :=
  s.act fun s => s.onLink (LinkUnit.receiveBytes s.pin s.time.baseMs bytes)

/-- INTER BYTE GAP TIMEOUT (R181); while the gap has not passed nothing happens (log 4). -/
def execInterByteGapTimeout (s : State) : Outcome := s.act fun s => s.onLink (LinkUnit.dropGap s.time.baseMs)

/-- BROKEN CHARACTER (R179, R181): the frame in reception is discarded. -/
def execBrokenCharacter (s : State) : Outcome := s.act fun s => s.onLink fun u => { u with receiver := none }

/-! ### Unknown kinds -/

/-- R183: the oldest waiting frame, of no request kind, is answered UNKNOWN_KIND. -/
def State.answerUnknown (s : State) : State :=
  if s.pin then s
  else
    match s.link.oldest with
    | some f => if isRequestKind f.kind then s else s.answer f (.status .unknownKind)
    | none => s

/-- UNKNOWN KIND (R183). -/
def execUnknownKind (s : State) : Outcome := s.act State.answerUnknown

/-! ### The end of a frame sent -/

/-- R185: the oldest waiting retained notice enters the freed entry, and its owner takes the step tied to it (R73, R159). -/
def State.enterOldest (s : State) : State :=
  match s.link.waiting with
  | [] => s
  | .lotSummary slot :: rest => (s.onLink fun u => { u with waiting := rest }).enterSummary slot
  | .palletPart r part :: rest => (s.onLink fun u => { u with waiting := rest }).enterPart r part

/-- R184, R185: the frame in transmission has been sent to its end. -/
def State.frameSent (s : State) : State :=
  match s.link.transmitter with
  | .idle => s
  | .reply _ => s.onLink fun u => { u with transmitter := .idle }
  | .notice _ queued =>
    if queued then (s.onLink fun u => { u with transmitter := .idle, notices := u.notices.drop 1 }).enterOldest
    else s.onLink fun u => { u with transmitter := .idle }

/-- FRAME SENT (R184, R185). -/
def execFrameSent (s : State) : Outcome := s.act State.frameSent

end Sys2Proof.Machine
end

