-- ==== Sys2Proof/Machine/Parcels.lean ====
section
/-! DEFINITION. The parcel unit (chapter 4): declarations, creation, manual holds, retirement, and the reads. -/

namespace Sys2Proof.Machine

/-! ### INFEED DECLARE -/

/-- R57, R58: the code is well formed, is not all spaces, and is not the reserved code. -/
def codeOk (code : List Byte) : Bool :=
  (code.all fun b => decide (0x20 ≤ b) && decide (b ≤ 0x7E)) && (code.any fun b => decide (b ≠ 0x20)) &&
    decide (code ≠ provingCode)

/-- R58: a lot in the table holds the code with a different recipe or class. -/
def ParcelUnit.disagrees (u : ParcelUnit) (code : List Byte) (recipe cls : Nat) : Bool :=
  u.lots.vals.any fun l => decide (l.code = code) && !(decide (l.recipe = recipe) && decide (l.cls = cls))

/-- R58: INFEED DECLARE stages a declaration. -/
def doInfeedDeclare (d : List Byte × Nat × Nat) (s : State) : State × ReplyBody :=
  if d.2.1 ≤ 15 ∧ d.2.2 ≤ 7 ∧ codeOk d.1 = true ∧ s.parcel.disagrees d.1 d.2.1 d.2.2 = false then
    (s.onParcel fun u => { u with staged := some ⟨d.1, d.2.1, d.2.2, false⟩ }, .status .ok)
  else s.refuse .badValue

/-- INFEED DECLARE (R58). -/
def execInfeedDeclare (s : State) : Outcome := s.act fun s => s.handOn .infeedDeclare parseDeclare doInfeedDeclare

/-- R59: the lot a staged code names: ACTIVE or RETIRING, without the proving mark. -/
def ParcelUnit.lookup (u : ParcelUnit) (code : List Byte) : Option (Nat × Lot) :=
  u.lots.first? fun _ l => decide (l.code = code) && !l.proving

/-- R59: a RETIRING lot returns to ACTIVE and its waiting summary is withdrawn (log 23). -/
def State.revive (slot : Nat) (s : State) : State :=
  (s.onLot slot fun l => { l with retired := none }).withdraw (.lotSummary slot)

/-- R59: no lot and no FREE slot: LOT_TABLE_FULL is queued once for a staged declaration. -/
def State.tableFull (d : Staged) (stamp : Nat) (s : State) : State :=
  if d.tableFull then s
  else (s.onParcel fun u => { u with staged := some { d with tableFull := true } }).notify (.lotTableFull d.code stamp)

/-- R59: the lookup of the staged declaration at an index of track 1. -/
def State.applyDeclaration (stamp : Nat) (s : State) : State :=
  match s.parcel.staged with
  | none => s
  | some d =>
    match s.parcel.lookup d.code with
    | some (slot, l) => if l.retired.isSome then (s.revive slot).makeCurrent slot else s.makeCurrent slot
    | none =>
      match s.parcel.lots.freeKey 0 Config.lotCount with
      | some slot => (s.newLot slot (Lot.new d.code d.recipe d.cls false)).makeCurrent slot
      | none => s.tableFull d stamp

/-! ### Creation -/

/-- R62: the first number from `q` on that no live parcel holds. -/
def freeSeq (t : Table Parcel) : Nat → Seq → Seq
  | 0, q => q
  | fuel + 1, q => if t.any fun e => decide (e.2.seq = q) then freeSeq t fuel (q + 1) else q

/-- R61: the count of test parcels a proving run allows; no bound outside a run. -/
def State.mayCreate (s : State) (l : Lot) : Bool :=
  if s.line.state = .proving then
    match s.comm.record.run with
    | some r => decide (l.created.toNat < r.count)
    | none => false
  else true

/-- R61: a new parcel. -/
def Parcel.new (q : Seq) (slot : Nat) (l : Lot) (stamp : Nat) : Parcel :=
  { seq := q, slot := slot, recipe := l.recipe, cls := l.cls, loc := .track 1 0, created := stamp, freezerEntry := none
    credit := 0, zone := none, armed := false, deviation := ⟨false, false, false⟩, proving := l.proving
    movedAt := 0, past := [] }

/-- R61: a lot with one more parcel created. -/
def Lot.create (q : Seq) (l : Lot) : Lot :=
  { l with created := l.created + 1, live := l.live + 1, lastSeq := some q
           firstSeq := match l.firstSeq with
             | some f => some f
             | none => some q }

/-- R61: create a parcel under the lot of `slot` in the free record `k`. -/
def State.createParcel (slot : Nat) (l : Lot) (k stamp : Nat) (s : State) : State :=
  let q := freeSeq s.parcel.parcels Config.parcelCount (s.parcel.lastSeq + 1)
  (s.onParcel fun u => { u with parcels := u.parcels.put k (Parcel.new q slot l stamp), lastSeq := q }).onLot slot (Lot.create q)

/-- R61: the current lot, where the conditions of a creation hold, with the free record. -/
def State.creation (s : State) (presence : Bool) : Option (Nat × Lot × Nat) :=
  if s.infeedRun && presence then
    match s.parcel.current with
    | some slot =>
      match s.parcel.lots.get? slot, s.parcel.parcels.freeKey 0 Config.parcelCount with
      | some l, some k => if s.mayCreate l then some (slot, l, k) else none
      | _, _ => none
    | none => none
  else none

/-! ### Retirement -/

/-- R68: the outcome counts of a lot. -/
def Lot.outcome (r : LaneResult) (l : Lot) : Lot :=
  match r.cause with
  | none => { l with released := l.released + 1, live := l.live - 1 }
  | some .held => { l with held := l.held + 1, live := l.live - 1 }
  | some .proving => { l with held := l.held + 1, live := l.live - 1 }
  | some .class0 => { l with held := l.held + 1, live := l.live - 1 }
  | some .noLane => { l with redirected := l.redirected + 1, live := l.live - 1 }
  | some .gateBusy => { l with redirected := l.redirected + 1, live := l.live - 1 }
  | some .noBag => { l with redirected := l.redirected + 1, live := l.live - 1 }

/-- R68, R69, R73: retire the parcel of record `k`: its lot's counts change, the record is freed, the lot is tested. -/
def State.retireParcel (k slot : Nat) (f : Lot → Lot) (s : State) : State :=
  ((s.onParcel fun u => { u with parcels := u.parcels.del k }).onLot slot f).retireTest slot

/-! ### HOLD RANGE, CLEAR HOLD RANGE -/

/-- R66: the live parcels in a range. -/
def State.inRange (s : State) (r : Seq × Seq) : List Parcel := s.parcel.parcels.vals.filter fun p => Machine.inRange r.1 r.2 p.seq

/-- R66: HOLD RANGE adds MANUAL to every live parcel in the range. -/
def doHoldRange (r : Seq × Seq) (s : State) : State × ReplyBody :=
  (s.markParcels (fun p => Machine.inRange r.1 r.2 p.seq) fun p => p.setManual true,
    .rangeCounts (s.inRange r).length ((s.inRange r).filter fun p => !p.deviation.manual).length)

/-- HOLD RANGE (R66). -/
def execHoldRange (s : State) : Outcome := s.act fun s => s.handOn .holdRange parseRange doHoldRange

/-- R67: CLEAR HOLD RANGE removes MANUAL from every live parcel in the range. -/
def doClearHoldRange (r : Seq × Seq) (s : State) : State × ReplyBody :=
  (s.markParcels (fun p => Machine.inRange r.1 r.2 p.seq) fun p => p.setManual false,
    .rangeCounts (s.inRange r).length ((s.inRange r).filter fun p => p.deviation.manual).length)

/-- CLEAR HOLD RANGE (R67). -/
def execClearHoldRange (s : State) : Outcome := s.act fun s => s.handOn .clearHoldRange parseRange doClearHoldRange

/-! ### Reads -/

/-- R65: PARCEL READ. -/
def doParcelRead (q : Seq) (s : State) : State × ReplyBody :=
  match s.parcel.find q with
  | some (k, p) =>
    let code := match s.parcel.lots.get? p.slot with
      | some l => l.code
      | none => []
    (s, .parcelRead ⟨k, p, code⟩)
  | none => s.refuse .notFound

/-- PARCEL READ (R65). -/
def execParcelRead (s : State) : Outcome := s.act fun s => s.handOn .parcelRead parseSeq doParcelRead

/-- R75: a staged declaration names this code. -/
def ParcelUnit.names (u : ParcelUnit) (code : List Byte) : Bool :=
  match u.staged with
  | some d => decide (d.code = code)
  | none => false

/-- R75: LOT READ. -/
def doLotRead (slot : Nat) (s : State) : State × ReplyBody :=
  if slot ≤ 15 then
    (s, .lotRead ⟨s.parcel.slotState slot,
      (s.parcel.lots.get? slot).map fun l => (l, decide (s.parcel.current = some slot), s.parcel.names l.code),
      s.parcel.staged⟩)
  else s.refuse .badValue

/-- LOT READ (R75). -/
def execLotRead (s : State) : Outcome := s.act fun s => s.handOn .lotRead parseByte doLotRead

end Sys2Proof.Machine
end

