-- ==== Sys2Proof/Machine/Probes.lean ====
section
/-! DEFINITION. The probe unit (chapter 5): the sensor bus, samples and misses, levels, external trips, routes, latches. -/

namespace Sys2Proof.Machine

/-- Change a channel record. -/
def State.onChannel (s : State) (c : Nat) (f : Channel → Channel) : State :=
  s.onProbe fun u => { u with channels := u.channels.modify c f }

/-! ### Settings -/

/-- R87: the conditions of a channel as formed from the external forcing alone. -/
def State.forcing (s : State) (c : Nat) : LevelMap Bool :=
  ⟨s.forced c .lowCrit, s.forced c .low, s.forced c .high, s.forced c .highCrit⟩

/-- R81: the working fields of a channel whose enable or address has changed; its latches and last-fault time stay. -/
def Channel.restart (forcing : LevelMap Bool) (ch : Channel) : Channel :=
  { ch with state := if ch.enabled then .waiting else .off, lastValue := none, lastSample := none, overRange := false
            misses := 0, lastMiss := none, results := .const false, conditions := forcing }

/-- R81, R112: a channel starts afresh: an exchange of it in flight is void, it is not polled in this round once disabled, and
its chain is discarded. -/
def State.restartChannel (c : Nat) (enabled : Bool) (s : State) : State :=
  let s1 := s.onProbe fun u =>
    { u with exchange := u.exchange.map fun e => if e.channel = c then { e with void := true } else e
             remaining := if enabled then u.remaining else u.remaining.filter fun m => !decide (m = c) }
  (s1.onChannel c (Channel.restart (s.forcing c))).setChain c ⟨none, 0⟩

/-- R81: the checks of CHANNEL SET on its fields against the other channels. -/
def ProbeUnit.admits (u : ProbeUnit) (c address : Nat) (enabled : Bool) (role : Role) : Bool :=
  !(decide (role = .exit) && u.channels.any fun e => decide (e.1 ≠ c) && decide (e.2.role = .exit)) &&
    !(enabled && u.channels.any fun e => decide (e.1 ≠ c) && e.2.enabled && decide (e.2.address = address))

/-- R81: CHANNEL SET on well-formed fields. -/
def State.setChannel (c address : Nat) (enabled : Bool) (role : Role) (s : State) : State :=
  match s.probe.channels.get? c with
  | none => s
  | some ch =>
    let s1 := s.onChannel c fun ch => { ch with address := address, enabled := enabled, role := role }
    if ch.enabled = enabled ∧ ch.address = address then s1 else s1.restartChannel c enabled

/-- R81: CHANNEL SET's checks in their order. -/
def doChannelSet (d : Nat × Nat × Nat × Nat) (s : State) : State × ReplyBody :=
  match yesNo d.2.2.1, Role.ofNat? d.2.2.2 with
  | some enabled, some role =>
    if ¬(1 ≤ d.1 ∧ d.1 ≤ 16 ∧ 1 ≤ d.2.1 ∧ d.2.1 ≤ 16) then s.refuse .badValue
    else if !s.probe.admits d.1 d.2.1 enabled role then s.refuse .badValue
    else if s.store.commissioning then s.refuse .busy
    else ((s.setChannel d.1 d.2.1 enabled role).edited, .status .ok)
  | _, _ => s.refuse .badValue

/-- CHANNEL SET (R81). -/
def execChannelSet (s : State) : Outcome := s.act fun s => s.handOn .channelSet parseChannelSet doChannelSet

/-- R84: the offset after a step, within -50..+50. -/
def stepOffset (offset direction : Int) : Int := max (-50) (min 50 (offset + direction))

/-- R84: OFFSET STEP; a step that changes the offset advances the generation. -/
def doOffsetStep (d : Nat × Int) (s : State) : State × ReplyBody :=
  match s.probe.channels.get? d.1 with
  | none => s.refuse .badValue
  | some ch =>
    if ¬(d.2 = 1 ∨ d.2 = -1) then s.refuse .badValue
    else if s.store.commissioning then s.refuse .busy
    else
      let offset := stepOffset ch.offset d.2
      if offset = ch.offset then (s, .offset offset)
      else ((s.onChannel d.1 fun ch => { ch with offset := offset }).edited, .offset offset)

/-- OFFSET STEP (R84). -/
def execOffsetStep (s : State) : Outcome := s.act fun s => s.handOn .offsetStep parseOffsetStep doOffsetStep

/-- R85: the ranges and the order of the levels. -/
def LevelsSet.ok (d : LevelsSet) : Bool :=
  decide (1 ≤ d.channel) && decide (d.channel ≤ 16) && decide (-500 ≤ d.levels.lowCrit) &&
    decide (d.levels.lowCrit ≤ d.levels.low) && decide (d.levels.low < d.levels.high) &&
    decide (d.levels.high ≤ d.levels.highCrit) && decide (d.levels.highCrit ≤ 1500) && decide (d.hysteresis ≤ 100)

/-- R85: LEVELS SET. -/
def doLevelsSet (d : LevelsSet) (s : State) : State × ReplyBody :=
  if !d.ok then s.refuse .badValue
  else if s.store.commissioning then s.refuse .busy
  else
    ((s.onChannel d.channel fun ch =>
        { ch with levels := d.levels, hysteresis := d.hysteresis, results := .const false
                  conditions := s.forcing d.channel }).edited, .status .ok)

/-- LEVELS SET (R85). -/
def execLevelsSet (s : State) : Outcome := s.act fun s => s.handOn .levelsSet parseLevelsSet doLevelsSet

/-- R90: replace the route of a source. -/
def State.setRoute (s : State) (x : TripSource) (r : Route) : State :=
  s.onProbe fun u =>
    match x with
    | .level c l => { u with channels := u.channels.modify c fun ch => { ch with routes := ch.routes.put r l } }
    | .stale c => { u with channels := u.channels.modify c fun ch => { ch with staleRoute := r } }
    | .exposure => { u with exposure := { u.exposure with route := r } }
    | .shuttleFault => { u with shuttleFault := { u.shuttleFault with route := r } }

/-- R90: ROUTE SET; MARK_ZONE is refused for EXPOSURE and SHUTTLE_FAULT. -/
def doRouteSet (d : Nat × Nat × Nat) (s : State) : State × ReplyBody :=
  match TripSource.ofBytes? d.1 d.2.1, Route.ofNat? d.2.2 with
  | some x, some r =>
    if x.channel.isNone ∧ r.markZone = true then s.refuse .badValue
    else if s.store.commissioning then s.refuse .busy
    else ((s.setRoute x r).edited, .status .ok)
  | _, _ => s.refuse .badValue

/-- ROUTE SET (R90). -/
def execRouteSet (s : State) : Outcome := s.act fun s => s.handOn .routeSet parseRouteSet doRouteSet

/-- R88: the binding EXTERNAL TRIP SET names, where it is well formed. -/
def ExternalSet.binding? (d : ExternalSet) : Option (Option (Nat × LevelName)) :=
  match optField d.flag (d.channel, d.level) with
  | none => none
  | some none => some none
  | some (some (c, l)) =>
    match bindingLevel? l with
    | some level => if 1 ≤ c ∧ c ≤ 16 then some (some (c, level)) else none
    | none => none

/-- R87, R88: form the conditions of a binding's channel again, at a line time. -/
def State.reformBound (time : Nat) (b : Option (Nat × LevelName)) (s : State) : State :=
  match b with
  | some (c, _) => s.reform c .external time
  | none => s

/-- R88: the binding replaces the input's previous one, and the conditions of both are formed again from the level last delivered
to the probe unit, the model's choice where an accepted edge still waits (log 46). -/
def State.bind (input : Nat) (b : Option (Nat × LevelName)) (s : State) : State :=
  match s.probe.external.get? input with
  | some x =>
    let s1 := s.onProbe fun u => { u with external := u.external.put input { x with binding := b } }
    (s1.reformBound s.time.lineTime x.binding).reformBound s.time.lineTime b
  | none => s

/-- R88: EXTERNAL TRIP SET. -/
def doExternalTripSet (d : ExternalSet) (s : State) : State × ReplyBody :=
  match d.binding? with
  | some b =>
    if ¬(1 ≤ d.input ∧ d.input ≤ 2) then s.refuse .badValue
    else if s.store.commissioning then s.refuse .busy
    else ((s.bind d.input b).edited, .status .ok)
  | none => s.refuse .badValue

/-- EXTERNAL TRIP SET (R88). -/
def execExternalTripSet (s : State) : Outcome := s.act fun s => s.handOn .externalTripSet parseExternalSet doExternalTripSet

/-- R79: SAMPLING SET. -/
def doSamplingSet (ms : Nat) (s : State) : State × ReplyBody :=
  if 200 ≤ ms ∧ ms ≤ 2000 ∧ ms % 100 = 0 then (s.onProbe fun u => { u with period := ms }, .status .ok)
  else s.refuse .badValue

/-- SAMPLING SET (R79). -/
def execSamplingSet (s : State) : Outcome := s.act fun s => s.handOn .samplingSet parseWord doSamplingSet

/-! ### TRIP ACK and CHANNEL READ -/

/-- R96: TRIP ACK judges the latch against the condition as it stands. -/
def doTripAck (d : Nat × Nat) (s : State) : State × ReplyBody :=
  match TripSource.ofBytes? d.1 d.2 with
  | none => s.refuse .badValue
  | some x =>
    if !s.latch x then (s, .tripAck false)
    else if s.condition x then s.refuse .stillActive
    else (s.setLatch x false, .tripAck true)

/-- TRIP ACK (R96). -/
def execTripAck (s : State) : Outcome := s.act fun s => s.handOn .tripAck parseSource doTripAck

/-- R97: the external inputs bound to a channel, with the levels last delivered (log 46). -/
def ProbeUnit.boundTo (u : ProbeUnit) (c : Nat) : List (Nat × Bool) :=
  (u.external.filter fun e => decide ((e.2.binding.map fun b => b.1) = some c)).map fun e => (e.1, e.2.level)

/-- R97: CHANNEL READ for a channel. -/
def State.channelReply (s : State) (c : Nat) (ch : Channel) : ChannelReply :=
  { channel := ch, staleHolds := decide (ch.state = .stale)
    zones := (s.track.zoneMap.filter fun z => decide (z.channel = some c)).map fun z => z.id
    inputs := s.probe.boundTo c }

/-- R97: CHANNEL READ for channel 0. -/
def State.probeSummary (s : State) : ProbeSummary :=
  { period := s.probe.period, lastRound := s.probe.lastRound, inputs := s.probe.external.vals
    exposure := s.probe.exposure, shuttleCondition := s.condition .shuttleFault, shuttleFault := s.probe.shuttleFault
    infeedHold := s.infeedHold, latches := s.latchCount }

/-- R97: CHANNEL READ. -/
def doChannelRead (c : Nat) (s : State) : State × ReplyBody :=
  if c = 0 then (s, .probeSummary s.probeSummary)
  else
    match s.probe.channels.get? c with
    | some ch => (s, .channelRead (s.channelReply c ch))
    | none => s.refuse .badValue

/-- CHANNEL READ (R97). -/
def execChannelRead (s : State) : Outcome := s.act fun s => s.handOn .channelRead parseByte doChannelRead

/-! ### Samples -/

/-- R82: a value clamped to the range of a temperature. -/
def clamp (v : Int) : Int := max (-500) (min 1500 v)

/-- R86: a high level's sample result after a value. -/
def judgeHigh (held : Bool) (level : Int) (hysteresis : Nat) (v : Int) : Bool :=
  if held then decide (level - hysteresis ≤ v) else decide (level ≤ v)

/-- R86: a low level's sample result after a value. -/
def judgeLow (held : Bool) (level : Int) (hysteresis : Nat) (v : Int) : Bool :=
  if held then decide (v ≤ level + hysteresis) else decide (v ≤ level)

/-- R86: the four sample results after a value. -/
def Channel.judge (ch : Channel) (v : Int) : LevelMap Bool :=
  { lowCrit := judgeLow ch.results.lowCrit ch.levels.lowCrit ch.hysteresis v
    low := judgeLow ch.results.low ch.levels.low ch.hysteresis v
    high := judgeHigh ch.results.high ch.levels.high ch.hysteresis v
    highCrit := judgeHigh ch.results.highCrit ch.levels.highCrit ch.hysteresis v }

/-- R82, steps 1 to 5: the channel record after a good sample. -/
def Channel.sample (raw : Int) (stamp : Nat) (ch : Channel) : Channel :=
  let sum := raw + ch.offset
  let v := clamp sum
  { ch with overRange := decide (v ≠ sum), lastValue := some v, lastSample := some stamp, misses := 0, state := .live
            results := ch.judge v }

/-- R82: a good sample of channel `c`. -/
def State.goodSample (c : Nat) (raw : Int) (stamp : Nat) (s : State) : State :=
  match s.probe.channels.get? c with
  | none => s
  | some ch =>
    let v := clamp (raw + ch.offset)
    let wasStale := decide (ch.state = .stale)
    let s1 := s.onChannel c (Channel.sample raw stamp)
    let s2 := if wasStale then s1.notify (.staleCleared c v stamp) else s1
    let s3 := s2.reform c .sample stamp
    if s3.track.watchesBlanch c then s3.creditSample c v stamp wasStale else s3

/-- R83: the channel record after a miss. -/
def Channel.miss (cause : MissCause) (ch : Channel) : Channel :=
  let misses := min 3 (ch.misses + 1)
  { ch with misses := misses, lastMiss := some cause
            state := if misses = 3 ∧ (ch.state = .waiting ∨ ch.state = .live) then .stale else ch.state }

/-- R83: a miss of channel `c`; the third makes it STALE, its event fires, and the credit unit is told (R111). -/
def State.missed (c : Nat) (cause : MissCause) (s : State) : State :=
  match s.probe.channels.get? c with
  | none => s
  | some ch =>
    let s1 := s.onChannel c (Channel.miss cause)
    if (ch.miss cause).state = .stale ∧ ch.state ≠ .stale then
      (s1.fire (.stale c) .thirdMiss 0 s.time.lineTime).creditStale c
    else s1

/-! ### The sensor bus -/

/-- R79: the channel is enabled. -/
def ProbeUnit.enabled (u : ProbeUnit) (c : Nat) : Bool :=
  match u.channels.get? c with
  | some ch => ch.enabled
  | none => false

/-- R190: the poll frame for a transmitter address. -/
def pollFrame (address : Byte) : List Byte :=
  let k := crc [address]
  [0xC3, address, k.setWidth 8, (k >>> 8).setWidth 8]

/-- R78, R79: poll the next channel of the round that is still enabled; the window opens at the end of the poll (log 16). -/
def ProbeUnit.pollNext (now : Nat) (u : ProbeUnit) : ProbeUnit :=
  match u.remaining.dropWhile fun c => !u.enabled c with
  | [] => { u with remaining := [], exchange := none }
  | c :: rest =>
    match u.channels.get? c with
    | some ch => { u with remaining := rest, exchange := some ⟨c, ch.address, now, false, []⟩ }
    | none => { u with remaining := rest, exchange := none }

/-- R79: the enabled channels, in channel order. -/
def ProbeUnit.toPoll (u : ProbeUnit) : List Nat := (u.channels.filter fun e => e.2.enabled).map fun e => e.1

/-- R79: a round may begin: the previous one has ended and its period has passed. -/
def State.roundDue (s : State) : Bool :=
  s.probe.exchange.isNone && s.probe.remaining.isEmpty && decide (s.probe.nextRound ≤ s.time.baseMs)

/-- R79: a round begins. -/
def State.beginRound (s : State) : State :=
  s.onProbe fun u =>
    ({ u with remaining := u.toPoll, nextRound := s.time.baseMs + u.period
              lastRound := s.time.lineTime } : ProbeUnit).pollNext s.time.baseMs

/-- POLL ROUND START (R79); when no round may begin nothing happens (log 4). -/
def execPollRoundStart (s : State) : Outcome := s.act fun s => if s.roundDue then s.beginRound else s

/-- R78: the window of an exchange is open. -/
def Exchange.isOpen (e : Exchange) (now : Nat) : Bool := decide (now < e.opened + Config.answerWindow)

/-- R78: an exchange has ended with an outcome; a void one counts as neither a sample nor a miss (R81). The next poll of the
round is sent. -/
def State.endExchange (e : Exchange) (outcome : State → State) (s : State) : State :=
  let s1 := if e.void then s else outcome s
  s1.onProbe (ProbeUnit.pollNext s.time.baseMs)

/-- R78, R190: judge a whole sample frame of the exchange: address, temperature, status and CRC. -/
def State.judgeFrame (e : Exchange) (frame : List Byte) (s : State) : State :=
  match frame with
  | [_, a, t0, t1, st, k0, k1] =>
    if crc [a, t0, t1, st] = k1 ++ k0 ∧ a.toNat = e.address then
      if st.getLsbD 0 then
        (s.onChannel e.channel fun ch => { ch with lastFault := some s.time.lineTime }).missed e.channel .sensorFault
      else s.goodSample e.channel (leInt [t0, t1]) s.time.lineTime
    else s.missed e.channel .badFrame
  | _ => s

/-- R190: the bytes of a sample frame after these bytes: all before a sync byte are discarded. The answer is the frame in
reception, and whether it is whole. -/
def takeSample : List Byte → List Byte → List Byte × Bool
  | acc, [] => (acc, false)
  | acc, b :: bs =>
    if acc = [] ∧ b ≠ 0xC3 then takeSample [] bs
    else if acc.length = 6 then (acc ++ [b], true)
    else takeSample (acc ++ [b]) bs

/-- R78, R190: bytes on the sensor bus; outside an open window they are discarded, and so are those after a whole frame. -/
def State.sampleBytes (bytes : List Byte) (s : State) : State :=
  match s.probe.exchange with
  | none => s
  | some e =>
    if e.isOpen s.time.baseMs then
      let out := takeSample e.bytes bytes
      if out.2 then s.endExchange e (State.judgeFrame e out.1)
      else s.onProbe fun u => { u with exchange := some { e with bytes := out.1 } }
    else s

/-- SAMPLE FRAME (R78, R190). -/
def execSampleFrame (bytes : List Byte) (s : State) : Outcome := s.act (State.sampleBytes bytes)

/-- R78: the close of the window of the exchange in flight: a miss with cause NO_ANSWER. -/
def State.closeWindow (s : State) : State :=
  match s.probe.exchange with
  | none => s
  | some e => if e.isOpen s.time.baseMs then s else s.endExchange e (State.missed e.channel .noAnswer)

/-- ANSWER WINDOW CLOSE (R78); while the window is open, or without an exchange, nothing happens (log 4). -/
def execAnswerWindowClose (s : State) : Outcome := s.act State.closeWindow

/-! ### External trips -/

/-- R87: a filtered edge of external trip input `i`, with the line time at which it was taken. -/
def State.externalEdge (i : Nat) (rising : Bool) (stamp : Nat) (s : State) : State :=
  match s.probe.external.get? i with
  | some x => (s.onProbe fun u => { u with external := u.external.put i { x with level := rising } }).reformBound stamp
      x.binding
  | none => s

/-- EXTERNAL TRIP EDGE (R87). -/
def execExternalTripEdge (i : Nat) (s : State) : Outcome :=
  if (Instr.externalTripEdge i).wellFormed then
    s.act fun s => s.deliver (.externalTrip i) fun e s => s.externalEdge i e.rising e.stamp
  else .fault .noSuchLine

end Sys2Proof.Machine
end

