-- ==== Sys2Proof/Machine/TimeBase.lean ====
section
/-! DEFINITION. The time base (chapter 2): the base millisecond, TIME READ, TIME SET and TIME TRIM. -/

namespace Sys2Proof.Machine

/-! ### The base millisecond -/

/-- R18: the step of line time, with the accumulator after it. -/
def TimeUnit.step (u : TimeUnit) : Nat × Nat :=
  let sum := u.accumulator + u.trim.natAbs
  if Config.trimModulus ≤ sum then (if 0 < u.trim then 2 else 0, sum - Config.trimModulus) else (1, sum)

/-- R17, R18: line time after one base millisecond, held at its maximum. -/
def TimeUnit.advance (u : TimeUnit) : TimeUnit :=
  { u with lineTime := min (u.lineTime + u.step.1) Config.lineTimeMax, accumulator := u.step.2, baseMs := u.baseMs + 1 }

/-- R25: the timers that expire at this test, in the order of their table. -/
def TimeUnit.due (u : TimeUnit) : List TimerId :=
  (u.timers.filter fun e => decide (e.2 ≤ u.lineTime)).map fun e => TimerId.ofIndex e.1

/-- R25, R15: every timer that is due becomes IDLE, and its expiry waits for delivery unless the pin is asserted. -/
def TimeUnit.test (pin : Bool) (u : TimeUnit) : TimeUnit :=
  { u with timers := u.timers.filter fun e => !decide (e.2 ≤ u.lineTime)
           expired := if pin then u.expired else u.expired ++ u.due }

/-- R29: the inputs for which a last-edge record is kept. -/
def stampedInput : FieldInput → Bool
  | .doorEye => true
  | .sealIn _ => true
  | _ => false

/-- R29: one base millisecond of a level filter: the filter after it, and whether its level has changed. -/
def Filter.observe (f : Filter) (i : FieldInput) (asserted : Bool) (now : Nat) : Filter × Bool :=
  if asserted = f.level then ({ f with differs := 0 }, false)
  else if f.differs + 1 < Config.filterRun then ({ f with differs := f.differs + 1 }, false)
  else (⟨asserted, 0, if stampedInput i then some (asserted, now) else none⟩, true)

/-- R29: the filters after one base millisecond in which the inputs of `seen` were seen asserted. -/
def observeAll (seen : List FieldInput) (now : Nat) (fs : List (FieldInput × Filter)) : List (FieldInput × Filter) :=
  fs.map fun e => (e.1, (e.2.observe e.1 (decide (e.1 ∈ seen)) now).1)

/-- R29: the edges taken in that base millisecond, with direction and stamp. -/
def takenEdges (seen : List FieldInput) (now : Nat) (fs : List (FieldInput × Filter)) : List Edge :=
  (fs.filter fun e => (e.2.observe e.1 (decide (e.1 ∈ seen)) now).2).map fun e => ⟨e.1, decide (e.1 ∈ seen), now⟩

/-- R29: every filter observes its input, and the edges taken wait for delivery. -/
def TimeUnit.observe (seen : List FieldInput) (u : TimeUnit) : TimeUnit :=
  { u with filters := observeAll seen u.lineTime u.filters
           edges := u.edges ++ takenEdges seen u.lineTime u.filters }

/-- R18, R25, R29: the whole of one base millisecond. -/
def State.millisecond (seen : List FieldInput) (s : State) : State :=
  s.onTime fun u => (u.advance.test s.pin).observe seen

/-- BASE MILLISECOND (R17, R18, R25, R29). -/
def execBaseMillisecond (seen : List FieldInput) (s : State) : Outcome :=
  if (Instr.baseMillisecond seen).wellFormed then s.act (State.millisecond seen) else .fault .noSuchLine

/-! ### Reading, setting, trimming -/

/-- R29: the last-edge record of an input. -/
def TimeUnit.lastEdge (u : TimeUnit) (i : FieldInput) : LastEdge :=
  match u.filters.find? fun e => decide (e.1 = i) with
  | some e => ⟨e.2.level, e.2.last⟩
  | none => ⟨false, none⟩

/-- R20: the TIME READ reply. -/
def TimeUnit.reading (u : TimeUnit) : TimeReply :=
  { time := u.lineTime, trim := u.trim, accumulator := u.accumulator
    timers := (List.range 15).map fun i => u.timers.get? i
    edges := [.doorEye, .sealIn 1, .sealIn 2, .sealIn 3, .sealIn 4].map u.lastEdge }

/-- R20: TIME READ changes nothing. -/
def doTimeRead (_ : Unit) (s : State) : State × ReplyBody := (s, .timeRead s.time.reading)

/-- TIME READ (R20). -/
def execTimeRead (s : State) : Outcome := s.act fun s => s.handOn .timeRead parseNone doTimeRead

/-- R112: a discarded chain record. -/
def Chain.empty : Chain := ⟨none, 0⟩

/-- R27, R112: discard the chain record of every channel. -/
def State.discardChains (s : State) : State :=
  s.onCredit fun u => { u with chains := u.chains.mapVals fun _ _ => Chain.empty }

/-- R21, R27: TIME SET replaces line time; timers keep their dues, and every chain is discarded. -/
def doTimeSet (t : Nat) (s : State) : State × ReplyBody :=
  if t ≤ Config.timeSetMax then ((s.onTime fun u => { u with lineTime := t }).discardChains, .timeSet t)
  else s.refuse .badValue

/-- TIME SET (R21, R27). -/
def execTimeSet (s : State) : Outcome := s.act fun s => s.handOn .timeSet parseTime doTimeSet

/-- R22: TIME TRIM replaces the trim and sets the accumulator to 0. -/
def doTimeTrim (t : Int) (s : State) : State × ReplyBody :=
  if -500 ≤ t ∧ t ≤ 500 then (s.onTime fun u => { u with trim := t, accumulator := 0 }, .status .ok)
  else s.refuse .badValue

/-- TIME TRIM (R22). -/
def execTimeTrim (s : State) : Outcome := s.act fun s => s.handOn .timeTrim parseSigned doTimeTrim

end Sys2Proof.Machine
end

