-- ==== Sys2Proof/Machine/Tracks.lean ====
section
/-! DEFINITION. The track unit (chapter 3): definitions and zones, pulse counting, the index with all its parts, stalls. -/

namespace Sys2Proof.Machine

/-- Change a track record. -/
def State.onTrackRec (s : State) (n : Nat) (f : Track → Track) : State :=
  s.onTrack fun u => { u with tracks := u.tracks.modify n f }

/-! ### TRACK DEFINE -/

/-- R33, R34: the ranges of a definition's fields. -/
def TrackDefine.ok (d : TrackDefine) : Bool :=
  decide (16 ≤ d.segments) && decide (d.segments ≤ 512) && decide (1 ≤ d.pulses) && decide (d.pulses ≤ 65535) &&
    decide (d.group ≤ 2) && decide (100 ≤ d.stallLimit) && decide (d.stallLimit ≤ 10000) && (NoticeMode.ofNat? d.mode).isSome

/-- R34: the segments of the defined tracks other than `n`. -/
def segmentsWithout (n : Nat) : Table Track → Nat
  | [] => 0
  | (m, t) :: ts => if m = n then segmentsWithout n ts else t.segments + segmentsWithout n ts

/-- R36, R37: the zones of the defined tracks other than `n`. -/
def zonesWithout (n : Nat) : Table Track → Nat
  | [] => 0
  | (m, t) :: ts => if m = n then zonesWithout n ts else t.zones.length + zonesWithout n ts

/-- R34, R36: a track as an accepted TRACK DEFINE leaves it; a track already defined keeps the handover queue it feeds. -/
def TrackDefine.toTrack (d : TrackDefine) (mode : NoticeMode) (old : Option Track) : Track :=
  { segments := d.segments, pulses := d.pulses, group := d.group, stallLimit := d.stallLimit, mode := mode, staged := none
    head := 0, counter := 0, backedUp := false, stalled := false, zones := [⟨d.segments, .plain, none⟩]
    queue := match old with
      | some t => t.queue
      | none => [] }

/-- R34: a removal; the handover queue that fed the track ceases to exist. -/
def State.removeTrack (n : Nat) (s : State) : State :=
  s.onTrack fun u => { u with tracks := (u.tracks.del n).modify (n - 1) fun t => { t with queue := [] } }

/-- R34: TRACK DEFINE's checks in their order. -/
def doTrackDefine (d : TrackDefine) (s : State) : State × ReplyBody :=
  if ¬(1 ≤ d.track ∧ d.track ≤ 4) then s.refuse .badValue
  else if s.track.count + 1 < d.track then s.refuse .badValue
  else if d.segments = 0 then
    if d.track ≠ s.track.count then s.refuse .badValue
    else if s.store.commissioning then s.refuse .busy
    else ((s.removeTrack d.track).edited, .status .ok)
  else if !d.ok then s.refuse .badValue
  else if Config.cellCount < d.segments + segmentsWithout d.track s.track.tracks then s.refuse .badValue
  else if (s.track.tracks.get? d.track).isNone ∧ Config.zoneCount ≤ s.track.zoneMap.length then s.refuse .full
  else if s.store.commissioning then s.refuse .busy
  else
    match NoticeMode.ofNat? d.mode with
    | some mode =>
      ((s.onTrack fun u => { u with tracks := u.tracks.put d.track (d.toTrack mode (u.tracks.get? d.track)) }).edited, .status .ok)
    | none => s.refuse .badValue

/-- TRACK DEFINE (R34). -/
def execTrackDefine (s : State) : Outcome := s.act fun s => s.handOn .trackDefine parseTrackDefine doTrackDefine

/-! ### ZONE DEFINE -/

/-- R36, R37: an entry of ZONE DEFINE, where it is well formed. -/
def ZoneEntry.zone? (e : ZoneEntry) : Option Zone :=
  if e.length = 0 then none
  else
    match ZoneKind.ofNat? e.kind, optField e.flag e.channel with
    | some .blanch, some (some c) => if 1 ≤ c ∧ c ≤ 16 then some ⟨e.length, .blanch, some c⟩ else none
    | some .freeze, some (some c) => if 1 ≤ c ∧ c ≤ 16 then some ⟨e.length, .freeze, some c⟩ else none
    | some .cool, some none => some ⟨e.length, .cool, none⟩
    | some .plain, some none => some ⟨e.length, .plain, none⟩
    | _, _ => none

/-- R37: the zones of a list, where every entry is well formed. -/
def zones? : List ZoneEntry → Option (List Zone)
  | [] => some []
  | e :: es =>
    match e.zone?, zones? es with
    | some z, some zs => some (z :: zs)
    | _, _ => none

/-- R37: ZONE DEFINE's checks in their order. -/
def doZoneDefine (d : ZoneDefine) (s : State) : State × ReplyBody :=
  match s.track.tracks.get? d.track with
  | none => s.refuse .notFound
  | some t =>
    if ¬(1 ≤ d.entries.length ∧ d.entries.length ≤ 8) then s.refuse .badValue
    else
      match zones? d.entries with
      | none => s.refuse .badValue
      | some zs =>
        if (zs.map fun z => z.length).sum ≠ t.segments then s.refuse .badValue
        else if Config.zoneCount < zonesWithout d.track s.track.tracks + zs.length then s.refuse .full
        else if s.store.commissioning then s.refuse .busy
        else ((s.onTrackRec d.track fun t => { t with zones := zs }).edited, .status .ok)

/-- ZONE DEFINE (R37). -/
def execZoneDefine (s : State) : Outcome := s.act fun s => s.handOn .zoneDefine parseZoneDefine doZoneDefine

/-! ### TRACK READ, DIVIDER RESET, NOTICE MODE SET -/

/-- R54: the sequence number of the parcel in a record. -/
def State.seqOf (s : State) (k : Nat) : Option Seq := (s.parcel.parcels.get? k).map fun p => p.seq

/-- R54: the TRACK READ reply for `count` positions from `first` on. -/
def State.trackReply (s : State) (n : Nat) (t : Track) (first count : Nat) : TrackReply :=
  { segments := t.segments, pulses := t.pulses, group := t.group, stallLimit := t.stallLimit, mode := t.mode, staged := t.staged
    zones := s.track.zoneMap.filter fun z => decide (z.track = n)
    head := t.head, counter := t.counter, run := s.trackRun n, backedUp := t.backedUp, stalled := t.stalled
    queue := if n < s.track.count then some (t.queue.filterMap s.seqOf) else none
    positions := (List.range count).map fun i => (s.track.cells.get? (s.track.cellOf n t (first + i))).bind s.seqOf }

/-- R54: TRACK READ. -/
def doTrackRead (d : Nat × Nat × Nat) (s : State) : State × ReplyBody :=
  match s.track.tracks.get? d.1 with
  | none => s.refuse .notFound
  | some t =>
    if 1 ≤ d.2.2 ∧ d.2.2 ≤ 400 ∧ d.2.1 + d.2.2 ≤ t.segments then (s, .trackRead (s.trackReply d.1 t d.2.1 d.2.2))
    else s.refuse .badValue

/-- TRACK READ (R54). -/
def execTrackRead (s : State) : Outcome := s.act fun s => s.handOn .trackRead parseTrackRead doTrackRead

/-- R42: DIVIDER RESET. -/
def doDividerReset (g : Nat) (s : State) : State × ReplyBody :=
  if 2 < g then s.refuse .badValue
  else if s.track.tracks.vals.any fun t => decide (t.group = g) then
    (s.onTrack fun u => { u with tracks := u.tracks.mapVals fun _ t => if t.group = g then { t with counter := 0 } else t },
      .status .ok)
  else s.refuse .notFound

/-- DIVIDER RESET (R42). -/
def execDividerReset (s : State) : Outcome := s.act fun s => s.handOn .dividerReset parseByte doDividerReset

/-- R116: the outfeed notice setting a NOTICE MODE SET carries, absent where it carries none, where it is well formed. -/
def outfeedField : Option Nat → Option (Option Bool)
  | none => some none
  | some n => (outfeedSetting? n).map some

/-- R48, R116: NOTICE MODE SET stages a mode; the outfeed notice setting takes its value at once. A malformed setting is refused
BAD_VALUE before an undefined track is looked for, the model's choice (log 44). -/
def doNoticeModeSet (d : Nat × Nat × Option Nat) (s : State) : State × ReplyBody :=
  match NoticeMode.ofNat? d.2.1, outfeedField d.2.2 with
  | some mode, some out =>
    if ¬(1 ≤ d.1 ∧ d.1 ≤ 4) then s.refuse .badValue
    else if (s.track.tracks.get? d.1).isNone then s.refuse .notFound
    else
      let s1 := s.onTrackRec d.1 fun t => { t with staged := some mode }
      (s1.onCredit fun u => { u with outfeedNotices := out.getD u.outfeedNotices }, .status .ok)
  | _, _ => s.refuse .badValue

/-- NOTICE MODE SET (R48, R116). -/
def execNoticeModeSet (s : State) : Outcome := s.act fun s => s.handOn .noticeModeSet parseNoticeMode doNoticeModeSet

/-! ### The index: departure -/

/-- R68, R115, R116: outfeed processing of the parcel of record `k`: verdict, lane, notice, proving entry, lot, and then the
end of a drain (R5). -/
def State.outfeed (k : Nat) (p : Parcel) (stamp : Nat) (s : State) : State :=
  let v := s.verdict p stamp
  let out := s.distribute p v
  let s1 := if out.1.credit.outfeedNotices then out.1.notify (.outfeed v out.2.lane out.2.cause out.2.bag) else out.1
  ((s1.takeEntry p fun r => judgedEntry r v).retireParcel k p.slot (Lot.outcome out.2)).emptyTest

/-- R43: the parcel of record `k` joins the tail of the queue of track `n`. -/
def State.joinQueue (k n place : Nat) (s : State) : State :=
  (s.onTrackRec n fun t => { t with queue := t.queue ++ [k] }).onParcel fun u =>
    { u with parcels := u.parcels.modify k fun p => { p.leaveZone s.time.baseMs with loc := .queue n place } }

/-- R50: the parcel of record `k` finds the queue of track `n` full and is lost. -/
def State.backpressure (k n : Nat) (p : Parcel) (stamp : Nat) (s : State) : State :=
  let s1 := (s.takeEntry p fun _ => lostEntry p).retireParcel k p.slot Lot.lose
  let s2 := s1.notify (.lost p.seq p.slot n stamp)
  ((s2.onTrackRec n fun t => { t with backedUp := true }).cancel (.stall n)).emptyTest

/-- R43: the parcel at the last position of track `n` leaves it. -/
def State.depart (n : Nat) (t : Track) (stamp : Nat) (s : State) : State :=
  let cell := s.track.cellOf n t (t.segments - 1)
  match s.track.cells.get? cell with
  | none => s
  | some k =>
    let s1 := s.onTrack fun u => { u with cells := u.cells.del cell }
    match s.parcel.parcels.get? k with
    | none => s1
    | some p =>
      if n = s.track.count then s1.outfeed k p stamp
      else if t.queue.length < Config.handoverDepth then s1.joinQueue k n (t.queue.length + 1)
      else s1.backpressure k n p stamp

/-! ### The index: advance -/

/-- R38, R44: where a parcel of track `n` stands after the index. -/
def State.advanceParcel (s : State) (n stamp : Nat) (p : Parcel) : Parcel :=
  match p.loc with
  | .track m pos =>
    if m = n then
      let p' := { p with loc := .track n (pos + 1) }
      match s.track.zoneAt n (pos + 1) with
      | some z => if s.track.zoneId n pos = some z.id then p' else s.entering z stamp p'
      | none => p'
    else p
  | .queue _ _ => p

/-- R44, R47: the advance of track `n` makes at least one zone entry. -/
def State.crosses (s : State) (n : Nat) : Bool :=
  s.parcel.parcels.vals.any fun p =>
    match p.loc with
    | .track m pos => decide (m = n) && (s.track.zoneAt n (pos + 1)).isSome && !decide (s.track.zoneId n pos = s.track.zoneId n (pos + 1))
    | .queue _ _ => false

/-- R38, R44: the head pointer advances, and every parcel on the track stands one position further on. -/
def State.advance (n stamp : Nat) (s : State) : State :=
  (s.onTrackRec n fun t => { t with head := (t.head + 1) % t.segments }).onParcel fun u =>
    { u with parcels := u.parcels.mapVals fun _ p => s.advanceParcel n stamp p }

/-! ### The index: position 0 -/

/-- R45: the parcel of record `k` is placed at position 0 of track `n` and enters its zone. -/
def State.place (k n stamp : Nat) (s : State) : State :=
  match s.track.tracks.get? n with
  | none => s
  | some t =>
    let s1 := s.onTrack fun u => { u with cells := u.cells.put (s.track.cellOf n t 0) k }
    s1.onParcel fun u =>
      { u with parcels := u.parcels.modify k fun p =>
                let p' := { p with loc := .track n 0 }
                match s.track.zoneAt n 0 with
                | some z => s.entering z stamp p'
                | none => p' }

/-- R51: a BACKED_UP track regains RUN when its queue holds 4 or fewer entries in a running state. -/
def State.recover (n : Nat) (s : State) : State :=
  match s.track.tracks.get? n with
  | some t =>
    if t.backedUp = true ∧ t.queue.length ≤ Config.recoverDepth ∧ s.line.state.runs = true then
      (s.onTrackRec n fun t => { t with backedUp := false }).armFor (.stall n) t.stallLimit
    else s
  | none => s

/-- R45, R63: a parcel still in queue `n` moves up one place. -/
def Parcel.moveUp (n : Nat) (p : Parcel) : Parcel :=
  match p.loc with
  | .queue m place => if m = n then { p with loc := .queue m (place - 1) } else p
  | .track _ _ => p

/-- R45, R51: the oldest entry of the queue of track `n` is taken to position 0 of track `n` + 1. -/
def State.takeQueue (n stamp : Nat) (s : State) : State :=
  match (s.track.tracks.get? n).map fun t => t.queue with
  | some (k :: rest) =>
    let s1 := s.onTrackRec n fun t => { t with queue := rest }
    let s2 := s1.onParcel fun u => { u with parcels := u.parcels.mapVals fun _ p => p.moveUp n }
    (s2.place k (n + 1) stamp).recover n
  | _ => s

/-- R45: the index of track `n` fills position 0. -/
def State.fill (n : Nat) (presence : Bool) (stamp : Nat) (s : State) : State :=
  if n = 1 then
    match s.creation presence with
    | some (slot, l, k) => (s.createParcel slot l k stamp).place k 1 stamp
    | none => s
  else s.takeQueue (n - 1) stamp

/-! ### The index: staged edits and notice -/

/-- R46: the staged notice mode becomes live. -/
def Track.applyMode (t : Track) : Track := { t with mode := t.staged.getD t.mode, staged := none }

/-- R46: the staged edits that wait on an index of track `n`. -/
def State.applyStaged (n stamp : Nat) (s : State) : State :=
  let s1 := if n = 1 then s.applyDeclaration stamp else s
  let s2 := if n = s1.track.count then s1.applyClassMap else s1
  s2.onTrackRec n Track.applyMode

/-- R47: the index notice of track `n`. -/
def State.indexNotice (n : Nat) (moved : Bool) (stamp : Nat) (s : State) : State :=
  match s.track.tracks.get? n with
  | some t =>
    match t.mode with
    | .off => s
    | .every => s.notify (.index n t.head stamp)
    | .zone => if moved then s.notify (.index n t.head stamp) else s
  | none => s

/-- R43 to R47, R169: an index of track `n`, taken whole; at its end a proving run whose entries are all in is complete. -/
def State.index (n : Nat) (t : Track) (presence : Bool) (stamp : Nat) (s : State) : State :=
  let s1 := s.depart n t stamp
  ((((s1.advance n stamp).fill n presence stamp).applyStaged n stamp).indexNotice n (s1.crosses n) stamp).completeProving

/-! ### Pulses -/

/-- R9, R40, R15: the counter of a track is counting. -/
def State.counting (s : State) (t : Track) : Bool :=
  !s.pin && (s.line.state.runs || (decide (s.line.state = .halted) && decide (0 < t.counter)))

/-- R40, R52: a pulse on the source of track `n`: the stall timer is re-armed while RUN is asserted, and the pulse is counted;
the one that completes the segment indexes the track. Each track of a link group is judged by the line state it finds: where the
index of an earlier member has ended the drain or the proving run, a later one does not count the pulse, the model's choice
(log 38). -/
def State.pulse (presence : Bool) (n : Nat) (s : State) : State :=
  match s.track.tracks.get? n with
  | none => s
  | some t =>
    if s.counting t then
      let s1 := if s.trackRun n then s.armFor (.stall n) t.stallLimit else s
      if t.counter + 1 < t.pulses then s1.onTrackRec n fun t => { t with counter := t.counter + 1 }
      else (s1.onTrackRec n fun t => { t with counter := 0 }).index n { t with counter := 0 } presence s.time.lineTime
    else s

/-- R40: the order in which the events of one pulse are taken: a permutation chosen by a code, of which nothing is known
(log 8). `fuel` is the length of the list. -/
def permuteBy : Nat → Nat → List Nat → List Nat
  | _, _, [] => []
  | _, _, [a] => [a]
  | 0, _, l => l
  | fuel + 1, code, l =>
    let i := code % l.length
    (l.drop i).take 1 ++ permuteBy fuel (code / l.length) (l.eraseIdx i)

/-- R39: the tracks that count encoder input `input`. -/
def TrackUnit.counted (u : TrackUnit) (input : Nat) : List Nat :=
  (u.tracks.map fun e => e.1).filter fun n => decide (u.source n = some input)

/-- R40: a pulse on encoder input `input`, taken by each track that counts it. -/
def State.encoder (input : Nat) (presence : Bool) (s : State) : State :=
  let tracks := s.track.counted input
  if 2 ≤ tracks.length then
    State.each (State.pulse presence) (permuteBy tracks.length (Config.pulseOrder s.draws) tracks) { s with draws := s.draws + 1 }
  else State.each (State.pulse presence) tracks s

/-- ENCODER PULSE (R40). -/
def execEncoderPulse (input : Nat) (presence : Bool) (s : State) : Outcome :=
  if (Instr.encoderPulse input presence).wellFormed then s.act (State.encoder input presence) else .fault .noSuchLine

/-- R53: the expiry of stall timer `n`: the track is marked STALLED and a halt is raised (log 25). -/
def State.stallExpired (n : Nat) (s : State) : State :=
  (s.onTrackRec n fun t => { t with stalled := true }).raiseHalt (.stall n)

/-- STALL TIMER EXPIRY (R53). -/
def execStallTimerExpiry (n : Nat) (s : State) : Outcome :=
  if (Instr.stallTimerExpiry n).wellFormed then s.act fun s => s.expire (.stall n) (State.stallExpired n)
  else .fault .noSuchLine

end Sys2Proof.Machine
end

