-- ==== Sys2Proof/Machine/System.lean ====
section
/-! DEFINITION. What reaches every block: the line reset by request and by pin (R15 and the last rules of each chapter), power
on and power loss (R16, R174). -/

namespace Sys2Proof.Machine

/-! ### The line reset of each block -/

/-- R15: the line controller; the working drain limit keeps its value. -/
def LineUnit.reset (locked : Bool) (u : LineUnit) : LineUnit :=
  { u with state := restState locked, origin := none, cause := none }

/-- R32: every timer is IDLE and undelivered expiries are discarded; line time, trim and last-edge records are kept. Edges taken
and not yet delivered are kept too, the model's choice (log 40). -/
def TimeUnit.reset (u : TimeUnit) : TimeUnit := { u with timers := [], expired := [] }

/-- R56: a track keeps its definition, zones and live mode; a staged mode becomes live. -/
def Track.reset (t : Track) : Track :=
  { t with mode := t.staged.getD t.mode, staged := none, head := 0, counter := 0, backedUp := false, stalled := false, queue := [] }

/-- R56: every cell and every queue is emptied. -/
def TrackUnit.reset (u : TrackUnit) : TrackUnit := { tracks := u.tracks.mapVals fun _ t => t.reset, cells := [] }

/-- R77: both tables and both declarations are discarded; the last issued number is kept. -/
def ParcelUnit.reset (u : ParcelUnit) : ParcelUnit := { u with parcels := [], lots := [], current := none, staged := none }

/-- R99: a channel with its latches clear. -/
def Channel.unlatch (ch : Channel) : Channel := { ch with latches := .const false, staleLatch := false }

/-- R99: every latch is cleared; settings, states and the round go on. -/
def ProbeUnit.reset (u : ProbeUnit) : ProbeUnit :=
  { u with channels := u.channels.mapVals fun _ ch => ch.unlatch, exposure := { u.exposure with latch := false }
           shuttleFault := { u.shuttleFault with latch := false } }

/-- R118: every chain record is discarded. -/
def CreditUnit.reset (u : CreditUnit) : CreditUnit := { u with chains := u.chains.mapVals fun _ _ => Chain.empty }

/-- R142: a lane after a line reset. -/
def Lane.reset (l : Lane) : Lane := ⟨.closed, none, false, l.ready⟩

/-- R142: the staged map becomes live; lanes, gates, counts and bags as at power-on; the last issued number is kept. -/
def DistributionUnit.reset (u : DistributionUnit) : DistributionUnit :=
  { u with live := u.staged.getD u.live, staged := none, pointers := u.pointers.mapVals fun _ _ => RunPointer.empty
           lanes := u.lanes.mapVals fun _ l => l.reset, lane0 := .zero, openGate := none, pendingGate := none, bags := [] }

/-- R162: pallets and waiting list are emptied, and the shuttle is IDLE. -/
def TransferUnit.reset (u : TransferUnit) : TransferUnit :=
  { u with pallets := [], waiting := [], shuttle := u.shuttle.recover }

/-- R15: a line reset of every block but the link. -/
def State.resetUnits (s : State) : State :=
  { s with line := s.line.reset s.comm.locked, time := s.time.reset, track := s.track.reset, parcel := s.parcel.reset
           probe := s.probe.reset, credit := s.credit.reset, dist := s.dist.reset, transfer := s.transfer.reset }

/-! ### The reset's notices -/

/-- R186: lot records in parts of eight; `fuel` parts at most. -/
def chunks {α : Type} : Nat → List α → List (List α)
  | 0, _ => []
  | fuel + 1, l =>
    if l.length ≤ Config.discardPart then [l]
    else l.take Config.discardPart :: chunks fuel (l.drop Config.discardPart)

/-- R77, R186: the LINE RESET DISCARD parts, numbered from `part`. -/
def State.notifyDiscard (parcels parts : Nat) : Nat → List (List (Nat × Lot)) → State → State
  | _, [], s => s
  | part, l :: ls, s => State.notifyDiscard parcels parts (part + 1) ls (s.notify (.resetDiscard parcels part parts l))

/-- R99: an event fires for every source whose condition holds (log 10). Its cause, its pallet number 0 and its time, the present
line time where no sample caused it, are the model's (log 20). -/
def State.refire (s : State) : State :=
  State.each
    (fun x s =>
      if s.condition x then
        s.fire x (match x with
          | .stale _ => .thirdMiss
          | .exposure => .transfer
          | .shuttleFault => .transfer
          | .level c l => if s.forced c l then .external else .sample) 0 s.time.lineTime
      else s) TripSource.all s

/-- R191: a PROVING RESULT owed by the pin. -/
def State.payProving (s : State) : State :=
  if s.comm.owed then (s.notify (.provingResult s.comm.record)).onComm fun u => { u with owed := false } else s

/-- R191: a STORE RESULT owed by the pin. -/
def State.payStore (s : State) : State :=
  match s.store.owed with
  | some (k, ok, g) => (s.notify (.storeResult k ok g)).onStore fun u => { u with owed := none }
  | none => s

/-- R191: the notices of a line reset in their order, on the state the reset has left: `old` is the line state left, `parcels`
and `lots` what was discarded. -/
def State.resetNotices (old : LineState) (parcels : Nat) (lots : Table Lot) (s : State) : State :=
  let parts := chunks Config.lotCount lots
  let s1 := s.notify (.lineState s.line.state (some old) .lineReset none .absent)
  let s2 := s1.notifyDiscard parcels parts.length 1 parts
  (s2.payProving.refire).payStore

/-- R15, R191: a line reset on a link that has been emptied. -/
def State.lineReset (s : State) : State :=
  s.resetUnits.resetNotices s.line.state s.parcel.parcels.length s.parcel.lots

/-! ### RESET LINE -/

/-- R183: the places up to the first waiting frame: the replies made and not yet sent, and the request that is being taken. -/
def uptoOldest : List Place → List Place
  | [] => []
  | .answered r :: rest => .answered r :: uptoOldest rest
  | .waiting f :: _ => [.waiting f]

/-- R191: the frame in transmission goes to its end, but a notice's entry is no longer in the queue. -/
def Transmitter.unqueue : Transmitter → Transmitter
  | .notice n _ => .notice n false
  | .idle => .idle
  | .reply r => .reply r

/-- R15, R183, R191: the link at RESET LINE. -/
def LinkUnit.resetByRequest (u : LinkUnit) : LinkUnit :=
  { u with receive := uptoOldest u.receive, busy := [], notices := [], waiting := [], overrun := false
           transmitter := u.transmitter.unqueue }

/-- R15: RESET LINE. -/
def doResetLine (_ : Unit) (s : State) : State × ReplyBody := ((s.onLink LinkUnit.resetByRequest).lineReset, .status .ok)

/-- RESET LINE (R15, R183, R191). -/
def execResetLine (s : State) : Outcome := s.act fun s => s.handOn .resetLine parseNone doResetLine

/-! ### The line reset pin -/

/-- R15, R170, R184: the assertion of the pin: the frame in transmission is cut short, every counter is held at 0, and a
proving run ends ABORTED with its PROVING RESULT owed. -/
def State.assertPin (s : State) : State :=
  let running := decide (s.comm.record.result = .running)
  let s1 := { s with pin := true }
  let s2 := (s1.onLink fun u => { u with transmitter := .idle }).holdCounters.endProving
  s2.onComm fun u => { u with owed := u.owed || running }

/-- LINE RESET PIN ASSERT (R15); a pin already asserted stays so. -/
def execLineResetPinAssert (s : State) : Outcome := s.act fun s => if s.pin then s else s.assertPin

/-- R191: the link at the pin's release; its speed is kept. -/
def LinkUnit.resetByPin (u : LinkUnit) : LinkUnit :=
  { u with receiver := none, receive := [], busy := [], notices := [], waiting := [], overrun := false, transmitter := .idle }

/-- LINE RESET PIN RELEASE (R15): the reset takes effect; a pin that is not asserted stays so. -/
def execLineResetPinRelease (s : State) : Outcome :=
  s.act fun s => if s.pin then ({ s with pin := false }.onLink LinkUnit.resetByPin).lineReset else s

/-! ### Power -/

/-- R174: the image power leaves: INVALID when a save was in flight. -/
def StoreUnit.keptImage (u : StoreUnit) : Option StoredSet := if u.save.isSome then none else u.image

/-- R176: the stored set an image gives at power-on. -/
def loadedSet (image : Option StoredSet) : StoredSet := image.getD StoredSet.factory

/-- R16, R98, R176, R191: power-on: every block from the image, LINE STATE with cause POWER_ON, and the events of external trip
inputs found asserted. -/
def State.powerUp (seen : List FieldInput) (baud : Nat) (s : State) : State :=
  let image := s.store.keptImage
  let s1 := State.fresh image (loadedSet image) seen baud s.draws s.pending
  let s2 := s1.notify (.lineState s1.line.state none .powerOn none .absent)
  State.each (fun c s => s.reform c .external s.time.lineTime) channelNumbers s2

/-- POWER ON (R16, R31, R98, R176, R179); of a powered part it is a loss of power and a power-on (log 14). -/
def execPowerOn (seen : List FieldInput) (strap1 strap2 : Bool) (s : State) : Outcome :=
  if (Instr.powerOn seen strap1 strap2).wellFormed then .next (s.powerUp seen (baudOf strap1 strap2)).finish
  else .fault .noSuchLine

/-- R174: power is lost: the image is INVALID if a save was in flight, and nothing but the image is kept (log 14). -/
def State.powerDown (s : State) : State :=
  { State.fresh s.store.keptImage StoredSet.factory [] s.link.baud s.draws s.pending with powered := false }

/-- POWER LOSS (R174). -/
def execPowerLoss (s : State) : Outcome := s.act State.powerDown

end Sys2Proof.Machine
end

