-- ==== Sys2Proof/Machine/Dispatch.lean ====
section
/-! DEFINITION. One arm per command: the meaning each row of spec/opcode_table.json is given. -/

namespace Sys2Proof.Machine

/-- The effect of a command on everything but the queue. -/
def exec (i : Instr) (s : State) : Host.Outcome State Fault Refusal :=
  match i with
  | .start => Sys2Proof.Machine.execStart s
  | .stop => Sys2Proof.Machine.execStop s
  | .halt => Sys2Proof.Machine.execHalt s
  | .resume => Sys2Proof.Machine.execResume s
  | .clear => Sys2Proof.Machine.execClear s
  | .resetLine => Sys2Proof.Machine.execResetLine s
  | .statusRead => Sys2Proof.Machine.execStatusRead s
  | .timeRead => Sys2Proof.Machine.execTimeRead s
  | .timeSet => Sys2Proof.Machine.execTimeSet s
  | .timeTrim => Sys2Proof.Machine.execTimeTrim s
  | .trackDefine => Sys2Proof.Machine.execTrackDefine s
  | .zoneDefine => Sys2Proof.Machine.execZoneDefine s
  | .trackRead => Sys2Proof.Machine.execTrackRead s
  | .dividerReset => Sys2Proof.Machine.execDividerReset s
  | .noticeModeSet => Sys2Proof.Machine.execNoticeModeSet s
  | .infeedDeclare => Sys2Proof.Machine.execInfeedDeclare s
  | .parcelRead => Sys2Proof.Machine.execParcelRead s
  | .lotRead => Sys2Proof.Machine.execLotRead s
  | .holdRange => Sys2Proof.Machine.execHoldRange s
  | .clearHoldRange => Sys2Proof.Machine.execClearHoldRange s
  | .channelSet => Sys2Proof.Machine.execChannelSet s
  | .offsetStep => Sys2Proof.Machine.execOffsetStep s
  | .levelsSet => Sys2Proof.Machine.execLevelsSet s
  | .routeSet => Sys2Proof.Machine.execRouteSet s
  | .externalTripSet => Sys2Proof.Machine.execExternalTripSet s
  | .samplingSet => Sys2Proof.Machine.execSamplingSet s
  | .tripAck => Sys2Proof.Machine.execTripAck s
  | .channelRead => Sys2Proof.Machine.execChannelRead s
  | .rateTableSet => Sys2Proof.Machine.execRateTableSet s
  | .recipeThermalSet => Sys2Proof.Machine.execRecipeThermalSet s
  | .recipePackingSet => Sys2Proof.Machine.execRecipePackingSet s
  | .classMapSet => Sys2Proof.Machine.execClassMapSet s
  | .deadTimeSet => Sys2Proof.Machine.execDeadTimeSet s
  | .laneOpen => Sys2Proof.Machine.execLaneOpen s
  | .laneClose => Sys2Proof.Machine.execLaneClose s
  | .bagRead => Sys2Proof.Machine.execBagRead s
  | .bagWeight => Sys2Proof.Machine.execBagWeight s
  | .palletClose => Sys2Proof.Machine.execPalletClose s
  | .palletRead => Sys2Proof.Machine.execPalletRead s
  | .shuttleReset => Sys2Proof.Machine.execShuttleReset s
  | .jobLimitSet => Sys2Proof.Machine.execJobLimitSet s
  | .proveStart => Sys2Proof.Machine.execProveStart s
  | .proveAbort => Sys2Proof.Machine.execProveAbort s
  | .provingRead => Sys2Proof.Machine.execProvingRead s
  | .commission => Sys2Proof.Machine.execCommission s
  | .unlock => Sys2Proof.Machine.execUnlock s
  | .storeSave => Sys2Proof.Machine.execStoreSave s
  | .unknownKind => Sys2Proof.Machine.execUnknownKind s
  | .frameReceived bytes => Sys2Proof.Machine.execFrameReceived bytes s
  | .interByteGapTimeout => Sys2Proof.Machine.execInterByteGapTimeout s
  | .frameSent => Sys2Proof.Machine.execFrameSent s
  | .baseMillisecond seen => Sys2Proof.Machine.execBaseMillisecond seen s
  | .encoderPulse input presence => Sys2Proof.Machine.execEncoderPulse input presence s
  | .pollRoundStart => Sys2Proof.Machine.execPollRoundStart s
  | .sampleFrame bytes => Sys2Proof.Machine.execSampleFrame bytes s
  | .answerWindowClose => Sys2Proof.Machine.execAnswerWindowClose s
  | .externalTripEdge input => Sys2Proof.Machine.execExternalTripEdge input s
  | .stallTimerExpiry track => Sys2Proof.Machine.execStallTimerExpiry track s
  | .drainTimerExpiry => Sys2Proof.Machine.execDrainTimerExpiry s
  | .gateTimerExpiry => Sys2Proof.Machine.execGateTimerExpiry s
  | .exposureTimerExpiry record => Sys2Proof.Machine.execExposureTimerExpiry record s
  | .shuttleJobTimerExpiry => Sys2Proof.Machine.execShuttleJobTimerExpiry s
  | .acceptEdge => Sys2Proof.Machine.execAcceptEdge s
  | .loadedEdge => Sys2Proof.Machine.execLoadedEdge s
  | .doneEdge => Sys2Proof.Machine.execDoneEdge s
  | .faultEdge => Sys2Proof.Machine.execFaultEdge s
  | .doorEyeEdge => Sys2Proof.Machine.execDoorEyeEdge s
  | .sealEdge lane => Sys2Proof.Machine.execSealEdge lane s
  | .readyEdge lane => Sys2Proof.Machine.execReadyEdge lane s
  | .commissionKeyEdge => Sys2Proof.Machine.execCommissionKeyEdge s
  | .saveEnd ok => Sys2Proof.Machine.execSaveEnd ok s
  | .lineResetPinAssert => Sys2Proof.Machine.execLineResetPinAssert s
  | .lineResetPinRelease => Sys2Proof.Machine.execLineResetPinRelease s
  | .powerOn seen strap1 strap2 => Sys2Proof.Machine.execPowerOn seen strap1 strap2 s
  | .powerLoss => Sys2Proof.Machine.execPowerLoss s
  | .brokenCharacter => Sys2Proof.Machine.execBrokenCharacter s

end Sys2Proof.Machine
end

