-- ==== Sys2Proof/Machine/Layout.lean ====
section
/-! DEFINITION. The bytes of every frame the part sends (R180, R186, R189): what the transmitter puts on the line. Where R189
leaves a point to inference, log 18 says how it is read. -/

namespace Sys2Proof.Machine

/-! ### Fields -/

/-- R180: the lowest `k` bytes of a number, low byte first. -/
def leBytes : Nat → Nat → List Byte
  | 0, _ => []
  | k + 1, n => BitVec.ofNat 8 n :: leBytes k (n / 256)

/-- R180: a signed number of `k` bytes in two's complement. -/
def leSigned (k : Nat) (v : Int) : List Byte := leBytes k (v % ((256 ^ k : Nat) : Int)).toNat

/-- R189: a yes or no. -/
def bit (b : Bool) : List Byte := [if b then 1 else 0]

/-- R189: a field of `k` bytes that may be absent, with its flag byte before it. -/
def opt {α : Type} (k : Nat) (f : α → List Byte) : Option α → List Byte
  | some a => 1 :: f a
  | none => 0 :: leBytes k 0

/-- R189: a list, with its count before it. -/
def counted {α : Type} (f : α → List Byte) (l : List α) : List Byte := BitVec.ofNat 8 l.length :: l.flatMap f

/-- A number of one byte. -/
def n1 (n : Nat) : List Byte := leBytes 1 n
/-- A number of two bytes. -/
def n2 (n : Nat) : List Byte := leBytes 2 n
/-- A number of three bytes. -/
def n3 (n : Nat) : List Byte := leBytes 3 n
/-- A count kept modulo 4,294,967,296. -/
def n4 (n : Count) : List Byte := leBytes 4 n.toNat
/-- A line time or a stamp. -/
def n6 (n : Nat) : List Byte := leBytes 6 n
/-- A sequence number. -/
def nSeq (q : Seq) : List Byte := leBytes 2 q.toNat

/-! ### Choices -/

/-- R1: line states. -/
def LineState.number : LineState → Nat
  | .setup => 0
  | .proving => 1
  | .ready => 2
  | .running => 3
  | .draining => 4
  | .halted => 5

/-- R1: halt causes. -/
def HaltCause.number : HaltCause → Nat
  | .request => 0
  | .trip _ => 1
  | .stall _ => 2
  | .drainTimeout => 3

/-- R14: causes of a LINE STATE notice. -/
def LineCause.number : LineCause → Nat
  | .start => 0
  | .stop => 1
  | .drained => 2
  | .drainTimeout => 3
  | .request => 4
  | .trip => 5
  | .stall => 6
  | .resume => 7
  | .clear => 8
  | .prove => 9
  | .provingDone => 10
  | .commissioned => 11
  | .unlocked => 12
  | .lineReset => 13
  | .powerOn => 14

/-- R80: levels. -/
def LevelName.number : LevelName → Nat
  | .lowCrit => 0
  | .low => 1
  | .high => 2
  | .highCrit => 3

/-- R88: the levels of a binding. -/
def bindingNumber : LevelName → Nat
  | .highCrit => 1
  | _ => 0

/-- R189: a trip source. -/
def TripSource.bytes : TripSource → List Byte
  | .level c l => n1 c ++ n1 l.number
  | .stale c => n1 c ++ [4]
  | .exposure => [0, 0]
  | .shuttleFault => [0, 1]

/-- R33: notice modes. -/
def NoticeMode.number : NoticeMode → Nat
  | .off => 0
  | .every => 1
  | .zone => 2

/-- R36: zone kinds. -/
def ZoneKind.number : ZoneKind → Nat
  | .blanch => 0
  | .cool => 1
  | .freeze => 2
  | .plain => 3

/-- R71: lot states. -/
def LotState.number : LotState → Nat
  | .free => 0
  | .active => 1
  | .retiring => 2

/-- R80: roles. -/
def Role.number : Role → Nat
  | .zone => 0
  | .exit => 1

/-- R80: channel states. -/
def ChannelState.number : ChannelState → Nat
  | .off => 0
  | .waiting => 1
  | .live => 2
  | .stale => 3

/-- R80: miss causes. -/
def MissCause.number : MissCause → Nat
  | .noAnswer => 0
  | .badFrame => 1
  | .sensorFault => 2

/-- R90: an action set. -/
def Route.byte (r : Route) : List Byte :=
  n1 ((if r.notify then 1 else 0) + (if r.markZone then 2 else 0) + (if r.holdInfeed then 4 else 0) + (if r.stopLine then 8 else 0))

/-- R91: causes of a trip event. -/
def TripCause.number : TripCause → Nat
  | .sample => 0
  | .external => 1
  | .thirdMiss => 2
  | .transfer => 3

/-- R113: a reason set. -/
def Reasons.byte (r : Reasons) : List Byte :=
  n1 ((if r.trip then 1 else 0) + (if r.gap then 2 else 0) + (if r.manual then 4 else 0) + (if r.creditShort then 8 else 0) +
    (if r.dwellShort then 16 else 0) + (if r.exitUnknown then 32 else 0) + (if r.exitWarm then 64 else 0))

/-- R116: causes of lane 0. -/
def LaneZeroCause.number : LaneZeroCause → Nat
  | .held => 0
  | .proving => 1
  | .class0 => 2
  | .noLane => 3
  | .gateBusy => 4
  | .noBag => 5

/-- R122: lane states. -/
def LaneState.number : LaneState → Nat
  | .closed => 0
  | .pending => 1
  | .accepting => 2
  | .sealing => 3
  | .blocked => 4

/-- R133: bag states. -/
def BagState.number : BagState → Nat
  | .opened => 0
  | .sealed => 1
  | .accepted => 2
  | .rejected => 3

/-- R143: pallet states. -/
def PalletState.number : PalletState → Nat
  | .building => 0
  | .ready => 1
  | .granted => 2
  | .loaded => 3
  | .stored => 4

/-- R150: shuttle states. -/
def ShuttleState.number : ShuttleState → Nat
  | .idle => 0
  | .assigned => 1
  | .carrying => 2
  | .faulted => 3

/-- R150: fault causes. -/
def ShuttleCause.number : ShuttleCause → Nat
  | .input => 0
  | .timeout => 1

/-- R150: shuttle inputs, in the order in which R150 lists them, the model's choice (log 41). -/
def ShuttleInput.number : ShuttleInput → Nat
  | .accept => 0
  | .loaded => 1
  | .finished => 2
  | .fault => 3

/-- R167: results of a proving run. -/
def ProvingResult.number : ProvingResult → Nat
  | .none => 0
  | .running => 1
  | .pass => 2
  | .fail => 3
  | .aborted => 4

/-- R167: outcomes of an entry. -/
def EntryOutcome.number : EntryOutcome → Nat
  | .judged => 0
  | .lost => 1

/-- R174: store states. -/
def StoreState.number : StoreState → Nat
  | .valid => 0
  | .busy => 1
  | .invalid => 2

/-- R174: kinds of save. -/
def SaveKind.number : SaveKind → Nat
  | .commission => 0
  | .unlock => 1
  | .store => 2

/-- R171: LOCKED is 0 and UNLOCKED is 1. -/
def lockByte (locked : Bool) : List Byte := [if locked then 0 else 1]

/-- R188: the status byte. -/
def Status.byte : Status → Byte
  | .ok => 0x00
  | .accepted => 0x01
  | .unknownKind => 0x02
  | .badLength => 0x03
  | .badValue => 0x04
  | .wrongState => 0x05
  | .locked => 0x06
  | .busy => 0x07
  | .full => 0x08
  | .notFound => 0x09
  | .stillActive => 0x0A
  | .keyAbsent => 0x0B
  | .notProven => 0x0C
  | .incomplete => 0x0D
  | .tripLatched => 0x0E
  | .probeNotLive => 0x0F
  | .noLot => 0x10

/-! ### Records -/

/-- R1: the detail of a halt cause, in two bytes. -/
def HaltCause.detailBytes : HaltCause → Option (List Byte)
  | .request => none
  | .trip x => some x.bytes
  | .stall n => some (n2 n)
  | .drainTimeout => none

/-- R14: the cause detail of a LINE STATE notice, in two bytes. -/
def CauseDetail.bytes : CauseDetail → Option (List Byte)
  | .absent => none
  | .source x => some x.bytes
  | .track n => some (n2 n)
  | .lost n => some (n2 n)

/-- R23: a timer's state and due. -/
def timerBytes (due : Option Nat) : List Byte := bit due.isSome ++ opt 6 n6 due

/-- R71: a lot record. -/
def Lot.bytes (l : Lot) : List Byte :=
  l.code ++ n1 l.recipe ++ n1 l.cls ++ bit l.proving ++ n4 l.created ++ n4 l.released ++ n4 l.held ++ n4 l.redirected ++
    n4 l.lost ++ n4 l.bagsAccepted ++ n4 l.bagsRejected ++ n4 l.palletsStored ++ n4 l.palletsQuarantined ++
    opt 2 nSeq l.firstSeq ++ opt 2 nSeq l.lastSeq ++ n4 l.live ++ n4 l.bagRefs ++ n4 l.palletRefs ++ opt 6 n6 l.retired

/-- R57: a staged declaration. -/
def Staged.bytes (d : Staged) : List Byte := d.code ++ n1 d.recipe ++ n1 d.cls ++ bit d.tableFull

/-- One value for each level, without a count (log 41). -/
def LevelMap.bytes {α : Type} (f : α → List Byte) (m : LevelMap α) : List Byte := f m.lowCrit ++ f m.low ++ f m.high ++ f m.highCrit

/-- R80, R97: a channel record, and the latch and route of its five sources; results, conditions and latches take a byte for each
level, and nothing here a count (the model's choice, log 41). -/
def Channel.bytes (c : Channel) : List Byte :=
  n1 c.address ++ bit c.enabled ++ n1 c.role.number ++ leSigned 1 c.offset ++ c.levels.bytes (leSigned 2) ++ n1 c.hysteresis ++
    n1 c.state.number ++ opt 2 (leSigned 2) c.lastValue ++ opt 6 n6 c.lastSample ++ bit c.overRange ++ n1 c.misses ++
    opt 1 (fun m : MissCause => n1 m.number) c.lastMiss ++ opt 6 n6 c.lastFault ++ c.results.bytes bit ++
    c.conditions.bytes bit ++ c.latches.bytes bit ++ bit c.staleLatch ++
    (bit c.latches.lowCrit ++ c.routes.lowCrit.byte ++ bit c.latches.low ++ c.routes.low.byte ++ bit c.latches.high ++
      c.routes.high.byte ++ bit c.latches.highCrit ++ c.routes.highCrit.byte ++ bit c.staleLatch ++ c.staleRoute.byte)

/-- R102: a recipe record. -/
def Recipe.bytes (r : Recipe) : List Byte :=
  n3 r.requiredCredit ++ n2 r.minDwell ++ leSigned 2 r.maxExit ++ n2 r.exposureLimit ++ n2 r.bagMin ++ n2 r.bagMax ++
    n1 r.bagsPerPallet

/-- R119, R189: a set of lanes. -/
def laneSetByte (lanes : List Nat) : List Byte := n1 ((lanes.map fun l => 2 ^ (l - 1)).sum)

/-- R119: a class map. -/
def classMapBytes (m : Table ClassEntry) : List Byte := counted (fun e : ClassEntry => laneSetByte e.lanes ++ n1 e.run) m.vals

/-- R133: a bag record, as BAG REJECTED carries it. -/
def Bag.bytes (b : Bag) : List Byte :=
  n3 b.number ++ n1 b.lane ++ n1 b.slot ++ n1 b.recipe ++ n1 b.state.number ++ n1 b.parcels ++ nSeq b.firstSeq ++
    nSeq b.lastSeq ++ n3 b.minCredit ++ n6 b.openTime ++ opt 6 n6 b.sealTime ++ opt 2 n2 b.grams

/-- R189: a pallet bag entry, 10 bytes. -/
def BagEntry.bytes (e : BagEntry) : List Byte := n3 e.number ++ n2 e.grams ++ n1 e.parcels ++ leBytes 4 e.minCredit

/-- R143, R189: a verdict and its reason set. -/
def verdictBytes (exposed stranded : Bool) : List Byte :=
  bit (exposed || stranded) ++ n1 ((if exposed then 1 else 0) + (if stranded then 2 else 0))

/-- R189: the summary of a part, 44 bytes. -/
def PalletSummary.bytes (p : PalletSummary) (part parts : Nat) : List Byte :=
  n2 p.number ++ n1 p.lane ++ n1 p.slot ++ p.code ++ verdictBytes p.exposed p.stranded ++ n1 p.target ++ n1 p.bagCount ++
    leBytes 4 p.total ++ n6 p.exposureStart ++ n6 p.exposureDue ++ n6 (p.doorTime.getD 0) ++ n1 part ++ n1 parts

/-- R167: a proving entry. -/
def ProvingEntry.bytes (e : ProvingEntry) : List Byte :=
  nSeq e.seq ++ n1 e.outcome.number ++ n3 e.credit ++ opt 6 n6 e.dwell ++ opt 2 (leSigned 2) e.exitValue ++ e.reasons.byte ++
    bit e.passed

/-- R167: a proving record; every field but the result and the entries is absent with NONE, the start time too (log 41). -/
def ProvingRecord.bytes (p : ProvingRecord) : List Byte :=
  n1 p.result.number ++ opt 1 n1 (p.run.map fun r => r.recipe) ++ opt 1 n1 (p.run.map fun r => r.count) ++
    opt 1 n1 (p.run.map fun r => r.margin) ++ opt 3 n3 (p.run.map fun r => r.required) ++
    opt 4 n4 (p.run.map fun r => r.noted) ++ opt 6 n6 (p.run.map fun r => r.started) ++
    opt 6 n6 (p.run.bind fun r => r.ended) ++
    counted ProvingEntry.bytes (match p.run with
      | some r => r.entries
      | none => [])

/-- R115: a verdict record. -/
def VerdictRecord.bytes (v : VerdictRecord) : List Byte :=
  nSeq v.seq ++ n1 v.slot ++ bit v.reasons.isHeld ++ v.reasons.byte ++ n3 v.credit ++ opt 6 n6 v.dwell ++
    opt 2 (leSigned 2) v.exitValue ++ n6 v.time

/-! ### Replies -/

/-- R187: the STATUS READ reply; the four tracks stand without a count (the model's choice, log 41). -/
def StatusReply.bytes (r : StatusReply) : List Byte :=
  n1 r.state.number ++ opt 1 (fun o : LineState => n1 o.number) r.origin ++ opt 1 (fun c : HaltCause => n1 c.number) r.cause ++
    opt 2 id (r.cause.bind HaltCause.detailBytes) ++ lockByte r.locked ++ bit r.key ++ n1 r.store.number ++ n4 r.generation ++
    n6 r.time ++ n2 r.live ++ bit r.current ++ bit r.staged ++ n1 r.bagsInUse ++ n1 r.lanesWithBag ++ n1 r.palletsInUse ++
    n1 r.shuttle.number ++ (r.tracks.flatMap fun t => bit t.defined ++ bit t.run ++ bit t.backedUp ++ bit t.stalled) ++
    bit r.infeedRun ++ bit r.infeedHold ++ n1 r.latches ++ bit r.overrun

/-- R20, R29: the TIME READ reply. The fifteen timers and the five last-edge records stand without R189's count byte (the model's
choice, log 41); direction and stamp each have their flag (log 18). -/
def TimeReply.bytes (r : TimeReply) : List Byte :=
  n6 r.time ++ leSigned 2 r.trim ++ n3 r.accumulator ++ r.timers.flatMap timerBytes ++
    r.edges.flatMap fun e =>
      bit e.level ++ opt 1 (fun x : Bool × Nat => bit (!x.1)) e.last ++ opt 6 (fun x : Bool × Nat => n6 x.2) e.last

/-- R186: one byte of the occupancy map, the first position in bit 0. -/
def occupancyByte (ps : List (Option Seq)) : Byte :=
  BitVec.ofNat 8 (ps.foldr (fun p n => (if p.isSome then 1 else 0) + 2 * n) 0)

/-- R186: the occupancy map; `fuel` bytes at most. -/
def occupancy : Nat → List (Option Seq) → List Byte
  | 0, _ => []
  | _, [] => []
  | fuel + 1, p :: ps => occupancyByte ((p :: ps).take 8) :: occupancy fuel ((p :: ps).drop 8)

/-- R54, R186: the TRACK READ reply; the queue's length is the count of its list, behind a flag (the model's choice, log 41). -/
def TrackReply.bytes (r : TrackReply) : List Byte :=
  n2 r.segments ++ n2 r.pulses ++ n1 r.group ++ n2 r.stallLimit ++ n1 r.mode.number ++
    opt 1 (fun m : NoticeMode => n1 m.number) r.staged ++
    counted (fun z : ZoneInfo => n1 z.id ++ n2 z.start ++ n2 z.length ++ n1 z.kind.number ++ opt 1 n1 z.channel) r.zones ++
    n2 r.head ++ n2 r.counter ++ bit r.run ++ bit r.backedUp ++ bit r.stalled ++ opt 1 (counted nSeq) r.queue ++
    occupancy r.positions.length r.positions ++ r.positions.flatMap fun p => nSeq (p.getD 0)

/-- R189: the PARCEL READ reply after its status byte, 41 bytes. -/
def ParcelReply.bytes (r : ParcelReply) : List Byte :=
  let p := r.parcel
  n2 r.index ++ nSeq p.seq ++ n1 p.slot ++ n1 p.recipe ++ n1 p.cls ++
    (match p.loc with
      | .track n pos => [1] ++ n1 n ++ n2 pos
      | .queue n place => [2] ++ n1 n ++ n2 place) ++
    n6 p.created ++ n6 (p.freezerEntry.getD 0) ++ leBytes 4 p.credit ++
    (match p.zone with
      | some z => n1 z
      | none => [0xFF]) ++
    n1 ((if p.armed then 1 else 0) + (if p.deviation.trip then 2 else 0) + (if p.deviation.gap then 4 else 0) +
      (if p.deviation.manual then 8 else 0) + (if p.proving then 16 else 0) + (if p.freezerEntry.isSome then 32 else 0)) ++
    r.code

/-- R75: the LOT READ reply; a FREE slot carries no record. -/
def LotReply.bytes (r : LotReply) : List Byte :=
  n1 r.state.number ++
    (match r.lot with
      | some (l, current, named) => l.bytes ++ bit current ++ bit named
      | none => []) ++
    opt 15 Staged.bytes r.staged

/-- R97: the CHANNEL READ reply for a channel. -/
def ChannelReply.bytes (r : ChannelReply) : List Byte :=
  r.channel.bytes ++ counted n1 r.zones ++ counted (fun e : Nat × Bool => n1 e.1 ++ bit e.2) r.inputs

/-- R97: the CHANNEL READ reply for channel 0; the start of the last round is always present (log 39), and
the two inputs stand without a count (the model's choice, log 41). -/
def ProbeSummary.bytes (r : ProbeSummary) : List Byte :=
  n2 r.period ++ n6 r.lastRound ++
    (r.inputs.flatMap fun x => opt 2 (fun b : Nat × LevelName => n1 b.1 ++ n1 (bindingNumber b.2)) x.binding ++ bit x.level) ++
    (bit false ++ bit r.exposure.latch ++ r.exposure.route.byte) ++
    (bit r.shuttleCondition ++ bit r.shuttleFault.latch ++ r.shuttleFault.route.byte) ++ bit r.infeedHold ++ n1 r.latches

/-- R189: the BAG READ reply for a bag after its status byte, 32 bytes; its states are numbered from 1. -/
def bagReplyBytes (record : Nat) (b : Bag) : List Byte :=
  n3 b.number ++ n1 record ++ n1 b.lane ++ n1 b.slot ++ n1 b.recipe ++ n1 (b.state.number + 1) ++ n1 b.parcels ++
    nSeq b.firstSeq ++ nSeq b.lastSeq ++ leBytes 4 b.minCredit ++ n6 b.openTime ++ n6 (b.sealTime.getD 0) ++
    n2 (b.grams.getD 0) ++ n1 ((if b.sealTime.isSome then 1 else 0) + (if b.grams.isSome then 2 else 0))

/-- R140: the distribution summary; the seven run pointers, the four lane records and the six lane 0 counts stand without a
count (log 41). -/
def DistributionSummary.bytes (r : DistributionSummary) : List Byte :=
  classMapBytes r.live ++ opt 1 classMapBytes r.staged ++
    (r.pointers.vals.flatMap fun x => opt 1 n1 x.last ++ n1 x.counter) ++
    (r.lanes.vals.flatMap fun l => n1 l.state.number ++ opt 3 n3 l.bag ++ bit l.closeAfter ++ bit l.ready) ++
    (n4 r.lane0.held ++ n4 r.lane0.proving ++ n4 r.lane0.class0 ++ n4 r.lane0.noLane ++ n4 r.lane0.gateBusy ++
      n4 r.lane0.noBag) ++
    opt 1 n1 r.openGate ++ opt 1 n1 r.pendingGate ++ timerBytes r.gateDue ++ n2 r.deadTime ++ n3 r.lastBag ++
    counted (fun e : Nat × BagState => n3 e.1 ++ n1 e.2.number) r.bags

/-- R160, R186: the PALLET READ reply for a pallet: the whole bag count, and then the part's entries as a list with its count,
after record number and timer (log 41). -/
def PalletReply.bytes (r : PalletReply) : List Byte :=
  let p := r.pallet
  n2 p.number ++ n1 p.lane ++ n1 p.slot ++ n1 p.state.number ++ verdictBytes p.exposed p.stranded ++ n1 p.target ++
    n3 p.total ++ n6 p.exposureStart ++ n6 p.exposureDue ++ n6 p.readyOrder ++ opt 6 n6 p.doorTime ++ n1 r.record ++
    timerBytes r.due ++ n1 r.bagCount ++ counted BagEntry.bytes r.entries

/-- R160: the transfer summary. The levels of the three station code lines are one byte, the code 0..4 they show, and each
record's verdict carries its reason set (the model's choice, log 41). -/
def TransferSummary.bytes (r : TransferSummary) : List Byte :=
  let sh := r.shuttle
  n1 sh.state.number ++
    opt 10 (fun j : Job => n2 j.pallet ++ n1 j.station ++ n6 j.granted ++ bit j.doorMade) sh.job ++
    opt 1 (fun c : ShuttleCause => n1 c.number) sh.cause ++ opt 2 n2 sh.stranded ++ bit sh.acceptLevel ++
    bit sh.loadedLevel ++ bit sh.doneLevel ++ bit sh.faultLevel ++ n1 r.station ++ bit sh.jobValid ++ timerBytes r.jobDue ++
    n2 r.jobLimit ++ n2 r.lastPallet ++ n6 r.lastReady ++ counted n3 r.waiting ++
    counted (fun p : PalletLine => n1 p.record ++ n2 p.number ++ n1 p.lane ++ n1 p.state.number ++
      verdictBytes p.exposed p.stranded) r.pallets

/-- R177, R189: the PROVING READ reply; the created and the live count each have their flag (log 18). -/
def ProvingReply.bytes (r : ProvingReply) : List Byte :=
  r.record.bytes ++ n4 r.generation ++ bit r.matched ++ lockByte r.locked ++ bit r.key ++ n1 r.store.number ++
    opt 1 (fun k : SaveKind => n1 k.number) r.save ++ opt 4 n4 (r.lot.map fun x => x.1) ++
    opt 4 n4 (r.lot.map fun x => x.2)

/-- R180, R183: the payload of a reply, its status byte first. -/
def ReplyBody.payload : ReplyBody → List Byte
  | .status st => [st.byte]
  | .statusRead r => Status.ok.byte :: r.bytes
  | .timeRead r => Status.ok.byte :: r.bytes
  | .timeSet t => Status.ok.byte :: n6 t
  | .trackRead r => Status.ok.byte :: r.bytes
  | .parcelRead r => Status.ok.byte :: r.bytes
  | .lotRead r => Status.ok.byte :: r.bytes
  | .rangeCounts a b => Status.ok.byte :: (n2 a ++ n2 b)
  | .offset v => Status.ok.byte :: leSigned 1 v
  | .tripAck cleared => Status.ok.byte :: bit cleared
  | .channelRead r => Status.ok.byte :: r.bytes
  | .probeSummary r => Status.ok.byte :: r.bytes
  | .rateTable bs => Status.ok.byte :: counted (fun b : Band => leSigned 2 b.floor ++ n2 b.weight) bs
  | .recipe r => Status.ok.byte :: r.bytes
  | .bagVerdict accepted low high => Status.ok.byte :: (bit (!accepted) ++ n2 low ++ n2 high)
  | .bagRead k b => Status.ok.byte :: bagReplyBytes k b
  | .distribution r => Status.ok.byte :: r.bytes
  | .palletClose bags total => Status.ok.byte :: (n1 bags ++ n3 total)
  | .palletRead r => Status.ok.byte :: r.bytes
  | .transfer r => Status.ok.byte :: r.bytes
  | .shuttleReset n => Status.ok.byte :: n2 n
  | .provingRead r => Status.ok.byte :: r.bytes

/-! ### Notices -/

/-- R188: the kind byte of a notice. -/
def NoticeBody.kind : NoticeBody → Byte
  | .lineState .. => 0x60
  | .resetDiscard .. => 0x61
  | .index .. => 0x62
  | .lost .. => 0x63
  | .lotTableFull .. => 0x64
  | .lotSummary .. => 0x65
  | .trip .. => 0x66
  | .staleCleared .. => 0x67
  | .outfeed .. => 0x68
  | .sealUntracked .. => 0x69
  | .bagRejected .. => 0x6A
  | .palletExposed .. => 0x6B
  | .palletTransfer .. => 0x6C
  | .doorUnexpected .. => 0x6D
  | .shuttleUnexpected .. => 0x6E
  | .provingResult .. => 0x6F
  | .storeResult .. => 0x70

/-- R189: the fields of a notice after its line time. The fields R91 gives a TRIP notice for other sources alone are absent, each
behind its flag; so is, of the cause and the bag number R116 gives an OUTFEED notice, the one the parcel's lane does not call
for (the model's choice, log 18). -/
def NoticeBody.fields : NoticeBody → List Byte
  | .lineState state previous cause origin detail =>
    n1 state.number ++ opt 1 (fun o : LineState => n1 o.number) previous ++ n1 cause.number ++
      opt 1 (fun o : LineState => n1 o.number) origin ++ opt 2 id detail.bytes
  | .resetDiscard parcels part parts lots =>
    n2 parcels ++ n1 part ++ n1 parts ++ counted (fun e : Nat × Lot => n1 e.1 ++ e.2.bytes) lots
  | .index track head stamp => n1 track ++ n2 head ++ n6 stamp
  | .lost seq slot track stamp => nSeq seq ++ n1 slot ++ n1 track ++ n6 stamp
  | .lotTableFull code stamp => code ++ n6 stamp
  | .lotSummary slot lot => n1 slot ++ lot.bytes
  | .trip source cause channel pallet route time =>
    source.bytes ++ n1 cause.number ++ opt 2 (leSigned 2) (channel.bind fun c => c.value) ++
      opt 1 bit (channel.map fun c => c.overRange) ++ opt 1 (fun st : ChannelState => n1 st.number) (channel.map fun c => c.state) ++
      opt 1 (fun m : MissCause => n1 m.number) (channel.bind fun c => c.miss) ++
      opt 2 n2 (if channel.isNone then some pallet else none) ++ route.byte ++ n6 time
  | .staleCleared channel value stamp => n1 channel ++ leSigned 2 value ++ n6 stamp
  | .outfeed verdict lane cause bag =>
    verdict.bytes ++ n1 lane ++ opt 1 (fun c : LaneZeroCause => n1 c.number) cause ++ opt 3 n3 bag
  | .sealUntracked lane stamp => n1 lane ++ n6 stamp
  | .bagRejected _ bag => bag.bytes
  | .palletExposed number lane slot state exposureStart exposureDue =>
    n2 number ++ n1 lane ++ n1 slot ++ n1 state.number ++ n6 exposureStart ++ n6 exposureDue
  | .palletTransfer summary part parts entries => summary.bytes part parts ++ entries.flatMap BagEntry.bytes
  | .doorUnexpected stamp state pallet =>
    n6 stamp ++ opt 1 (fun st : ShuttleState => n1 st.number) state ++ opt 2 n2 pallet
  | .shuttleUnexpected input state => n1 input.number ++ n1 state.number
  | .provingResult record => record.bytes
  | .storeResult kind ok generation => n1 kind.number ++ bit (!ok) ++ n4 generation

/-! ### Frames -/

/-- R180: a frame: sync byte, length, kind, tag, payload, CRC. -/
def frameBytes (kind tag : Byte) (payload : List Byte) : List Byte :=
  let body := n2 payload.length ++ [kind, tag] ++ payload
  let k := crc body
  0xA5 :: (body ++ [k.setWidth 8, (k >>> 8).setWidth 8])

/-- R180: the frame of a reply. -/
def Reply.frame (r : Reply) : List Byte := frameBytes r.kind r.tag r.body.payload

/-- R180: the frame of a notice; its tag is 0. -/
def Notice.frame (n : Notice) : List Byte := frameBytes n.body.kind 0 (n6 n.time ++ n.body.fields)

/-- R184: the frame in transmission. -/
def Transmitter.frame : Transmitter → List Byte
  | .idle => []
  | .reply r => r.frame
  | .notice n _ => n.frame

end Sys2Proof.Machine
end

