-- ==== Sys2Proof/Safety.lean ====
section
/-! DEFINITION. What the statements speak of: when a request is taken, what its payload may be, and the invariants. -/

namespace Sys2Proof.Machine

/-! ### Requests -/

/-- The request a command hands on, for the commands that are requests. -/
def requestOf : Instr → Option Request
  | .start => some .start
  | .stop => some .stop
  | .halt => some .halt
  | .resume => some .resume
  | .clear => some .clear
  | .resetLine => some .resetLine
  | .statusRead => some .statusRead
  | .timeRead => some .timeRead
  | .timeSet => some .timeSet
  | .timeTrim => some .timeTrim
  | .trackDefine => some .trackDefine
  | .zoneDefine => some .zoneDefine
  | .trackRead => some .trackRead
  | .dividerReset => some .dividerReset
  | .noticeModeSet => some .noticeModeSet
  | .infeedDeclare => some .infeedDeclare
  | .parcelRead => some .parcelRead
  | .lotRead => some .lotRead
  | .holdRange => some .holdRange
  | .clearHoldRange => some .clearHoldRange
  | .channelSet => some .channelSet
  | .offsetStep => some .offsetStep
  | .levelsSet => some .levelsSet
  | .routeSet => some .routeSet
  | .externalTripSet => some .externalTripSet
  | .samplingSet => some .samplingSet
  | .tripAck => some .tripAck
  | .channelRead => some .channelRead
  | .rateTableSet => some .rateTableSet
  | .recipeThermalSet => some .recipeThermalSet
  | .recipePackingSet => some .recipePackingSet
  | .classMapSet => some .classMapSet
  | .deadTimeSet => some .deadTimeSet
  | .laneOpen => some .laneOpen
  | .laneClose => some .laneClose
  | .bagRead => some .bagRead
  | .bagWeight => some .bagWeight
  | .palletClose => some .palletClose
  | .palletRead => some .palletRead
  | .shuttleReset => some .shuttleReset
  | .jobLimitSet => some .jobLimitSet
  | .proveStart => some .proveStart
  | .proveAbort => some .proveAbort
  | .provingRead => some .provingRead
  | .commission => some .commission
  | .unlock => some .unlock
  | .storeSave => some .storeSave
  | _ => none

/-- R183, R189: the payload lengths a request allows, in bytes. -/
def payloadFits (r : Request) (bs : List Byte) : Bool :=
  match r with
  | .stop => decide (bs.length = 0) || decide (bs.length = 2)
  | .timeSet => decide (bs.length = 6)
  | .timeTrim | .parcelRead | .offsetStep | .samplingSet | .tripAck | .deadTimeSet | .palletClose | .jobLimitSet =>
    decide (bs.length = 2)
  | .trackDefine => decide (bs.length = 9)
  | .zoneDefine => match bs with
    | _ :: k :: rest => decide (rest.length = 5 * k.toNat)
    | _ => false
  | .trackRead | .bagWeight => decide (bs.length = 5)
  | .dividerReset | .lotRead | .channelRead | .laneOpen | .laneClose => decide (bs.length = 1)
  | .noticeModeSet | .palletRead => decide (bs.length = 2) || decide (bs.length = 3)
  | .infeedDeclare => decide (bs.length = 14)
  | .holdRange | .clearHoldRange | .channelSet | .externalTripSet => decide (bs.length = 4)
  | .levelsSet | .recipeThermalSet => decide (bs.length = 10)
  | .routeSet | .bagRead | .proveStart => decide (bs.length = 3)
  | .rateTableSet => match bs with
    | k :: rest => decide (rest.length = 4 * k.toNat)
    | [] => false
  | .recipePackingSet => decide (bs.length = 6)
  | .classMapSet => match bs with
    | k :: rest => decide (k.toNat = 7) && decide (rest.length = 14)
    | [] => false
  | .start | .halt | .resume | .clear | .resetLine | .statusRead | .timeRead | .shuttleReset | .proveAbort | .provingRead
  | .commission | .unlock | .storeSave => decide (bs.length = 0)

/-- R13: the line states whose cell is 'Yes' in a request's row of the availability table. -/
def admittedIn : Request → List LineState
  | .start => [.ready]
  | .stop => [.running, .draining]
  | .halt => [.proving, .running, .draining, .halted]
  | .resume | .clear => [.halted]
  | .resetLine | .dividerReset => [.setup, .ready, .halted]
  | .timeSet => [.setup, .ready]
  | .trackDefine | .zoneDefine | .channelSet | .offsetStep | .levelsSet | .routeSet | .externalTripSet | .rateTableSet
  | .recipeThermalSet | .proveStart | .commission => [.setup]
  | .infeedDeclare | .recipePackingSet | .classMapSet | .deadTimeSet | .laneOpen | .laneClose =>
    [.ready, .running, .draining, .halted]
  | .proveAbort => [.proving]
  | .unlock => [.ready]
  | .storeSave => [.setup, .ready, .running, .draining, .halted]
  | .statusRead | .timeRead | .timeTrim | .trackRead | .noticeModeSet | .parcelRead | .lotRead | .holdRange
  | .clearHoldRange | .samplingSet | .tripAck | .channelRead | .bagRead | .bagWeight | .palletClose | .palletRead
  | .shuttleReset | .jobLimitSet | .provingRead => [.setup, .proving, .ready, .running, .draining, .halted]

/-- R13: the requests whose row says 'Lock': the nine edits of the validated set. -/
def lockedRow : Request → Bool
  | .trackDefine | .zoneDefine | .channelSet | .offsetStep | .levelsSet | .routeSet | .externalTripSet | .rateTableSet
  | .recipeThermalSet => true
  | _ => false

/-- The frame `f` is the oldest waiting one, of a request's kind, on a powered part whose line reset pin is released (R183). -/
abbrev AtHand (s : State) (r : Request) (f : Frame) : Prop :=
  s.powered = true ∧ s.pin = false ∧ s.link.oldest = some f ∧ f.kind = r.kind

/-- The frame `f` is at hand and the availability table admits its request (R13). -/
abbrev Taken (s : State) (r : Request) (f : Frame) : Prop := AtHand s r f ∧ s.unavailable r = none

/-- The state after a request has been answered: the reply takes the request's place, the transmitter chooses, and the outputs
follow the records (R183, R184). -/
def State.replied (s : State) (f : Frame) (b : ReplyBody) : State := (s.answer f b).finish

/-- A reply to `f` has been made: it stands in the receive queue or is in transmission (R182, R184). -/
def Replied (t : State) (f : Frame) (b : ReplyBody) : Prop :=
  Place.answered ⟨replyKind f.kind, f.tag, b⟩ ∈ t.link.receive ∨ t.link.transmitter = .reply ⟨replyKind f.kind, f.tag, b⟩

/-- A notice with this body stands in the notice queue. -/
def Queued (t : State) (b : NoticeBody) : Prop := ∃ n ∈ t.link.notices, n.body = b

/-- The notice queue takes `k` further ordinary notices (R185). -/
abbrev Room (s : State) (k : Nat) : Prop := s.link.notices.length + k ≤ Config.noticeDepth ∧ s.link.waiting = []

/-- R163, R164: what an accepted edit of the validated set does to the commissioning unit: the generation advances, and a PASS
record becomes NONE (log 24). -/
def Edited (s t : State) : Prop :=
  t.comm = { s.comm with
    generation := s.comm.generation + 1
    record := if s.comm.record.result = .pass then ⟨.none, none⟩ else s.comm.record }

/-! ### The line -/

/-- R3: an UNLOCK save is in flight. -/
abbrev UnlockInFlight (s : State) : Prop := ∃ image, s.store.save = some ⟨.unlock, image⟩

/-- R164: a COMMISSION save is in flight. -/
abbrev CommissionInFlight (s : State) : Prop := ∃ image, s.store.save = some ⟨.commission, image⟩

/-- R3: a latched trip, of any source, has STOP_LINE in its route. -/
abbrev StopLatched (s : State) : Prop := ∃ x ∈ TripSource.all, s.latch x = true ∧ (s.route x).stopLine = true

/-- R3: every channel bound to a BLANCH zone is LIVE, and so is the EXIT channel. -/
abbrev ProbesLive (s : State) : Prop :=
  (∀ z ∈ s.track.zoneMap, z.kind = .blanch → ∃ c ch, z.channel = some c ∧ s.probe.channels.get? c = some ch ∧ ch.state = .live) ∧
    ∃ ch, s.probe.exitChannel = some ch ∧ ch.state = .live

/-- R3: an infeed declaration is present, current or staged. -/
abbrev Declared (s : State) : Prop := s.parcel.current ≠ none ∨ s.parcel.staged ≠ none

/-- The live parcels of a lot slot. -/
def State.liveOf (s : State) (slot : Nat) : Count :=
  BitVec.ofNat 32 (s.parcel.parcels.filter fun e => decide (e.2.slot = slot)).length

/-- R163, R174: the stored set as it stands in the working settings of `s`, with a lock flag: live values, nothing staged. -/
def SavedSet (s : State) (d : StoredSet) (locked : Bool) : Prop :=
  (∀ n, d.tracks.get? n = (s.track.tracks.get? n).map fun t => ⟨t.segments, t.pulses, t.group, t.stallLimit, t.mode, t.zones⟩) ∧
    (∀ n, d.channels.get? n = (s.probe.channels.get? n).map fun c =>
      ⟨c.address, c.enabled, c.role, c.offset, c.levels, c.hysteresis, c.routes, c.staleRoute⟩) ∧
    (∀ n, d.bindings.get? n = (s.probe.external.get? n).map fun e => e.binding) ∧
    d.exposureRoute = s.probe.exposure.route ∧ d.shuttleRoute = s.probe.shuttleFault.route ∧ d.rates = s.credit.rates ∧
    d.recipes = s.credit.recipes ∧ d.generation = s.comm.generation ∧ d.classMap = s.dist.live ∧
    d.deadTime = s.dist.deadTime ∧ d.period = s.probe.period ∧ d.drainLimit = s.line.drainLimit ∧
    d.jobLimit = s.transfer.jobLimit ∧ d.record = s.comm.record ∧ d.locked = locked

/-- R36, R44, R92, R106: what the entry into zone `z` makes of a parcel at the present line time. A BLANCH zone becomes its credit
zone, any other kind leaves it with none, and either disarms it; a first FREEZE zone stamps its freezer-entry time; GAP is added
where the BLANCH zone's channel is STALE, TRIP where a condition routed to MARK_ZONE holds for the zone's channel. `movedAt` and
`past` are the model's own record of the entry (log 36). -/
def EnteredZone (s : State) (z : ZoneInfo) (p p' : Parcel) : Prop :=
  p' = { p with
      zone := if z.kind = .blanch then some z.id else none
      armed := false
      freezerEntry := if z.kind = .freeze ∧ p.freezerEntry = none then some s.time.lineTime else p.freezerEntry
      deviation := p'.deviation
      movedAt := s.time.baseMs
      past := (if p.movedAt = s.time.baseMs then p.past else []) ++ [⟨p.zone, p.armed⟩] } ∧
    p'.deviation.manual = p.deviation.manual ∧
    (p'.deviation.gap = true ↔ p.deviation.gap = true ∨ (z.kind = .blanch ∧
      ∃ c ch, z.channel = some c ∧ s.probe.channels.get? c = some ch ∧ ch.state = .stale)) ∧
    (p'.deviation.trip = true ↔ p.deviation.trip = true ∨
      ∃ c x, z.channel = some c ∧ TripSource.channel x = some c ∧ s.condition x = true ∧ (s.route x).markZone = true)

/-- R83, R92, R111: what the passage of channel `c` to STALE makes of the live parcels: those in its BLANCH zones are disarmed and
gain GAP, and those at positions of its zones gain TRIP where the route of STALE has MARK_ZONE. -/
def StaleMarks (s t : State) (c : Nat) : Prop :=
  ∀ k p, s.parcel.parcels.get? k = some p → ∃ p', t.parcel.parcels.get? k = some p' ∧
    p' = { p with armed := p.armed && !s.track.reached c p, deviation := p'.deviation } ∧
    p'.deviation.manual = p.deviation.manual ∧
    (p'.deviation.gap = true ↔ p.deviation.gap = true ∨ s.track.reached c p = true) ∧
    (p'.deviation.trip = true ↔ p.deviation.trip = true ∨ ((s.route (.stale c)).markZone = true ∧ s.track.inZoneOf c p = true))

/-- R87, R92: what the conditions of channel `c` that begin to hold make of the live parcels: TRIP at the positions of its zones
where such a level's route has MARK_ZONE, and nothing else. `before` and `now` are the conditions. -/
def LevelMarks (s u : State) (c : Nat) (before now : LevelMap Bool) : Prop :=
  (∀ k, s.parcel.parcels.get? k = none → u.parcel.parcels.get? k = none) ∧
  ∀ k p, s.parcel.parcels.get? k = some p → ∃ q, u.parcel.parcels.get? k = some q ∧
    q = { p with deviation := { p.deviation with trip := q.deviation.trip } } ∧
    (q.deviation.trip = true ↔ p.deviation.trip = true ∨ (s.track.inZoneOf c p = true ∧
      ∃ l, now.look l = true ∧ before.look l = false ∧ (s.route (.level c l)).markZone = true))

/-- R40: a pulse on encoder input `input` that track `n` alone counts and that completes its segment, on a powered part. -/
abbrev Indexes (s : State) (input n : Nat) (tr : Track) : Prop :=
  s.powered = true ∧ s.pin = false ∧ 1 ≤ input ∧ input ≤ 4 ∧ s.track.counted input = [n] ∧ s.track.tracks.get? n = some tr ∧
    (s.line.state.runs = true ∨ (s.line.state = .halted ∧ 0 < tr.counter)) ∧ tr.pulses ≤ tr.counter + 1

/-- R7, R8: the entry to HALTED with a cause, from the running state of `s`: origin and cause, the stall timers cancelled and the
drain timer from DRAINING, LINE STATE queued, and a proving run ended ABORTED with its PROVING RESULT queued. -/
def HaltedFrom (s t : State) (cause : HaltCause) : Prop :=
  t = { s with line := t.line, time := t.time, parcel := t.parcel, comm := t.comm, link := t.link, pins := t.pins } ∧
    t.line = { s.line with state := .halted, origin := some s.line.state, cause := some cause } ∧
    t.time = { s.time with timers := t.time.timers } ∧
    (∀ n, t.time.timers.get? n = if n < 4 ∨ n = 4 ∧ s.line.state = .draining then none else s.time.timers.get? n) ∧
    (s.line.state ≠ .proving → t.comm = s.comm ∧ t.parcel = s.parcel) ∧
    (∀ r, s.line.state = .proving → s.comm.record = ⟨.running, some r⟩ →
      t.comm = { s.comm with record := ⟨.aborted, some { r with ended := some s.time.lineTime }⟩ } ∧
        t.parcel.current = none ∧
        (Room s 3 → Queued t (.provingResult ⟨.aborted, some { r with ended := some s.time.lineTime }⟩))) ∧
    (Room s 1 → Queued t (.lineState .halted (some s.line.state) cause.why (some s.line.state) cause.detail)) ∧
    t.pins.trackRun = [false, false, false, false] ∧ t.pins.infeedRun = false

/-- R155: the shuttle's entry to FAULTED with a cause: its record, its job timer, its job's pallet, and the SHUTTLE_FAULT event,
which carries the pallet's number, or 0 with no job or after the door pass, when every pallet stays as it is. -/
def FaultedFrom (s t : State) (cause : ShuttleCause) : Prop :=
  t.transfer.shuttle.state = .faulted ∧ t.transfer.shuttle.job = none ∧ t.transfer.shuttle.jobValid = false ∧
    t.transfer.shuttle.cause = some cause ∧ t.time.timers.get? 14 = none ∧ t.latch .shuttleFault = true ∧
    (∀ y, y ≠ .shuttleFault → t.latch y = s.latch y) ∧ t.dist = s.dist ∧ t.track = s.track ∧
    (s.transfer.shuttle.job = none → t.transfer.pallets = s.transfer.pallets ∧ t.transfer.shuttle.stranded = none) ∧
    (s.probe.shuttleFault.route.notify = true → Room s 1 →
      (s.transfer.shuttle.job = none ∨ (∃ j, s.transfer.shuttle.job = some j ∧ j.doorMade = true) →
        Queued t (.trip .shuttleFault .transfer none 0 s.probe.shuttleFault.route s.time.lineTime)) ∧
      ∀ j r p, s.transfer.shuttle.job = some j → j.doorMade = false → s.transfer.findPallet j.pallet = some (r, p) →
        p.state ≠ .stored → Queued t (.trip .shuttleFault .transfer none p.number s.probe.shuttleFault.route s.time.lineTime)) ∧
    (∀ j, s.transfer.shuttle.job = some j → j.doorMade = true →
      t.transfer.pallets = s.transfer.pallets ∧ t.transfer.shuttle.stranded = none) ∧
    ∀ j r p, s.transfer.shuttle.job = some j → j.doorMade = false → s.transfer.findPallet j.pallet = some (r, p) →
      s.transfer.pallets.get? r = some p →
      (p.state = .granted → t.transfer.shuttle.stranded = none ∧
        t.transfer.pallets.get? r = some { p with state := .ready, readyOrder := s.transfer.lastReady + 1 }) ∧
      (p.state = .loaded → t.transfer.shuttle.stranded = some p.number ∧
        t.transfer.pallets.get? r = some { p with stranded := true }) ∧
      (p.state = .stored → t.transfer.shuttle.stranded = none ∧ t.transfer.pallets = s.transfer.pallets)

/-- R98: a channel at power-on from its part of the stored set, apart from its conditions and level latches. -/
def PoweredChannel (x : ChannelSetting) (ch : Channel) : Prop :=
  x = ⟨ch.address, ch.enabled, ch.role, ch.offset, ch.levels, ch.hysteresis, ch.routes, ch.staleRoute⟩ ∧
    ch.state = (if x.enabled then .waiting else .off) ∧ ch.lastValue = none ∧ ch.lastSample = none ∧ ch.overRange = false ∧
    ch.misses = 0 ∧ ch.lastMiss = none ∧ ch.lastFault = none ∧ ch.results = ⟨false, false, false, false⟩ ∧ ch.staleLatch = false

/-- R77, R186: the LINE RESET DISCARD parts for what was on the line: the count of live parcels, and up to eight lots a part. -/
def discardParts (s : State) : List NoticeBody :=
  let n := s.parcel.parcels.length
  if s.parcel.lots.length ≤ 8 then [.resetDiscard n 1 1 s.parcel.lots]
  else [.resetDiscard n 1 2 (s.parcel.lots.take 8), .resetDiscard n 2 2 (s.parcel.lots.drop 8)]

/-- What a line reset leaves, block by block (R15, R32, R56, R77, R99, R118, R142, R162): settings, generation, lock, image and
line time stay, and the overrun mark is cleared. R191: the notice queue then holds the LINE STATE notice, the LINE RESET DISCARD
parts, an owed PROVING RESULT, TRIP notices of conditions still holding, and an owed STORE RESULT, in this order; only the last
two kinds may find it full. Pallet number 0 and the present line time as the event time in each of these TRIP notices, a level
that a sample caused included, are the model's reading (log 20), not R91's or R99's words; their cause is left open here. -/
def ResetFrom (s t : State) : Prop :=
  t.powered = true ∧ t.pin = false ∧
    t.line = { s.line with state := if s.comm.locked then .ready else .setup, origin := none, cause := none } ∧
    t.time = { s.time with timers := [], expired := [] } ∧
    t.track = { tracks := s.track.tracks.mapVals fun _ tr =>
                  { tr with mode := tr.staged.getD tr.mode, staged := none, head := 0, counter := 0, backedUp := false
                            stalled := false, queue := [] }
                cells := [] } ∧
    t.parcel = { s.parcel with parcels := [], lots := [], current := none, staged := none } ∧
    t.credit = { s.credit with chains := s.credit.chains.mapVals fun _ _ => ⟨none, 0⟩ } ∧
    t.dist = { s.dist with
      live := s.dist.staged.getD s.dist.live, staged := none, pointers := s.dist.pointers.mapVals fun _ _ => ⟨none, 0⟩
      lanes := s.dist.lanes.mapVals fun _ l => ⟨.closed, none, false, l.ready⟩, lane0 := ⟨0, 0, 0, 0, 0, 0⟩
      openGate := none, pendingGate := none, bags := [] } ∧
    t.transfer = { s.transfer with
      pallets := [], waiting := []
      shuttle := { s.transfer.shuttle with state := .idle, job := none, jobValid := false, cause := none, stranded := none } } ∧
    t.comm = { s.comm with owed := false } ∧ t.store = { s.store with owed := none } ∧
    (∀ x ∈ TripSource.all, t.latch x = t.condition x ∧ t.route x = s.route x) ∧ t.probe.period = s.probe.period ∧
    t.probe.exchange = s.probe.exchange ∧ t.probe.remaining = s.probe.remaining ∧ t.probe.external = s.probe.external ∧
    t.probe.nextRound = s.probe.nextRound ∧ t.probe.lastRound = s.probe.lastRound ∧
    (∀ n ch, s.probe.channels.get? n = some ch → ∃ ch', t.probe.channels.get? n = some ch' ∧
      ch' = { ch with latches := ch'.latches, staleLatch := ch'.staleLatch }) ∧
    t.link.waiting = [] ∧
    t.link.baud = s.link.baud ∧
    (∃ more, t.link.notices = ⟨s.time.lineTime, .lineState t.line.state (some s.line.state) .lineReset none .absent⟩ :: more) ∧
    (t.link.notices.length < 32 → t.link.overrun = false) ∧
    (s.parcel.lots.length ≤ 16 → ∃ trips last, t.link.notices =
      ⟨s.time.lineTime, .lineState t.line.state (some s.line.state) .lineReset none .absent⟩ ::
        (discardParts s).map (fun b => ⟨s.time.lineTime, b⟩) ++
          ((if s.comm.owed then [⟨s.time.lineTime, .provingResult s.comm.record⟩] else []) ++ (trips ++ last)) ∧
      (∀ n ∈ trips, ∃ x cause ch, n = ⟨s.time.lineTime, .trip x cause ch 0 (s.route x) s.time.lineTime⟩ ∧
        t.condition x = true ∧ (s.route x).notify = true) ∧
      (last = [] ∨ ∃ k ok g, s.store.owed = some (k, ok, g) ∧ last = [⟨s.time.lineTime, .storeResult k ok g⟩]) ∧
      (t.link.notices.length < 32 →
        (∀ x ∈ TripSource.all, t.condition x = true → (s.route x).notify = true →
          ∃ n ∈ trips, ∃ cause ch, n.body = .trip x cause ch 0 (s.route x) s.time.lineTime) ∧
        ∀ k ok g, s.store.owed = some (k, ok, g) → last = [⟨s.time.lineTime, .storeResult k ok g⟩]))

/-! ### Invariants -/

/-- R71: created equals live plus released, held, redirected and lost, in the arithmetic of the counts. -/
def Lot.balanced (l : Lot) : Bool := decide (l.created = l.live + l.released + l.held + l.redirected + l.lost)

/-- R71: every lot of the table is balanced. -/
def LotsBalanced (s : State) : Prop := (s.parcel.lots.all fun e => e.2.balanced) = true

/-- R17, R18, R22, R24: line time, accumulator, trim and every due lie in their ranges. -/
def TimeInRange (s : State) : Prop :=
  s.time.lineTime ≤ Config.lineTimeMax ∧ s.time.accumulator < Config.trimModulus ∧ -500 ≤ s.time.trim ∧ s.time.trim ≤ 500 ∧
    (s.time.timers.all fun e => decide (e.2 ≤ Config.lineTimeMax)) = true

/-- R182, R185: the queues of the link hold no more than their places. -/
def LinkInBounds (s : State) : Prop :=
  s.link.receive.length ≤ Config.receiveDepth ∧ s.link.busy.length ≤ Config.busyDepth ∧
    s.link.notices.length ≤ Config.noticeDepth

/-- The tables whose entries come and go are in their canonical form: numbers strictly rising. -/
def TablesCanonical (s : State) : Prop :=
  s.time.timers.wf = true ∧ s.track.cells.wf = true ∧ s.parcel.parcels.wf = true ∧ s.parcel.lots.wf = true ∧
    s.dist.bags.wf = true ∧ s.transfer.pallets.wf = true

/-- Chapter 1: the lock each line state carries; a halt origin is present in HALTED alone and is a running state. -/
def lockFits (u : LineUnit) (locked : Bool) : Bool :=
  match u.state, u.origin with
  | .setup, none => !locked
  | .proving, none => !locked
  | .ready, none => locked
  | .running, none => locked
  | .draining, none => locked
  | .halted, some .proving => !locked
  | .halted, some .running => locked
  | .halted, some .draining => locked
  | _, _ => false

/-- R172, R173: what a save in flight says of the lock, and of the line while the pin is released. -/
def saveFits (s : State) : Bool :=
  match s.store.save with
  | some ⟨.commission, _⟩ => !s.comm.locked && (s.pin || decide (s.line.state = .setup))
  | some ⟨.unlock, _⟩ => s.comm.locked && (s.pin || decide (s.line.state = .ready))
  | some ⟨.store, _⟩ => true
  | none => true

/-- Chapter 1, R172, R173: line state and lock belong together, except while the line reset pin is asserted (R15). -/
def LockFollowsLine (s : State) : Prop := (s.pin || lockFits s.line s.comm.locked) = true ∧ saveFits s = true

/-- R176: a stored set holds no RUNNING record. -/
def StoredSet.notRunning (d : StoredSet) : Bool := !decide (d.record.result = .running)

/-- R166, R169, R170, R176: the record is RUNNING exactly in PROVING, it then holds a run, it is not RUNNING while the pin is
asserted, and neither the image nor a save in flight holds a RUNNING record. -/
def ProvingFollowsLine (s : State) : Prop :=
  (if s.pin then s.comm.record.result ≠ .running else (s.line.state = .proving ↔ s.comm.record.result = .running)) ∧
    (s.comm.record.result = .running → s.comm.record.run.isSome = true) ∧
    (s.store.image.all StoredSet.notRunning) = true ∧ (s.store.save.all fun v => v.image.notRunning) = true

/-- R33: the numbers of a table of tracks: 1 up to the track count, at most 4. -/
def inOrder {α : Type} (t : Table α) : Bool :=
  decide ((t.map fun e => e.1) = (List.range t.length).map fun i => i + 1) && decide (t.length ≤ 4)

/-- R33: tracks are defined in order, in the working settings, in the image and in a save in flight. -/
def TracksInOrder (s : State) : Prop :=
  inOrder s.track.tracks = true ∧ (s.store.image.all fun d => inOrder d.tracks) = true ∧
    (s.store.save.all fun v => inOrder v.image.tracks) = true

/-- The numbers of a table of `n` fixed records: 1 up to `n`. -/
def numbered {α : Type} (n : Nat) (t : Table α) : Bool := decide ((t.map fun e => e.1) = (List.range n).map fun i => i + 1)

/-- R119: every lane set of a class map is drawn from lanes 1..4. -/
def lanesInRange (m : Table ClassEntry) : Bool := m.all fun e => e.2.lanes.all fun lane => decide (1 ≤ lane) && decide (lane ≤ 4)

/-- R80, R119: a stored set holds channels 1..16 and lane sets drawn from lanes 1..4. -/
def StoredSet.inRange (d : StoredSet) : Bool := numbered 16 d.channels && lanesInRange d.classMap

/-- R80, R119, R122: channels 1..16 and lanes 1..4 are in their tables, and every lane set is drawn from lanes 1..4, in the
working settings, in the image and in a save in flight. -/
def UnitsNumbered (s : State) : Prop :=
  numbered 16 s.probe.channels = true ∧ numbered 4 s.dist.lanes = true ∧ lanesInRange s.dist.live = true ∧
    (s.dist.staged.all lanesInRange) = true ∧ (s.store.image.all StoredSet.inRange) = true ∧
    (s.store.save.all fun v => v.image.inRange) = true

end Sys2Proof.Machine
end

