-- ==== Sys2Proof/Certificates/Slice0/Obligations.lean ====
section
/-! DEFINITION. The statements for the provers: the spec's rules of what each command does, the commands and machine around
them, and the invariants. `s` is the state before a command and `t` the state after it; an equation
`t = { s with … := t.…, … }` says that every block it does not name is as it was. -/

open Sys2Proof Sys2Proof.Machine

/-! ### The queue of commands, power, and every command -/

/-- The command at the front of the queue is taken and executed with the queue's rest; with an empty queue the block idles (the
model's own choice, log 3). -/
def Obligations.StepTakesFrontCommand : Prop :=
  (∀ (c : Instr) (rest : List Instr) (s : State), s.pending = c :: rest → step s = exec c { s with pending := rest }) ∧
    ∀ s : State, s.pending = [] → step s = .next s

/-- Every well-formed command completes, and a command that names a line, timer or record the part does not have stops with
that fault (log 26). No command touches the queue, and an unpowered part does nothing until POWER ON (log 14). -/
def Obligations.CommandsCompleteOrFault : Prop :=
  (∀ (c : Instr) (s : State), (c.wellFormed = true → ∃ t, exec c s = .next t) ∧
     (c.wellFormed = false → exec c s = .fault .noSuchLine)) ∧
  (∀ (c : Instr) (s t : State), exec c s = .next t → t.pending = s.pending) ∧
    ∀ (c : Instr) (s : State), c.wellFormed = true → s.powered = false → (∀ seen a b, c ≠ .powerOn seen a b) →
      exec c s = .next s

/-! ### Requests -/

/-- R183: a payload length the request does not allow is answered BAD_LENGTH, before every other check of the request, and
nothing else changes. A request row whose frame is not at hand changes nothing but what the end of a command does (logs 2, 13).
That a CLASS MAP SET whose count is not 7 has a length not allowed is the model's reading (log 19).
R183, R180: a frame of no request kind is answered UNKNOWN_KIND; a reply's kind is the frame's kind + 0x80 for the kinds
0x01..0x5F and 0x80 for every other, and its tag is the frame's. -/
def Obligations.RequestChecksComeFirst : Prop :=
  ((∀ (c : Instr) (r : Request) (f : Frame) (s : State), requestOf c = some r → AtHand s r f →
       payloadFits r f.payload = false → exec c s = .next (s.replied f (.status .badLength))) ∧
     ∀ (c : Instr) (r : Request) (s : State), requestOf c = some r → s.powered = true → (∀ f, ¬AtHand s r f) →
       exec c s = .next s.finish) ∧
  (∀ (s : State) (f : Frame), s.powered = true → s.pin = false → s.link.oldest = some f → (∀ r : Request, r.kind ≠ f.kind) →
      exec .unknownKind s = .next (s.replied f (.status .unknownKind))) ∧
    ∀ k : Byte, replyKind k = if 0x01 ≤ k ∧ k ≤ 0x5F then k + 0x80 else 0x80

/-- R13: the availability table. A request whose cell is a dash is refused WRONG_STATE; one whose cell is 'Lock' is refused
LOCKED while the lock is LOCKED and WRONG_STATE while it is UNLOCKED; a refusal changes nothing; a request passes to its own
checks exactly in the other cells. -/
def Obligations.AvailabilityTable : Prop :=
  (∀ (s : State) (r : Request), s.unavailable r = none ↔ s.line.state ∈ admittedIn r) ∧
    ∀ (c : Instr) (r : Request) (f : Frame) (s : State), requestOf c = some r → AtHand s r f →
      payloadFits r f.payload = true → s.line.state ∉ admittedIn r →
      exec c s = .next (s.replied f (.status (if lockedRow r = true ∧ s.comm.locked = true then .locked else .wrongState)))

/-- R182, R184: the reply to the oldest waiting frame takes that frame's place, behind the replies made before it; a busy
transmitter goes on, and an idle one begins to send the oldest reply. Nothing else of the link changes. That a reply leaves its
place in the step that chooses it is the model's choice (log 15). -/
def Obligations.ReplyTakesTheRequestsPlace : Prop :=
  ∀ (s : State) (f : Frame) (b : ReplyBody) (made : List Reply) (rest : List Place), s.powered = true → s.pin = false →
    s.link.receive = made.map Place.answered ++ .waiting f :: rest →
      (s.link.transmitter ≠ .idle →
        (s.replied f b).link = { s.link with receive := made.map Place.answered ++ .answered ⟨replyKind f.kind, f.tag, b⟩ :: rest }) ∧
      (s.link.transmitter = .idle → made = [] →
        (s.replied f b).link = { s.link with receive := rest, transmitter := .reply ⟨replyKind f.kind, f.tag, b⟩ }) ∧
      ∀ q more, s.link.transmitter = .idle → made = q :: more →
        (s.replied f b).link = { s.link with receive := more.map Place.answered ++ .answered ⟨replyKind f.kind, f.tag, b⟩ :: rest
                                             transmitter := .reply q }

/-! ### The host link -/

/-- R184: at the end of a reply the transmitter chooses the oldest reply made, then the oldest BUSY reply, then the oldest
notice; a reply leaves its place as it is chosen, a notice does not. R184, R185: a notice leaves its entry when its last byte
has been sent, whatever is sent next. With no retained notice waiting the entry stays free; a waiting LOT SUMMARY enters it in
the same step, and its slot becomes FREE (R73); so does a waiting part of a PALLET TRANSFER, the second part freeing the pallet
record (R159). A notice whose entry a line reset has taken away frees none: that is the model's reading (log 33). That a reply
leaves its place in the step that chooses it is the model's choice (log 15). -/
def Obligations.FrameSentChoosesNext : Prop :=
  (∀ (s : State) (q : Reply), s.powered = true → s.pin = false → s.link.transmitter = .reply q →
     ∃ t, exec .frameSent s = .next t ∧ t = { s with link := t.link, pins := t.pins } ∧
       (∀ r rest, s.link.receive = .answered r :: rest →
         t.link = { s.link with transmitter := .reply r, receive := rest }) ∧
       ((∀ p ∈ s.link.receive, ∃ f, p = .waiting f) →
         t.link = match s.link.busy, s.link.notices with
           | r :: rest, _ => { s.link with transmitter := .reply r, busy := rest }
           | [], n :: _ => { s.link with transmitter := .notice n true }
           | [], [] => { s.link with transmitter := .idle })) ∧
  (∀ (s : State) (n : Notice) (rest : List Notice), s.powered = true → s.pin = false → s.link.transmitter = .notice n true →
    s.link.notices = n :: rest → s.link.waiting = [] →
      ∃ t, exec .frameSent s = .next t ∧ t = { s with link := t.link, pins := t.pins } ∧
        (∀ r more, s.link.receive = .answered r :: more →
          t.link = { s.link with notices := rest, transmitter := .reply r, receive := more }) ∧
        ((∀ p ∈ s.link.receive, ∃ f, p = .waiting f) → ∀ r more, s.link.busy = r :: more →
          t.link = { s.link with notices := rest, transmitter := .reply r, busy := more })) ∧
  (∀ (s : State) (n : Notice) (rest : List Notice) (r part : Nat) (p : Pallet) (more : List Retained), s.powered = true →
    s.link.transmitter = .notice n true → s.link.notices = n :: rest → s.link.waiting = .palletPart r part :: more →
    s.transfer.pallets.get? r = some p → 60 < p.bags.length →
      (part = 1 → ∃ t tail, exec .frameSent s = .next t ∧
        t.link.notices = rest ++ ⟨s.time.lineTime, .palletTransfer (s.palletSummary p) 1 2 (p.bags.take 60)⟩ :: tail ∧
        (rest.length = 31 → tail = [] ∧ t.link.waiting = more ++ [.palletPart r 2] ∧ t.transfer = s.transfer)) ∧
      (part = 2 → s.transfer.waiting = [] → ∃ t tail, exec .frameSent s = .next t ∧
        t.link.notices = rest ++ ⟨s.time.lineTime, .palletTransfer (s.palletSummary p) 2 2 (p.bags.drop 60)⟩ :: tail ∧
        t.transfer = { s.transfer with pallets := s.transfer.pallets.del r } ∧
        ∀ l, s.parcel.lots.get? p.slot = some l → s.parcel.current = some p.slot →
          t.parcel.lots.get? p.slot = some { l with palletRefs := l.palletRefs - 1 })) ∧
  ∀ (s : State) (n : Notice) (rest : List Notice), s.powered = true → s.pin = false → s.link.receive = [] → s.link.busy = [] →
    (s.link.transmitter = .notice n true → s.link.notices = n :: rest → s.link.waiting = [] →
      ∃ t, exec .frameSent s = .next t ∧ t = { s with link := t.link, pins := t.pins } ∧
        t.link = { s.link with notices := rest, transmitter := match rest with
          | m :: _ => .notice m true
          | [] => .idle }) ∧
    (∀ slot l more, s.link.transmitter = .notice n true → s.link.notices = n :: rest →
      s.link.waiting = .lotSummary slot :: more → s.parcel.lots.get? slot = some l →
      ∃ t, exec .frameSent s = .next t ∧ t = { s with parcel := t.parcel, link := t.link, pins := t.pins } ∧
        t.parcel = { s.parcel with lots := s.parcel.lots.del slot } ∧ t.link.waiting = more ∧
        t.link.notices = rest ++ [⟨s.time.lineTime, .lotSummary slot l⟩]) ∧
    (s.link.transmitter = .notice n false → s.link.notices = rest →
      ∃ t, exec .frameSent s = .next t ∧ t = { s with link := t.link, pins := t.pins } ∧
        t.link = { s.link with transmitter := match rest with
          | m :: _ => .notice m true
          | [] => .idle })

/-- R180, R181, R182: the bytes of a whole frame, received while the receiver hunts, are read back as that frame with every bit
of its kind, tag and payload: it takes a place of the receive queue, or is answered BUSY, or is discarded. -/
def Obligations.FrameRoundTrip : Prop :=
  ∀ (s : State) (kind tag : Byte) (payload : List Byte), s.powered = true → payload.length ≤ 1000 → s.link.receiver = none →
    exec (.frameReceived (frameBytes kind tag payload)) s =
      .next (({ s with link :=
        if s.pin = true then { s.link with lastByte := s.time.baseMs }
        else if s.link.receive.length < 4 then
          { s.link with receive := s.link.receive ++ [.waiting ⟨kind, tag, payload⟩], lastByte := s.time.baseMs }
        else if s.link.busy.length < 4 then
          { s.link with busy := s.link.busy ++ [⟨replyKind kind, tag, .status .busy⟩], lastByte := s.time.baseMs }
        else { s.link with lastByte := s.time.baseMs } } : State).finish)

/-- R181: a frame in reception is discarded when one of its characters is broken, when more than 10 base milliseconds pass
between two of its bytes, when its CRC does not match, and when its length is above 1000; nothing else changes, and the
receiver hunts. That the gap row does nothing before its gap has passed is the model's reading (log 4). -/
def Obligations.FramesAreDiscarded : Prop :=
  ∀ s : State, s.powered = true →
    exec .brokenCharacter s = .next ({ s with link := { s.link with receiver := none } } : State).finish ∧
    (∀ acc, s.link.receiver = some acc → s.link.lastByte + 10 < s.time.baseMs →
      exec .interByteGapTimeout s = .next ({ s with link := { s.link with receiver := none } } : State).finish) ∧
    (s.link.receiver = none ∨ s.time.baseMs ≤ s.link.lastByte + 10 → exec .interByteGapTimeout s = .next s.finish) ∧
    (∀ (body : List Byte) (k0 k1 : Byte), s.link.receiver = some (body ++ [k0]) → s.time.baseMs ≤ s.link.lastByte + 10 →
      4 ≤ body.length → leNat (body.take 2) ≤ 1000 → body.length = 4 + leNat (body.take 2) → crc body ≠ k1 ++ k0 →
      exec (.frameReceived [k1]) s =
        .next ({ s with link := { s.link with receiver := none, lastByte := s.time.baseMs } } : State).finish) ∧
    ∀ a b : Byte, s.link.receiver = some [a] → s.time.baseMs ≤ s.link.lastByte + 10 → 1000 < leNat [a, b] →
      exec (.frameReceived [b]) s =
        .next ({ s with link := { s.link with receiver := none, lastByte := s.time.baseMs } } : State).finish

/-- R185: an ordinary notice enters a queue with a free entry on which no retained notice waits, with the present line time;
otherwise it is dropped and the overrun mark is set. STATUS READ returns the mark as it stood and clears it (R187). -/
def Obligations.OrdinaryNoticeRule : Prop :=
  (∀ (s : State) (b : NoticeBody),
    s.notify b =
      if s.link.notices.length < 32 ∧ s.link.waiting = [] then
        { s with link := { s.link with notices := s.link.notices ++ [⟨s.time.lineTime, b⟩] } }
      else { s with link := { s.link with overrun := true } }) ∧
    ∀ (s : State) (f : Frame), AtHand s .statusRead f → f.payload = [] →
      exec .statusRead s =
        .next (({ s with link := { s.link with overrun := false } } : State).replied f (.statusRead
          { state := s.line.state, origin := s.line.origin, cause := s.line.cause, locked := s.comm.locked
            key := s.comm.key
            store := if s.store.save.isSome then .busy else if s.store.image.isSome then .valid else .invalid
            generation := s.comm.generation, time := s.time.lineTime, live := s.parcel.parcels.length
            current := s.parcel.current.isSome, staged := s.parcel.staged.isSome, bagsInUse := s.dist.bags.length
            lanesWithBag := (s.dist.lanes.filter fun e => e.2.bag.isSome).length
            palletsInUse := s.transfer.pallets.length, shuttle := s.transfer.shuttle.state
            tracks := [1, 2, 3, 4].map fun n => match s.track.tracks.get? n with
              | some t => ⟨true, s.line.state.runs && !t.backedUp, t.backedUp, t.stalled⟩
              | none => ⟨false, false, false, false⟩
            infeedRun := (decide (s.line.state = .running) || decide (s.line.state = .proving)) && !s.infeedHold
            infeedHold := s.infeedHold, latches := s.latchCount, overrun := s.link.overrun }))

/-! ### The line controller -/

/-- R3: START. Outside READY it is refused WRONG_STATE; in READY its four checks are made in order; when they pass the line
enters RUNNING, every pulse counter is 0, RUN is asserted on every defined track and at the infeed unless an infeed hold is in
force, every stall timer is armed, and LINE STATE is queued with cause START. That START clears the BACKED_UP marks (log 21),
and that a line without an EXIT channel is refused PROBE_NOT_LIVE (log 22), is the model's reading. -/
def Obligations.StartRunsTheLine : Prop :=
  ∀ (s : State) (f : Frame), AtHand s .start f → f.payload = [] →
    (s.line.state ≠ .ready → exec .start s = .next (s.replied f (.status .wrongState))) ∧
    (s.line.state = .ready → UnlockInFlight s → exec .start s = .next (s.replied f (.status .busy))) ∧
    (s.line.state = .ready → ¬UnlockInFlight s → StopLatched s → exec .start s = .next (s.replied f (.status .tripLatched))) ∧
    (s.line.state = .ready → ¬UnlockInFlight s → ¬StopLatched s → ¬ProbesLive s →
      exec .start s = .next (s.replied f (.status .probeNotLive))) ∧
    (s.line.state = .ready → ¬UnlockInFlight s → ¬StopLatched s → ProbesLive s → ¬Declared s →
      exec .start s = .next (s.replied f (.status .noLot))) ∧
    (s.line.state = .ready → ¬UnlockInFlight s → ¬StopLatched s → ProbesLive s → Declared s → TracksInOrder s →
      ∃ t, exec .start s = .next t ∧
        t = { s with line := t.line, time := t.time, track := t.track, link := t.link, pins := t.pins } ∧
        t.line = { s.line with state := .running, origin := none, cause := none } ∧
        t.track.cells = s.track.cells ∧
        (∀ n, t.track.tracks.get? n = (s.track.tracks.get? n).map fun tr => { tr with counter := 0, backedUp := false }) ∧
        t.time = { s.time with timers := t.time.timers } ∧
        (∀ n, t.time.timers.get? n = match s.track.tracks.get? (n + 1) with
          | some tr => some (min (s.time.lineTime + tr.stallLimit) 281474976710655)
          | none => s.time.timers.get? n) ∧
        t.pins.trackRun = ([1, 2, 3, 4].map fun n => (s.track.tracks.get? n).isSome) ∧ t.pins.infeedRun = !s.infeedHold ∧
        Replied t f (.status .ok) ∧ (Room s 1 → Queued t (.lineState .running (some .ready) .start none .absent)))

/-- R4, R5: STOP. An out-of-range limit is refused; in RUNNING a line that holds a parcel enters DRAINING with the drain timer
armed, an empty one passes straight on to READY with both notices queued; in DRAINING only a limit re-arms the timer. That the
entry to READY clears the BACKED_UP marks is the model's reading (log 21). -/
def Obligations.StopDrainsTheLine : Prop :=
  ∀ (s : State) (f : Frame), AtHand s .stop f → f.payload.length = 0 ∨ f.payload.length = 2 →
    (s.line.state = .running ∨ s.line.state = .draining → f.payload ≠ [] → ¬(10 ≤ leNat f.payload ∧ leNat f.payload ≤ 3600) →
      exec .stop s = .next (s.replied f (.status .badValue))) ∧
    (∀ limit, (f.payload = [] ∧ limit = s.line.drainLimit) ∨ (f.payload ≠ [] ∧ limit = leNat f.payload ∧ 10 ≤ limit ∧ limit ≤ 3600) →
      s.line.state = .running →
      (s.lineEmpty = false →
        exec .stop s = .next ((({ s with
          line := { s.line with state := .draining, origin := none, cause := none, drainLimit := limit }
          time := { s.time with timers := s.time.timers.put 4 (min (s.time.lineTime + limit * 1000) 281474976710655) } } :
            State).notify (.lineState .draining (some .running) .stop none .absent)).replied f (.status .ok))) ∧
      (s.lineEmpty = true → s.time.timers.wf = true →
        ∃ t, exec .stop s = .next t ∧
          t = { s with line := t.line, time := t.time, track := t.track, link := t.link, pins := t.pins } ∧
          t.line = { s.line with state := .ready, origin := none, cause := none, drainLimit := limit } ∧
          t.time = { s.time with timers := t.time.timers } ∧
          (∀ n, t.time.timers.get? n = if n ≤ 4 then none else s.time.timers.get? n) ∧
          (∀ n, t.track.tracks.get? n = (s.track.tracks.get? n).map fun tr => { tr with counter := 0, backedUp := false }) ∧
          (Room s 2 → Queued t (.lineState .draining (some .running) .stop none .absent) ∧
            Queued t (.lineState .ready (some .draining) .drained none .absent)) ∧ Replied t f (.status .ok))) ∧
    (s.line.state = .draining → f.payload = [] → exec .stop s = .next (s.replied f (.status .ok))) ∧
    (∀ limit, s.line.state = .draining → f.payload ≠ [] → limit = leNat f.payload → 10 ≤ limit → limit ≤ 3600 →
      exec .stop s = .next (({ s with
        line := { s.line with drainLimit := limit }
        time := { s.time with timers := s.time.timers.put 4 (min (s.time.lineTime + limit * 1000) 281474976710655) } } :
          State).replied f (.status .ok)))

/-- R6, R7, R8, R53, R170: the four ways into HALTED that do not come from a trip: HALT, PROVE ABORT, the drain timer and a
stall timer. `HaltedFrom` says what the entry does, the PROVING RESULT of a run it ends among it; that LINE STATE is queued before
the other notices of the step is the model's choice (log 11). In HALTED, HALT changes nothing; a drain expiry outside DRAINING does nothing. That a stall expiry
outside the running states marks the track and does no more is the model's reading (log 25). -/
def Obligations.HaltsAreEntered : Prop :=
  (∀ (s : State) (f : Frame), AtHand s .halt f → f.payload = [] → s.time.timers.wf = true →
    (s.line.state.runs = true → ∃ t, exec .halt s = .next t ∧ HaltedFrom s t .request ∧ Replied t f (.status .ok)) ∧
    (s.line.state = .halted → exec .halt s = .next (s.replied f (.status .ok)))) ∧
  (∀ (s : State) (f : Frame), AtHand s .proveAbort f → f.payload = [] → s.time.timers.wf = true → s.line.state = .proving →
    ∃ t, exec .proveAbort s = .next t ∧ HaltedFrom s t .request ∧ Replied t f (.status .ok)) ∧
  (∀ s : State, s.powered = true → s.pin = false → s.time.timers.wf = true → TimerId.drain ∈ s.time.expired →
    (s.line.state = .draining → ∃ t, exec .drainTimerExpiry s = .next t ∧
      HaltedFrom { s with time := { s.time with expired := s.time.expired.erase .drain } } t .drainTimeout) ∧
    (s.line.state ≠ .draining → exec .drainTimerExpiry s =
      .next ({ s with time := { s.time with expired := s.time.expired.erase .drain } } : State).finish)) ∧
  ∀ (s : State) (n : Nat), 1 ≤ n → n ≤ 4 → s.powered = true → s.pin = false → s.time.timers.wf = true →
    TimerId.stall n ∈ s.time.expired →
    ∀ s1 : State, s1 = { s with
        time := { s.time with expired := s.time.expired.erase (.stall n) }
        track := { s.track with tracks := s.track.tracks.modify n fun tr => { tr with stalled := true } } } →
      (s.line.state.runs = true → ∃ t, exec (.stallTimerExpiry n) s = .next t ∧ HaltedFrom s1 t (.stall n)) ∧
      (s.line.state.runs = false → exec (.stallTimerExpiry n) s = .next s1.finish)

/-- R10, R51: RESUME. Its checks in order; then the line returns to its halt origin, every STALLED mark and every counter is
cleared, a BACKED_UP mark stands only on a queue of more than 4, the stall timers of the tracks with RUN are armed, and on a
return to DRAINING the drain timer; an emptied line passes on to READY. That a line without an EXIT channel is refused
PROBE_NOT_LIVE is the model's reading (log 22). -/
def Obligations.ResumeReturns : Prop :=
  ∀ (s : State) (f : Frame) (origin : LineState), AtHand s .resume f → f.payload = [] → s.line.state = .halted →
    s.line.origin = some origin →
    (origin = .proving → exec .resume s = .next (s.replied f (.status .wrongState))) ∧
    (origin ≠ .proving → StopLatched s → exec .resume s = .next (s.replied f (.status .tripLatched))) ∧
    (origin ≠ .proving → ¬StopLatched s → ¬ProbesLive s → exec .resume s = .next (s.replied f (.status .probeNotLive))) ∧
    (origin = .running → ¬StopLatched s → ProbesLive s → ¬Declared s → exec .resume s = .next (s.replied f (.status .noLot))) ∧
    (origin = .running ∧ Declared s ∨ origin = .draining → ¬StopLatched s → ProbesLive s → TracksInOrder s →
      ∃ t, exec .resume s = .next t ∧
        t = { s with line := t.line, time := t.time, track := t.track, link := t.link, pins := t.pins } ∧
        Replied t f (.status .ok) ∧
        (Room s 1 → Queued t (.lineState origin (some .halted) .resume none .absent)) ∧
        (origin = .running ∨ s.lineEmpty = false →
          t.line = { s.line with state := origin, origin := none, cause := none } ∧ t.track.cells = s.track.cells ∧
          (∀ n, t.track.tracks.get? n = (s.track.tracks.get? n).map fun tr =>
            { tr with counter := 0, stalled := false, backedUp := tr.backedUp && decide (4 < tr.queue.length) }) ∧
          (∀ n tr, s.track.tracks.get? n = some tr → (tr.backedUp && decide (4 < tr.queue.length)) = false →
            t.time.timers.get? (n - 1) = some (min (s.time.lineTime + tr.stallLimit) 281474976710655)) ∧
          (origin = .draining →
            t.time.timers.get? 4 = some (min (s.time.lineTime + s.line.drainLimit * 1000) 281474976710655))) ∧
        (origin = .draining → s.lineEmpty = true →
          t.line = { s.line with state := .ready, origin := none, cause := none } ∧
          (Room s 2 → Queued t (.lineState .ready (some .draining) .drained none .absent))))

/-- R11, R69: CLEAR. Every live parcel is LOST in its lot's account, cells and queues are emptied, counters and marks cleared,
head pointers kept; the line enters READY or SETUP by the lock; LINE STATE carries the count. Bags, lanes, pallets, the
shuttle, trip latches and both declarations are untouched. R73: a lot that lost a parcel, is not current and has no live parcel,
bag or pallet left retires: its summary enters the queue and its slot becomes FREE, or it waits as RETIRING. That LINE STATE is
queued before the summaries is the model's choice (log 11). -/
def Obligations.ClearEndsTheHalt : Prop :=
  ∀ (s : State) (f : Frame), AtHand s .clear f → f.payload = [] → s.line.state = .halted →
    ∃ t, exec .clear s = .next t ∧
      t = { s with line := t.line, track := t.track, parcel := t.parcel, link := t.link, pins := t.pins } ∧
      t.line = { s.line with state := if s.comm.locked then .ready else .setup, origin := none, cause := none } ∧
      t.track.cells = [] ∧
      (∀ n, t.track.tracks.get? n = (s.track.tracks.get? n).map fun tr =>
        { tr with counter := 0, backedUp := false, stalled := false, queue := [] }) ∧
      t.parcel.parcels = [] ∧ t.parcel.current = s.parcel.current ∧ t.parcel.staged = s.parcel.staged ∧
      t.parcel.lastSeq = s.parcel.lastSeq ∧
      (∀ slot l l', s.parcel.lots.get? slot = some l → l' = { l with lost := l.lost + s.liveOf slot, live := l.live - s.liveOf slot } →
        (s.parcel.current = some slot ∨ (∀ e ∈ s.parcel.parcels, e.2.slot ≠ slot) ∨ l'.live ≠ 0 ∨ l.bagRefs ≠ 0 ∨ l.palletRefs ≠ 0 ∨
            l.retired ≠ none →
          t.parcel.lots.get? slot = some l') ∧
        (s.parcel.current ≠ some slot → (∃ e ∈ s.parcel.parcels, e.2.slot = slot) → l'.live = 0 → l.bagRefs = 0 → l.palletRefs = 0 →
          l.retired = none → slot < 16 → s.parcel.lots.wf = true →
          t.parcel.lots.get? slot = none ∧ Queued t (.lotSummary slot { l' with retired := some s.time.lineTime }) ∨
          t.parcel.lots.get? slot = some { l' with retired := some s.time.lineTime } ∧ .lotSummary slot ∈ t.link.waiting)) ∧
      (Room s 1 → Queued t (.lineState (if s.comm.locked then .ready else .setup) (some .halted) .clear none
        (.lost s.parcel.parcels.length))) ∧
      Replied t f (.status .ok)

/-! ### Resets and power -/

/-- R15, R170, R184: the assertion of the line reset pin. Every output is withdrawn, every counter held at 0, the frame in
transmission cut short, and a RUNNING proving record ends ABORTED with its PROVING RESULT owed; the line state record stands. A
second assertion changes nothing. R15, R32, R56, R77, R99, R118, R142, R162: what a line reset leaves and queues, by RESET LINE
and by the release of the pin. R183, R191: the requests behind RESET LINE are discarded, the replies made before it are kept ahead of
its own, and a frame in transmission goes to its end. That edges taken and not yet delivered are kept (log 40), that a reply
leaves its place in the step that chooses it (log 15), and that the entry of a notice in transmission is gone from the queue at
RESET LINE (log 32), is the model's choice; that every re-fired TRIP notice gives pallet number 0 and, as its
event time, the present line time, for a level a sample caused too, is the model's reading (log 20); which cause it names (log 20
too) is left open here. -/
def Obligations.PinAndLineReset : Prop :=
  (∀ s : State, s.powered = true →
     (s.pin = true → exec .lineResetPinAssert s = .next s.finish) ∧
     (s.pin = false → ∃ t, exec .lineResetPinAssert s = .next t ∧
       t = { s with pin := true, track := t.track, parcel := t.parcel, comm := t.comm, link := t.link, pins := t.pins } ∧
       t.pins = { trackRun := [false, false, false, false], infeedRun := false, gates := [false, false, false, false]
                  sealDemand := [false, false, false, false], station := 0, jobValid := false } ∧
       t.link.transmitter = .idle ∧ t.link.receive = s.link.receive ∧
       (∀ n, t.track.tracks.get? n = (s.track.tracks.get? n).map fun tr => { tr with counter := 0 }) ∧
       (s.comm.record.result ≠ .running → t.comm = s.comm ∧ t.parcel = s.parcel) ∧
       (∀ r, s.comm.record = ⟨.running, some r⟩ →
         t.comm = { s.comm with record := ⟨.aborted, some { r with ended := some s.time.lineTime }⟩, owed := true } ∧
         t.parcel.current = none))) ∧
  (∀ (s : State) (f : Frame), Taken s .resetLine f → f.payload = [] →
    ∃ t, exec .resetLine s = .next t ∧ ResetFrom s t ∧ Replied t f (.status .ok) ∧ t.link.busy = [] ∧
      (∀ before after, s.link.receive = before ++ .waiting f :: after → (∀ x ∈ before, ∃ r, x = .answered r) →
        ∃ kept, kept = before ++ [.answered ⟨replyKind f.kind, f.tag, .status .ok⟩] ∧
          (s.link.transmitter ≠ .idle → t.link.receive = kept) ∧
          (s.link.transmitter = .idle → ∃ r, kept = .answered r :: t.link.receive ∧ t.link.transmitter = .reply r)) ∧
      (∀ n q, s.link.transmitter = .notice n q → t.link.transmitter = .notice n false) ∧
      ∀ r, s.link.transmitter = .reply r → t.link.transmitter = .reply r) ∧
  (∀ s : State, s.powered = true → s.pin = true →
    ∃ t, exec .lineResetPinRelease s = .next t ∧ ResetFrom s t ∧ t.link.receive = [] ∧ t.link.busy = [] ∧
      t.link.receiver = none) ∧
  ∀ s : State, s.powered = true → s.pin = false → exec .lineResetPinRelease s = .next s.finish

/-- R16, R31, R55, R76, R98, R117, R141, R161, R174, R176, R178, R191: power-on from a VALID or an INVALID image, and the loss
of power, which leaves the image INVALID when a save was in flight. That a POWER ON of a powered part is a power cycle, and
what an unpowered part holds, are the model's choice (log 14); so are the released line reset pin (log 37) and the 0 as the
start of the last round before there was one (log 39). -/
def Obligations.PowerOnAndLoss : Prop :=
  (∀ (s : State) (seen : List FieldInput) (a b : Bool) (d : StoredSet), seen.all FieldInput.ok = true →
    d = (if s.store.save.isSome then none else s.store.image).getD StoredSet.factory →
    ∃ t, exec (.powerOn seen a b) s = .next t ∧ t.powered = true ∧ t.pin = false ∧
      t.line = { state := if d.locked then .ready else .setup, origin := none, cause := none, drainLimit := d.drainLimit } ∧
      t.time.lineTime = 0 ∧ t.time.trim = 0 ∧ t.time.accumulator = 0 ∧ t.time.timers = [] ∧ t.time.expired = [] ∧
      t.time.filters = FieldInput.all.map (fun i => (i, ⟨decide (i ∈ seen), 0, none⟩)) ∧ t.time.edges = [] ∧
      t.track = { tracks := d.tracks.mapVals fun _ x =>
                    { segments := x.segments, pulses := x.pulses, group := x.group, stallLimit := x.stallLimit, mode := x.mode
                      staged := none, head := 0, counter := 0, backedUp := false, stalled := false, zones := x.zones
                      queue := [] }
                  cells := [] } ∧
      t.parcel = { parcels := [], lots := [], current := none, staged := none, lastSeq := 65535 } ∧
      t.credit = { rates := d.rates, recipes := d.recipes, chains := Table.fill (fun _ => ⟨none, 0⟩) 1 16
                   outfeedNotices := false } ∧
      t.probe = { channels := t.probe.channels
                  external := d.bindings.mapVals fun i b => ⟨b, decide (FieldInput.externalTrip i ∈ seen)⟩
                  exposure := ⟨false, d.exposureRoute⟩, shuttleFault := ⟨false, d.shuttleRoute⟩, period := d.period
                  nextRound := 1, lastRound := 0, remaining := [], exchange := none } ∧
      (∀ c x, 1 ≤ c → c ≤ 16 → d.channels.get? c = some x →
        ∃ ch, t.probe.channels.get? c = some ch ∧ PoweredChannel x ch ∧ (∀ m, ch.conditions.look m = t.forced c m) ∧
          ch.latches = ch.conditions) ∧
      t.dist = { live := d.classMap, staged := none, pointers := [1, 2, 3, 4, 5, 6, 7].map fun c => (c, ⟨none, 0⟩)
                 lanes := [1, 2, 3, 4].map fun n => (n, ⟨.closed, none, false, decide (FieldInput.readyIn n ∈ seen)⟩)
                 lane0 := ⟨0, 0, 0, 0, 0, 0⟩, openGate := none, pendingGate := none, deadTime := d.deadTime, bags := []
                 lastBag := 0 } ∧
      t.transfer = { pallets := [], waiting := []
                     shuttle := { state := .idle, job := none, jobValid := false, cause := none, stranded := none
                                  acceptLevel := decide (FieldInput.acceptIn ∈ seen)
                                  loadedLevel := decide (FieldInput.loadedIn ∈ seen)
                                  doneLevel := decide (FieldInput.doneIn ∈ seen)
                                  faultLevel := decide (FieldInput.faultIn ∈ seen) }
                     jobLimit := d.jobLimit, lastPallet := 0, lastReady := 0 } ∧
      (s.store.save ≠ none ∨ s.store.image = none → d = StoredSet.factory) ∧
      StoredSet.factory.tracks = [] ∧ StoredSet.factory.deadTime = 150 ∧ StoredSet.factory.jobLimit = 180 ∧
      StoredSet.factory.classMap = ([1, 2, 3, 4, 5, 6, 7].map fun c => (c, ⟨[], 1⟩)) ∧
      t.comm = { generation := d.generation, record := d.record, locked := d.locked
                 key := decide (FieldInput.commissionKey ∈ seen), owed := false } ∧
      t.store = { image := if s.store.save.isSome then none else s.store.image, save := none, owed := none } ∧
      t.link.baud = (if b then (if a then 921600 else 460800) else (if a then 230400 else 115200)) ∧
      t.link.receive = [] ∧ t.link.busy = [] ∧ t.link.waiting = [] ∧ t.link.receiver = none ∧
      (∃ more, t.link.notices = ⟨0, .lineState t.line.state none .powerOn none .absent⟩ :: more) ∧
      t.pins = { trackRun := [false, false, false, false], infeedRun := false, gates := [false, false, false, false]
                 sealDemand := [false, false, false, false], station := 0, jobValid := false }) ∧
  ∀ s : State, s.powered = true →
    ∃ t, exec .powerLoss s = .next t ∧ t.powered = false ∧
      t.store = { image := if s.store.save.isSome then none else s.store.image, save := none, owed := none } ∧
      t.pins = Pins.withdrawn

/-! ### The time base -/

/-- R17, R18, R25, R29, R15: one base millisecond. The step of line time with its accumulator; every ARMED timer whose due is
at or below the new line time becomes IDLE and its expiry waits for delivery, unless the pin is asserted; each filter that has
seen the other level five times in a row takes an edge with the new line time as its stamp. That expiries and edges wait for a
row of their own is the model's form (log 5). -/
def Obligations.BaseMillisecondSteps : Prop :=
  ∀ (s : State) (seen : List FieldInput), s.powered = true → (∀ i ∈ seen, i.ok = true) →
    ∃ t now sum, exec (.baseMillisecond seen) s = .next t ∧ t = { s with time := t.time, link := t.link, pins := t.pins } ∧
      sum = s.time.accumulator + s.time.trim.natAbs ∧
      now = min (s.time.lineTime + if sum < 1000000 then 1 else if 0 < s.time.trim then 2 else 0) 281474976710655 ∧
      t.time.lineTime = now ∧ t.time.accumulator = (if sum < 1000000 then sum else sum - 1000000) ∧
      t.time.trim = s.time.trim ∧ t.time.baseMs = s.time.baseMs + 1 ∧
      t.time.timers = s.time.timers.filter (fun e => decide (now < e.2)) ∧
      t.time.expired = (if s.pin = true then s.time.expired
        else s.time.expired ++ (s.time.timers.filter fun e => decide (e.2 ≤ now)).map fun e => TimerId.ofIndex e.1) ∧
      t.time.filters = (s.time.filters.map fun e =>
        (e.1,
          if decide (e.1 ∈ seen) = e.2.level then { e.2 with differs := 0 }
          else if e.2.differs + 1 < 5 then { e.2 with differs := e.2.differs + 1 }
          else ⟨decide (e.1 ∈ seen), 0, match e.1 with
            | .doorEye => some (decide (e.1 ∈ seen), now)
            | .sealIn _ => some (decide (e.1 ∈ seen), now)
            | _ => none⟩)) ∧
      t.time.edges = s.time.edges ++
        ((s.time.filters.filter fun e => decide (decide (e.1 ∈ seen) ≠ e.2.level ∧ 5 ≤ e.2.differs + 1)).map fun e =>
          ⟨e.1, decide (e.1 ∈ seen), now⟩)

/-- R21, R27, R112: TIME SET. In SETUP and READY a value in range replaces line time, every timer keeps its state and due, and
every chain record is discarded; a value above the range is refused BAD_VALUE, and the other line states refuse it
WRONG_STATE. -/
def Obligations.TimeSetReplacesLineTime : Prop :=
  ∀ (s : State) (f : Frame), AtHand s .timeSet f → f.payload.length = 6 →
    (s.line.state = .setup ∨ s.line.state = .ready →
      (leNat f.payload ≤ 140737488355327 →
        exec .timeSet s = .next (({ s with
          time := { s.time with lineTime := leNat f.payload }
          credit := { s.credit with chains := s.credit.chains.mapVals fun _ _ => ⟨none, 0⟩ } } :
            State).replied f (.timeSet (leNat f.payload)))) ∧
      (140737488355327 < leNat f.payload → exec .timeSet s = .next (s.replied f (.status .badValue)))) ∧
    (s.line.state ≠ .setup → s.line.state ≠ .ready → exec .timeSet s = .next (s.replied f (.status .wrongState)))

/-- R22: TIME TRIM, in every line state. A value in -500..+500 replaces the trim and sets the accumulator to 0; any other is
refused BAD_VALUE and nothing changes. -/
def Obligations.TimeTrimReplacesTrim : Prop :=
  ∀ (s : State) (f : Frame), AtHand s .timeTrim f → f.payload.length = 2 →
    (-500 ≤ leInt f.payload ∧ leInt f.payload ≤ 500 →
      exec .timeTrim s = .next (({ s with time := { s.time with trim := leInt f.payload, accumulator := 0 } } :
        State).replied f (.status .ok))) ∧
    (¬(-500 ≤ leInt f.payload ∧ leInt f.payload ≤ 500) → exec .timeTrim s = .next (s.replied f (.status .badValue)))

/-- R79, R132, R158: SAMPLING SET, DEAD TIME SET and JOB LIMIT SET. A value in range replaces the working setting and nothing
else; any other is refused BAD_VALUE. -/
def Obligations.WorkingSettingsAreReplaced : Prop :=
  (∀ (s : State) (f : Frame), AtHand s .samplingSet f → f.payload.length = 2 →
    exec .samplingSet s = .next (
      if 200 ≤ leNat f.payload ∧ leNat f.payload ≤ 2000 ∧ leNat f.payload % 100 = 0 then
        ({ s with probe := { s.probe with period := leNat f.payload } } : State).replied f (.status .ok)
      else s.replied f (.status .badValue))) ∧
  (∀ (s : State) (f : Frame), Taken s .deadTimeSet f → f.payload.length = 2 →
    exec .deadTimeSet s = .next (
      if leNat f.payload ≤ 2000 then
        ({ s with dist := { s.dist with deadTime := leNat f.payload } } : State).replied f (.status .ok)
      else s.replied f (.status .badValue))) ∧
  ∀ (s : State) (f : Frame), AtHand s .jobLimitSet f → f.payload.length = 2 →
    exec .jobLimitSet s = .next (
      if 10 ≤ leNat f.payload ∧ leNat f.payload ≤ 600 then
        ({ s with transfer := { s.transfer with jobLimit := leNat f.payload } } : State).replied f (.status .ok)
      else s.replied f (.status .badValue))

/-! ### Reads -/

/-- R20, R54, R97, R177: TIME READ, PROVING READ, TRACK READ and CHANNEL READ answer from the records and change nothing. R65,
R75, R140, R160, R186: PARCEL READ, LOT READ, BAG READ and PALLET READ answer from the records and change nothing. What a
PALLET READ of number 0 makes of a part (log 43), and that an input's level is the one last delivered (log 46), is the model's
choice. -/
def Obligations.RecordsAreRead : Prop :=
  ((∀ (s : State) (f : Frame), AtHand s .timeRead f → f.payload = [] →
     exec .timeRead s = .next (s.replied f (.timeRead
       { time := s.time.lineTime, trim := s.time.trim, accumulator := s.time.accumulator
         timers := [0, 1, 2, 3, 4, 5, 6, 7, 8, 9, 10, 11, 12, 13, 14].map fun n => s.time.timers.get? n
         edges := [FieldInput.doorEye, .sealIn 1, .sealIn 2, .sealIn 3, .sealIn 4].map s.time.lastEdge }))) ∧
   (∀ (s : State) (f : Frame), AtHand s .provingRead f → f.payload = [] →
     ∃ r, exec .provingRead s = .next (s.replied f (.provingRead r)) ∧ r.record = s.comm.record ∧
       r.generation = s.comm.generation ∧ r.locked = s.comm.locked ∧ r.key = s.comm.key ∧
       r.store = (if s.store.save.isSome then .busy else if s.store.image.isSome then .valid else .invalid) ∧
       r.save = s.store.save.map fun v => v.kind) ∧
   (∀ (s : State) (f : Frame) (n a0 a1 c0 c1 : Byte), AtHand s .trackRead f → f.payload = [n, a0, a1, c0, c1] →
     (s.track.tracks.get? n.toNat = none → exec .trackRead s = .next (s.replied f (.status .notFound))) ∧
     ∀ tr, s.track.tracks.get? n.toNat = some tr →
       (1 ≤ leNat [c0, c1] ∧ leNat [c0, c1] ≤ 400 ∧ leNat [a0, a1] + leNat [c0, c1] ≤ tr.segments →
         exec .trackRead s = .next (s.replied f (.trackRead
           { segments := tr.segments, pulses := tr.pulses, group := tr.group, stallLimit := tr.stallLimit, mode := tr.mode
             staged := tr.staged, zones := s.track.zoneMap.filter fun z => decide (z.track = n.toNat)
             head := tr.head, counter := tr.counter, run := s.line.state.runs && !tr.backedUp, backedUp := tr.backedUp
             stalled := tr.stalled
             queue := if n.toNat < s.track.tracks.length then
                 some (tr.queue.filterMap fun k => (s.parcel.parcels.get? k).map fun p => p.seq)
               else none
             positions := (List.range (leNat [c0, c1])).map fun i =>
               (s.track.cells.get? (s.track.cellOf n.toNat tr (leNat [a0, a1] + i))).bind fun k =>
                 (s.parcel.parcels.get? k).map fun p => p.seq }))) ∧
       (¬(1 ≤ leNat [c0, c1] ∧ leNat [c0, c1] ≤ 400 ∧ leNat [a0, a1] + leNat [c0, c1] ≤ tr.segments) →
         exec .trackRead s = .next (s.replied f (.status .badValue)))) ∧
   ∀ (s : State) (f : Frame) (c : Byte), AtHand s .channelRead f → f.payload = [c] →
     (c = 0 → ∃ r, exec .channelRead s = .next (s.replied f (.probeSummary r)) ∧ r.period = s.probe.period ∧
       r.lastRound = s.probe.lastRound ∧ r.exposure = s.probe.exposure ∧ r.shuttleFault = s.probe.shuttleFault ∧
       r.infeedHold = s.infeedHold ∧ r.latches = s.latchCount) ∧
     (∀ ch, c ≠ 0 → s.probe.channels.get? c.toNat = some ch →
       ∃ r, exec .channelRead s = .next (s.replied f (.channelRead r)) ∧ r.channel = ch ∧
         (r.staleHolds = true ↔ ch.state = .stale) ∧
         r.zones = (s.track.zoneMap.filter fun z => decide (z.channel = some c.toNat)).map fun z => z.id) ∧
     (c ≠ 0 → s.probe.channels.get? c.toNat = none → exec .channelRead s = .next (s.replied f (.status .badValue)))) ∧
  (∀ (s : State) (f : Frame) (a b : Byte), AtHand s .parcelRead f → f.payload = [a, b] →
    ((∀ e ∈ s.parcel.parcels, e.2.seq ≠ (b ++ a : Seq)) → exec .parcelRead s = .next (s.replied f (.status .notFound))) ∧
    ∀ k p, s.parcel.parcels.first? (fun _ q => decide (q.seq = (b ++ a : Seq))) = some (k, p) →
      ∃ r, exec .parcelRead s = .next (s.replied f (.parcelRead r)) ∧ r.index = k ∧ r.parcel = p ∧
        ∀ l, s.parcel.lots.get? p.slot = some l → r.code = l.code) ∧
  (∀ (s : State) (f : Frame) (k : Byte), AtHand s .lotRead f → f.payload = [k] →
    (15 < k.toNat → exec .lotRead s = .next (s.replied f (.status .badValue))) ∧
    (k.toNat ≤ 15 → ∃ r, exec .lotRead s = .next (s.replied f (.lotRead r)) ∧ r.staged = s.parcel.staged ∧
      (s.parcel.lots.get? k.toNat = none → r.state = .free ∧ r.lot = none) ∧
      ∀ l, s.parcel.lots.get? k.toNat = some l → r.state = (if l.retired.isSome then .retiring else .active) ∧
        ∃ named, r.lot = some (l, decide (s.parcel.current = some k.toNat), named))) ∧
  (∀ (s : State) (f : Frame), AtHand s .bagRead f → f.payload.length = 3 →
    (leNat f.payload = 0 → ∃ r, exec .bagRead s = .next (s.replied f (.distribution r)) ∧ r.live = s.dist.live ∧
      r.staged = s.dist.staged ∧ r.pointers = s.dist.pointers ∧ r.lanes = s.dist.lanes ∧ r.lane0 = s.dist.lane0 ∧
      r.openGate = s.dist.openGate ∧ r.pendingGate = s.dist.pendingGate ∧ r.gateDue = s.time.timers.get? 5 ∧
      r.deadTime = s.dist.deadTime ∧ r.lastBag = s.dist.lastBag ∧ r.bags = s.dist.bags.map fun e => (e.2.number, e.2.state)) ∧
    (∀ k b, leNat f.payload ≠ 0 → s.dist.findBag (leNat f.payload) = some (k, b) →
      exec .bagRead s = .next (s.replied f (.bagRead k b))) ∧
    (leNat f.payload ≠ 0 → (∀ e ∈ s.dist.bags, e.2.number ≠ leNat f.payload) →
      exec .bagRead s = .next (s.replied f (.status .notFound)))) ∧
  ∀ (s : State) (f : Frame) (a b : Byte) (part : List Byte), AtHand s .palletRead f → f.payload = a :: b :: part →
    part.length ≤ 1 →
    (part ≠ [] → part ≠ [1] → part ≠ [2] → exec .palletRead s = .next (s.replied f (.status .badValue))) ∧
    (part = [] ∨ part = [1] ∨ part = [2] →
      (leNat [a, b] = 0 → ∃ r, exec .palletRead s = .next (s.replied f (.transfer r)) ∧ r.shuttle = s.transfer.shuttle ∧
        r.jobDue = s.time.timers.get? 14 ∧ r.jobLimit = s.transfer.jobLimit ∧ r.lastPallet = s.transfer.lastPallet ∧
        r.lastReady = s.transfer.lastReady ∧ r.waiting = s.transfer.waiting) ∧
      (∀ k p, leNat [a, b] ≠ 0 → s.transfer.findPallet (leNat [a, b]) = some (k, p) →
        ∃ r, exec .palletRead s = .next (s.replied f (.palletRead r)) ∧ r.pallet = { p with bags := [] } ∧ r.record = k ∧
          r.due = s.time.timers.get? (5 + k) ∧ r.bagCount = p.bags.length ∧
          r.entries = (if part = [2] then p.bags.drop 60 else p.bags.take 60)) ∧
      (leNat [a, b] ≠ 0 → (∀ e ∈ s.transfer.pallets, e.2.number ≠ leNat [a, b]) →
        exec .palletRead s = .next (s.replied f (.status .notFound))))

/-! ### The track unit -/

/-- R34, R33, R163, R164: TRACK DEFINE's checks in their order, and what an accepted definition or removal does. An edit makes
a PASS record NONE and blank (log 24), and that a removal empties the queue of the track before it is the model's reading
(log 35). -/
def Obligations.TrackDefineDefines : Prop :=
  ∀ (s : State) (f : Frame) (n s0 s1 p0 p1 g l0 l1 m : Byte), Taken s .trackDefine f →
    f.payload = [n, s0, s1, p0, p1, g, l0, l1, m] →
    ∀ others : Nat, others = ((s.track.tracks.filter fun e => decide (e.1 ≠ n.toNat)).map fun e => e.2.segments).sum →
    ∀ inRange : Prop, inRange = (16 ≤ leNat [s0, s1] ∧ leNat [s0, s1] ≤ 512 ∧ 1 ≤ leNat [p0, p1] ∧ leNat [p0, p1] ≤ 65535 ∧
      g.toNat ≤ 2 ∧ 100 ≤ leNat [l0, l1] ∧ leNat [l0, l1] ≤ 10000 ∧ m.toNat ≤ 2) →
    (n.toNat < 1 ∨ 4 < n.toNat ∨ s.track.tracks.length + 1 < n.toNat →
      exec .trackDefine s = .next (s.replied f (.status .badValue))) ∧
    (1 ≤ n.toNat → n.toNat ≤ 4 → n.toNat ≤ s.track.tracks.length + 1 → leNat [s0, s1] = 0 →
      (n.toNat ≠ s.track.tracks.length → exec .trackDefine s = .next (s.replied f (.status .badValue))) ∧
      (n.toNat = s.track.tracks.length → CommissionInFlight s → exec .trackDefine s = .next (s.replied f (.status .busy))) ∧
      (n.toNat = s.track.tracks.length → ¬CommissionInFlight s → s.track.tracks.wf = true →
        ∃ t, exec .trackDefine s = .next t ∧
          t = { s with track := t.track, comm := t.comm, link := t.link, pins := t.pins } ∧ Edited s t ∧
          t.track.cells = s.track.cells ∧ t.track.tracks.get? n.toNat = none ∧
          (∀ k, k ≠ n.toNat → k + 1 ≠ n.toNat → t.track.tracks.get? k = s.track.tracks.get? k) ∧
          (∀ k, k + 1 = n.toNat → t.track.tracks.get? k = (s.track.tracks.get? k).map fun tr => { tr with queue := [] }) ∧
          Replied t f (.status .ok))) ∧
    (1 ≤ n.toNat → n.toNat ≤ 4 → n.toNat ≤ s.track.tracks.length + 1 → leNat [s0, s1] ≠ 0 →
      (¬inRange → exec .trackDefine s = .next (s.replied f (.status .badValue))) ∧
      (inRange → 1000 < leNat [s0, s1] + others → exec .trackDefine s = .next (s.replied f (.status .badValue))) ∧
      (inRange → leNat [s0, s1] + others ≤ 1000 →
        (s.track.tracks.get? n.toNat = none → 16 ≤ s.track.zoneMap.length →
          exec .trackDefine s = .next (s.replied f (.status .full))) ∧
        (s.track.tracks.get? n.toNat ≠ none ∨ s.track.zoneMap.length < 16 →
          (CommissionInFlight s → exec .trackDefine s = .next (s.replied f (.status .busy))) ∧
          (¬CommissionInFlight s → ∃ t mode, exec .trackDefine s = .next t ∧
            t = { s with track := t.track, comm := t.comm, link := t.link, pins := t.pins } ∧ Edited s t ∧
            t.track.cells = s.track.cells ∧ mode.number = m.toNat ∧
            (∀ k, k ≠ n.toNat → t.track.tracks.get? k = s.track.tracks.get? k) ∧
            (∃ tr, t.track.tracks.get? n.toNat = some tr ∧ tr.segments = leNat [s0, s1] ∧ tr.pulses = leNat [p0, p1] ∧
              tr.group = g.toNat ∧ tr.stallLimit = leNat [l0, l1] ∧ tr.mode = mode ∧ tr.staged = none ∧ tr.head = 0 ∧
              tr.counter = 0 ∧ tr.backedUp = false ∧ tr.stalled = false ∧ tr.zones = [⟨leNat [s0, s1], .plain, none⟩]) ∧
            Replied t f (.status .ok)))))

/-- R37, R36, R163, R164: ZONE DEFINE's checks in their order; an accepted list replaces the track's zones and no other's. R48,
R116: NOTICE MODE SET, with and without the outfeed notice setting. The mode is staged and the setting takes its value at once;
nothing else changes, the generation included. An edit makes a PASS record NONE and blank (log 24). That a flag above 1 is
refused and a channel behind flag 0 ignored is the model's reading (log 17), and so are the bytes 0 for ON and 1 for OFF of the
outfeed setting, any other refused (logs 17, 18). That this refusal comes before NOT_FOUND is its choice (log 44). -/
def Obligations.ZonesAndModesAreSet : Prop :=
  (∀ (s : State) (f : Frame) (n k : Byte) (rest : List Byte) (es : List ZoneEntry), Taken s .zoneDefine f →
     f.payload = n :: k :: rest → rest.length = 5 * k.toNat → es = zoneEntries rest →
     (s.track.tracks.get? n.toNat = none → exec .zoneDefine s = .next (s.replied f (.status .notFound))) ∧
     ∀ tr, s.track.tracks.get? n.toNat = some tr →
       ∀ others : Nat, others = ((s.track.tracks.filter fun e => decide (e.1 ≠ n.toNat)).map fun e => e.2.zones.length).sum →
       (k.toNat = 0 ∨ 8 < k.toNat → exec .zoneDefine s = .next (s.replied f (.status .badValue))) ∧
       (1 ≤ k.toNat → k.toNat ≤ 8 → (∃ e ∈ es, e.length = 0) → exec .zoneDefine s = .next (s.replied f (.status .badValue))) ∧
       (1 ≤ k.toNat → k.toNat ≤ 8 → (∃ e ∈ es, 3 < e.kind ∨ 1 < e.flag ∨
           ((e.kind = 0 ∨ e.kind = 2) ∧ (e.flag = 0 ∨ e.channel = 0 ∨ 16 < e.channel)) ∨ ((e.kind = 1 ∨ e.kind = 3) ∧ e.flag = 1)) →
         exec .zoneDefine s = .next (s.replied f (.status .badValue))) ∧
       (∀ zs : List Zone, 1 ≤ k.toNat → k.toNat ≤ 8 → (∀ z ∈ zs, 1 ≤ z.length ∧
             ((z.kind = .blanch ∨ z.kind = .freeze) → ∃ c, z.channel = some c ∧ 1 ≤ c ∧ c ≤ 16) ∧
             (z.kind = .cool ∨ z.kind = .plain → z.channel = none)) →
           List.Forall₂ (fun e z => e.length = z.length ∧ e.kind = z.kind.number ∧ (z.channel = none → e.flag = 0) ∧
             ∀ c, z.channel = some c → e.flag = 1 ∧ e.channel = c) es zs →
         ((zs.map fun z => z.length).sum ≠ tr.segments → exec .zoneDefine s = .next (s.replied f (.status .badValue))) ∧
         ((zs.map fun z => z.length).sum = tr.segments → 16 < others + zs.length →
           exec .zoneDefine s = .next (s.replied f (.status .full))) ∧
         ((zs.map fun z => z.length).sum = tr.segments → others + zs.length ≤ 16 → CommissionInFlight s →
           exec .zoneDefine s = .next (s.replied f (.status .busy))) ∧
         ((zs.map fun z => z.length).sum = tr.segments → others + zs.length ≤ 16 → ¬CommissionInFlight s →
           ∃ t, exec .zoneDefine s = .next t ∧
             t = { s with track := t.track, comm := t.comm, link := t.link, pins := t.pins } ∧ Edited s t ∧
             t.track.cells = s.track.cells ∧ t.track.tracks.get? n.toNat = some { tr with zones := zs } ∧
             (∀ j, j ≠ n.toNat → t.track.tracks.get? j = s.track.tracks.get? j) ∧ Replied t f (.status .ok)))) ∧
  ∀ (s : State) (f : Frame) (n m : Byte) (o : List Byte), AtHand s .noticeModeSet f → f.payload = n :: m :: o → o.length ≤ 1 →
    (n.toNat < 1 ∨ 4 < n.toNat ∨ 2 < m.toNat ∨ (o ≠ [] ∧ o ≠ [0] ∧ o ≠ [1]) →
      exec .noticeModeSet s = .next (s.replied f (.status .badValue))) ∧
    (1 ≤ n.toNat → n.toNat ≤ 4 → m.toNat ≤ 2 → o = [] ∨ o = [0] ∨ o = [1] →
      (s.track.tracks.get? n.toNat = none → exec .noticeModeSet s = .next (s.replied f (.status .notFound))) ∧
      (s.track.tracks.get? n.toNat ≠ none → ∃ mode : NoticeMode, mode.number = m.toNat ∧
        exec .noticeModeSet s = .next (({ s with
          track := { s.track with tracks := s.track.tracks.modify n.toNat fun tr => { tr with staged := some mode } }
          credit := { s.credit with
            outfeedNotices := if o = [0] then true else if o = [1] then false else s.credit.outfeedNotices } } :
              State).replied f (.status .ok))))

/-- R42: DIVIDER RESET. A group above 2 is refused BAD_VALUE and a group without a defined track NOT_FOUND; otherwise the
counter of every defined track of the group is 0, and nothing else changes. Outside SETUP, READY and HALTED it is refused
WRONG_STATE. In SETUP, READY and HALTED counters at 0 are held there: a pulse changes nothing, whichever tracks count it. -/
def Obligations.DividerResetClearsCounters : Prop :=
  (∀ (s : State) (input : Nat) (presence : Bool), s.powered = true → 1 ≤ input → input ≤ 4 →
    s.line.state = .setup ∨ s.line.state = .ready ∨ s.line.state = .halted →
    (∀ n ∈ s.track.counted input, ∀ tr, s.track.tracks.get? n = some tr → tr.counter = 0) →
    ∃ d, exec (.encoderPulse input presence) s = .next ({ s with draws := d } : State).finish) ∧
  ∀ (s : State) (f : Frame) (g : Byte), AtHand s .dividerReset f → f.payload = [g] →
    (s.line.state = .proving ∨ s.line.state = .running ∨ s.line.state = .draining →
      exec .dividerReset s = .next (s.replied f (.status .wrongState))) ∧
    (s.line.state = .setup ∨ s.line.state = .ready ∨ s.line.state = .halted →
      (2 < g.toNat → exec .dividerReset s = .next (s.replied f (.status .badValue))) ∧
      (g.toNat ≤ 2 → (∀ e ∈ s.track.tracks, e.2.group ≠ g.toNat) →
        exec .dividerReset s = .next (s.replied f (.status .notFound))) ∧
      (g.toNat ≤ 2 → (∃ e ∈ s.track.tracks, e.2.group = g.toNat) →
        exec .dividerReset s = .next (({ s with track := { s.track with
          tracks := s.track.tracks.mapVals fun _ tr => if tr.group = g.toNat then { tr with counter := 0 } else tr } } :
            State).replied f (.status .ok))))

/-! ### Pulses and indexes -/

/-- R39, R40, R52, R9: a pulse on an encoder input that one defined track counts. A held counter does not count. A counting one
re-arms the stall timer while RUN is asserted; below its pulses-per-segment it grows by one, and nothing else changes. R40,
R38, R46: the pulse that completes a segment returns the counter to 0 and indexes the track: its head pointer grows by one,
modulo its segment count, and a staged notice mode is live. A pulse that several tracks of a link group count is a pulse at each
of them, in an order the rules leave open (log 8), each judged by the line state the members before it have left, the model's
choice (log 38); where no counter completes a segment, each grows by one. R47: by the mode live after the index, EVERY queues an
INDEX notice, ZONE queues one when a parcel that stays on the track enters a zone, and OFF queues none. -/
def Obligations.PulsesCountAndIndex : Prop :=
  ((∀ (s : State) (input n : Nat), TracksInOrder s → (n ∈ s.track.counted input ↔
     ∃ tr, s.track.tracks.get? n = some tr ∧ (tr.group = 0 → input = n) ∧
       (tr.group ≠ 0 → (∃ m, s.track.tracks.get? input = some m ∧ m.group = tr.group) ∧
         ∀ k m, s.track.tracks.get? k = some m → m.group = tr.group → input ≤ k))) ∧
   ∀ (s : State) (input : Nat) (presence : Bool), s.powered = true → 1 ≤ input → input ≤ 4 →
     (s.track.counted input = [] → exec (.encoderPulse input presence) s = .next s.finish) ∧
     ∀ n tr, s.track.counted input = [n] → s.track.tracks.get? n = some tr →
       (s.pin = true ∨ s.line.state = .setup ∨ s.line.state = .ready ∨ (s.line.state = .halted ∧ tr.counter = 0) →
         exec (.encoderPulse input presence) s = .next s.finish) ∧
       (s.pin = false → s.line.state.runs = true ∨ (s.line.state = .halted ∧ 0 < tr.counter) → tr.counter + 1 < tr.pulses →
         exec (.encoderPulse input presence) s = .next ({ s with
           track := { s.track with tracks := s.track.tracks.modify n fun x => { x with counter := x.counter + 1 } }
           time := if s.line.state.runs = true ∧ tr.backedUp = false then
               { s.time with timers :=
                 s.time.timers.put (n - 1) (min (s.time.lineTime + tr.stallLimit) 281474976710655) }
             else s.time } : State).finish)) ∧
  (∀ (s : State) (input n : Nat) (presence : Bool) (tr : Track), s.powered = true → s.pin = false → 1 ≤ input → input ≤ 4 →
    s.track.counted input = [n] → s.track.tracks.get? n = some tr →
    s.line.state.runs = true ∨ (s.line.state = .halted ∧ 0 < tr.counter) → tr.pulses ≤ tr.counter + 1 →
    ∃ t tr', exec (.encoderPulse input presence) s = .next t ∧ t.track.tracks.get? n = some tr' ∧ tr'.counter = 0 ∧
      tr'.head = (tr.head + 1) % tr.segments ∧ tr'.mode = tr.staged.getD tr.mode ∧ tr'.staged = none ∧
      tr'.segments = tr.segments ∧ tr'.pulses = tr.pulses ∧ tr'.zones = tr.zones) ∧
  (∀ (s : State) (input n : Nat) (presence : Bool) (tr : Track) (mode : NoticeMode) (moved : Prop), Indexes s input n tr →
    s.parcel.parcels.wf = true → mode = tr.staged.getD tr.mode →
    moved = (∃ k p pos z, s.parcel.parcels.get? k = some p ∧ p.loc = .track n pos ∧
      s.track.cells.get? (s.track.cellOf n tr (tr.segments - 1)) ≠ some k ∧ s.track.zoneAt n (pos + 1) = some z ∧
      s.track.zoneId n pos ≠ some z.id) →
    ∃ t, exec (.encoderPulse input presence) s = .next t ∧
      (mode = .every ∨ (mode = .zone ∧ moved) → Room s 8 →
        Queued t (.index n ((tr.head + 1) % tr.segments) s.time.lineTime)) ∧
      (mode = .off ∨ (mode = .zone ∧ ¬moved) →
        ∀ x ∈ t.link.notices, x ∈ s.link.notices ∨ ∀ m head time, x.body ≠ .index m head time)) ∧
  (∀ (s : State) (input : Nat) (presence : Bool), s.powered = true → 1 ≤ input → input ≤ 4 →
    ∃ d order, order.Perm (s.track.counted input) ∧
      exec (.encoderPulse input presence) s = .next (State.each (State.pulse presence) order { s with draws := d }).finish) ∧
  ∀ (s : State) (input : Nat) (presence : Bool), s.powered = true → s.pin = false → 1 ≤ input → input ≤ 4 → TracksInOrder s →
    (∀ n ∈ s.track.counted input, ∀ tr, s.track.tracks.get? n = some tr → tr.counter + 1 < tr.pulses ∨
      s.line.state = .setup ∨ s.line.state = .ready ∨ (s.line.state = .halted ∧ tr.counter = 0)) →
    ∃ t, exec (.encoderPulse input presence) s = .next t ∧
      t = { s with track := t.track, time := t.time, link := t.link, pins := t.pins, draws := t.draws } ∧
      t.track.cells = s.track.cells ∧
      (∀ n, t.track.tracks.get? n = (s.track.tracks.get? n).map fun tr =>
        if n ∈ s.track.counted input ∧ (s.line.state.runs = true ∨ (s.line.state = .halted ∧ 0 < tr.counter)) then
          { tr with counter := tr.counter + 1 }
        else tr) ∧
      t.time = { s.time with timers := t.time.timers } ∧
      (∀ n tr, n ∈ s.track.counted input → s.track.tracks.get? n = some tr → s.line.state.runs = true → tr.backedUp = false →
        t.time.timers.get? (n - 1) = some (min (s.time.lineTime + tr.stallLimit) 281474976710655)) ∧
      ∀ k, (∀ n ∈ s.track.counted input, n - 1 ≠ k) → t.time.timers.get? k = s.time.timers.get? k

/-- R38: position p is held in ring cell (h - p) mod S of the track's run; an index adds 1 to h, modulo S; after it the cell
that held position p holds position p + 1, and the cell that held position S - 1 is the cell of position 0. R36: a track's zones
divide its positions from 0 on, with ids counted on along the line. R44, R106: at an index of track n a parcel that remains on it
stands one position further on; in a new zone it has entered that zone as `EnteredZone` says (its `movedAt` and `past` are the
model's own, log 36), and otherwise nothing else of it changes. A parcel of another track is left as it is. -/
def Obligations.RingCellsFollowTheHead : Prop :=
  (∀ (u : TrackUnit) (n : Nat) (tr : Track) (p : Nat), tr.head < tr.segments → p < tr.segments →
    (u.cellOf n tr p : Int) = cellBase n u.tracks + ((tr.head : Int) - p) % tr.segments ∧
    (p + 1 < tr.segments → u.cellOf n { tr with head := (tr.head + 1) % tr.segments } (p + 1) = u.cellOf n tr p) ∧
    (p + 1 = tr.segments → u.cellOf n { tr with head := (tr.head + 1) % tr.segments } 0 = u.cellOf n tr p)) ∧
  (∀ (s : State) (n stamp : Nat) (tr : Track), s.track.tracks.get? n = some tr →
    (s.advance n stamp).track.tracks.get? n = some { tr with head := (tr.head + 1) % tr.segments }) ∧
  (∀ (u : TrackUnit) (n i pos start : Nat) (tr : Track), inOrder u.tracks = true → u.tracks.get? n = some tr →
    start = ((tr.zones.take i).map fun z => z.length).sum →
    (∀ z, tr.zones[i]? = some z → start ≤ pos → pos < start + z.length →
      u.zoneAt n pos = some ⟨((u.tracks.filter fun e => decide (e.1 < n)).map fun e => e.2.zones.length).sum + i, n, start,
        z.length, z.kind, z.channel⟩) ∧
    (tr.zones.length ≤ i → start ≤ pos → u.zoneAt n pos = none)) ∧
  ∀ (s : State) (input n : Nat) (presence : Bool) (tr : Track) (k : Nat) (p : Parcel) (m pos : Nat), Indexes s input n tr →
    s.parcel.parcels.get? k = some p → p.loc = .track m pos →
    s.track.cells.get? (s.track.cellOf n tr (tr.segments - 1)) ≠ some k →
    (∀ j x, s.track.tracks.get? j = some x → k ∉ x.queue) →
    ∃ t p', exec (.encoderPulse input presence) s = .next t ∧ t.parcel.parcels.get? k = some p' ∧
      (m ≠ n → p' = p) ∧
      (m = n → (s.track.zoneAt n (pos + 1) = none ∨ s.track.zoneId n (pos + 1) = s.track.zoneId n pos →
          p' = { p with loc := .track n (pos + 1) }) ∧
        ∀ z, s.track.zoneAt n (pos + 1) = some z → s.track.zoneId n pos ≠ some z.id →
          EnteredZone s z { p with loc := .track n (pos + 1) } p')

/-- R43, R49, R50: a parcel that leaves a track that is not the last joins the tail of its handover queue, in no zone; when the
queue holds 8 it is LOST in its lot's account, LOST is queued, and the track is BACKED_UP with its stall timer cancelled. An
empty last cell lets nothing leave. R45: an index of track n above 1 takes the oldest entry of queue n - 1 to position 0, where it
enters the zone, and every other entry moves up; an empty queue leaves the cell empty. R51: with 4 or fewer entries left, in a
running state, a BACKED_UP track n - 1 regains RUN with its stall timer armed. `movedAt` and `past` are the model's own record of
the zone entry (log 36). -/
def Obligations.DepartureJoinsTheQueue : Prop :=
  (∀ (s : State) (n stamp : Nat) (tr : Track), n < s.track.tracks.length → s.track.tracks.get? n = some tr →
    (s.track.cells.get? (s.track.cellOf n tr (tr.segments - 1)) = none → s.depart n tr stamp = s) ∧
    ∀ k p, s.track.cells.get? (s.track.cellOf n tr (tr.segments - 1)) = some k → s.parcel.parcels.get? k = some p →
      (tr.queue.length < 8 →
        (s.depart n tr stamp).track.tracks.get? n = some { tr with queue := tr.queue ++ [k] } ∧
        (s.depart n tr stamp).parcel.parcels.get? k =
          some { p with
            loc := .queue n (tr.queue.length + 1), zone := none, armed := false, movedAt := s.time.baseMs
            past := (if p.movedAt = s.time.baseMs then p.past else []) ++ [⟨p.zone, p.armed⟩] } ∧
        (s.depart n tr stamp).parcel.lots = s.parcel.lots) ∧
      (8 ≤ tr.queue.length →
        (∃ tr', (s.depart n tr stamp).track.tracks.get? n = some tr' ∧ tr'.backedUp = true ∧ tr'.queue = tr.queue) ∧
        (s.depart n tr stamp).parcel.parcels = s.parcel.parcels.del k ∧
        (s.time.timers.wf = true → (s.depart n tr stamp).time.timers.get? (n - 1) = none) ∧
        (∀ l, s.parcel.lots.get? p.slot = some l → s.parcel.current = some p.slot →
          (s.depart n tr stamp).parcel.lots.get? p.slot = some { l with lost := l.lost + 1, live := l.live - 1 }) ∧
        (s.link.notices.length + 2 ≤ 32 → s.link.waiting = [] → Queued (s.depart n tr stamp) (.lost p.seq p.slot n stamp)))) ∧
  ∀ (s : State) (input n : Nat) (presence : Bool) (tr x : Track) (cell : Nat), Indexes s input n tr → 2 ≤ n → n ≤ 4 →
    s.track.tracks.get? (n - 1) = some x → tr.head < tr.segments → cell = s.track.cellOf n tr (tr.segments - 1) →
    s.track.cells.wf = true →
    (x.queue = [] → ∃ t, exec (.encoderPulse input presence) s = .next t ∧ t.track.cells.get? cell = none) ∧
    ∀ k rest p place, x.queue = k :: rest → s.parcel.parcels.get? k = some p → p.loc = .queue (n - 1) place →
      s.track.cells.get? cell ≠ some k →
      (∀ run, s.comm.record = ⟨.running, some run⟩ → run.entries.length + 1 < run.count) →
      ∃ t p', exec (.encoderPulse input presence) s = .next t ∧ t.track.cells.get? cell = some k ∧
        t.parcel.parcels.get? k = some p' ∧
        (∀ z, s.track.zoneAt n 0 = some z → EnteredZone s z { p with loc := .track n 0 } p') ∧
        (∀ j q i, j ≠ k → s.track.cells.get? cell ≠ some j → s.parcel.parcels.get? j = some q → q.loc = .queue (n - 1) i →
          t.parcel.parcels.get? j = some { q with loc := .queue (n - 1) (i - 1) }) ∧
        (x.backedUp = true ∧ rest.length ≤ 4 ∧ s.line.state.runs = true →
          t.track.tracks.get? (n - 1) = some { x with queue := rest, backedUp := false } ∧
          t.time.timers.get? (n - 2) = some (min (s.time.lineTime + x.stallLimit) 281474976710655) ∧
          t.pins.trackRun[n - 2]? = some true) ∧
        (¬(x.backedUp = true ∧ rest.length ≤ 4 ∧ s.line.state.runs = true) →
          t.track.tracks.get? (n - 1) = some { x with queue := rest } ∧
          t.time.timers.get? (n - 2) = s.time.timers.get? (n - 2))

/-- R45, R61: at an index of track 1 whose last cell is empty and with no staged declaration, a parcel is created when infeed RUN
and presence are asserted, a lot is current, a record is free and, in PROVING, fewer test parcels were created than the run asks
for: it takes the lowest free record, the next number, the lot's recipe, class and proving mark, and the freed cell, and the
lot's counts grow, and it has entered the zone of position 0. Otherwise nothing is recorded. R9, R43, R61: the same with any last
cell and any staged declaration, after the departure of R43: in DRAINING, at a coasting index in HALTED, without a current lot, and
with no record free (which chapter 4 rules out) no parcel is created and the cell of position 0 stays empty. R59, R46: at an index
of track 1 a staged declaration becomes current under the lot that carries its code and no proving mark, ACTIVE again where it was
RETIRING; without one it takes the lowest FREE slot for a new lot; with none free it stays staged, and LOT TABLE FULL is queued
once. What `movedAt` and `past` hold in a new record and after its zone entry is the model's choice (log 36), that a revived lot's
retirement time is absent its reading (log 23). -/
def Obligations.IndexOfTrackOneCreates : Prop :=
  (∀ (s : State) (input : Nat) (presence : Bool) (tr : Track) (slot : Nat) (l : Lot) (k : Nat), s.powered = true →
    s.pin = false → 1 ≤ input → input ≤ 4 → s.track.counted input = [1] → s.track.tracks.get? 1 = some tr →
    tr.head < tr.segments → s.line.state = .running ∨ s.line.state = .proving → tr.pulses ≤ tr.counter + 1 →
    s.track.cells.get? (s.track.cellOf 1 tr (tr.segments - 1)) = none → s.parcel.staged = none →
    s.parcel.current = some slot → s.parcel.lots.get? slot = some l → s.parcel.parcels.freeKey 0 1024 = some k →
    (∀ run, s.comm.record = ⟨.running, some run⟩ → run.entries.length < run.count) →
    ∀ may : Prop, may = (presence = true ∧ s.infeedHold = false ∧
      (s.line.state = .proving → ∃ run, s.comm.record.run = some run ∧ l.created.toNat < run.count)) →
    ∃ t, exec (.encoderPulse input presence) s = .next t ∧
      (may →
        ∃ p q, q = freeSeq s.parcel.parcels 1024 (s.parcel.lastSeq + 1) ∧ t.parcel.lastSeq = q ∧
          t.parcel.parcels.get? k = some p ∧ p.seq = q ∧ p.slot = slot ∧ p.recipe = l.recipe ∧ p.cls = l.cls ∧
          p.loc = .track 1 0 ∧ p.created = s.time.lineTime ∧ p.credit = 0 ∧ p.armed = false ∧ p.deviation.manual = false ∧
          p.proving = l.proving ∧
          (∀ z, s.track.zoneAt 1 0 = some z → EnteredZone s z
            { seq := q, slot := slot, recipe := l.recipe, cls := l.cls, loc := .track 1 0, created := s.time.lineTime
              freezerEntry := none, credit := 0, zone := none, armed := false, deviation := ⟨false, false, false⟩
              proving := l.proving, movedAt := 0, past := [] } p) ∧
          t.parcel.lots.get? slot = some { l with
            created := l.created + 1, live := l.live + 1, lastSeq := some q, firstSeq := some (l.firstSeq.getD q) } ∧
          t.track.cells.get? (s.track.cellOf 1 tr (tr.segments - 1)) = some k) ∧
      (¬may → t.parcel.lots = s.parcel.lots ∧ t.parcel.lastSeq = s.parcel.lastSeq ∧
        t.parcel.parcels.length = s.parcel.parcels.length ∧ t.track.cells = s.track.cells)) ∧
  (∀ (s s1 : State) (input : Nat) (presence : Bool) (tr : Track) (cell : Nat), Indexes s input 1 tr → tr.head < tr.segments →
    s.track.cells.wf = true → s.parcel.parcels.wf = true → cell = s.track.cellOf 1 tr (tr.segments - 1) →
    s1 = ({ s with
        track := { s.track with tracks := s.track.tracks.modify 1 fun x => { x with counter := 0 } }
        time := if s.line.state.runs = true ∧ tr.backedUp = false then
            { s.time with timers := s.time.timers.put 0 (min (s.time.lineTime + tr.stallLimit) 281474976710655) }
          else s.time } : State).depart 1 { tr with counter := 0 } s.time.lineTime →
    (∀ run, s.comm.record = ⟨.running, some run⟩ → run.entries.length + 1 < run.count) →
    ∀ may : Nat → Lot → Nat → Prop, (∀ slot l k, may slot l k ↔
      (s.line.state = .running ∨ s.line.state = .proving) ∧ presence = true ∧ s.infeedHold = false ∧
        s.parcel.current = some slot ∧ s1.parcel.lots.get? slot = some l ∧ s1.parcel.parcels.freeKey 0 1024 = some k ∧
        (s.line.state = .proving → ∃ run, s.comm.record.run = some run ∧ l.created.toNat < run.count)) →
    ∃ t, exec (.encoderPulse input presence) s = .next t ∧
      (∀ slot l k, may slot l k →
        ∃ p q, q = freeSeq s1.parcel.parcels 1024 (s1.parcel.lastSeq + 1) ∧ t.parcel.lastSeq = q ∧
          t.parcel.parcels.get? k = some p ∧ t.track.cells.get? cell = some k ∧
          (s.track.zoneAt 1 0 = none → p = Parcel.new q slot l s.time.lineTime) ∧
          (∀ z, s.track.zoneAt 1 0 = some z → EnteredZone s z (Parcel.new q slot l s.time.lineTime) p) ∧
          (s.parcel.staged = none → t.parcel.lots.get? slot = some { l with
            created := l.created + 1, live := l.live + 1, lastSeq := some q, firstSeq := some (l.firstSeq.getD q) })) ∧
      ((∀ slot l k, ¬may slot l k) →
        t.parcel.lastSeq = s.parcel.lastSeq ∧ t.track.cells.get? cell = none ∧
        (∀ k, s.parcel.parcels.get? k = none → t.parcel.parcels.get? k = none) ∧
        (s.parcel.staged = none → t.parcel.lots = s1.parcel.lots)) ∧
      (s.line.state = .draining ∨ s.line.state = .halted ∨ s.parcel.current = none ∨
          (∀ k, k < 1024 → s1.parcel.parcels.get? k ≠ none) →
        ∀ slot l k, ¬may slot l k)) ∧
  ∀ (s : State) (input : Nat) (presence : Bool) (tr : Track) (d : Staged), s.powered = true → s.pin = false → 1 ≤ input →
    input ≤ 4 → s.track.counted input = [1] → s.track.tracks.get? 1 = some tr →
    s.line.state.runs = true ∨ (s.line.state = .halted ∧ 0 < tr.counter) → tr.pulses ≤ tr.counter + 1 →
    s.track.cells.get? (s.track.cellOf 1 tr (tr.segments - 1)) = none → s.parcel.staged = some d → s.parcel.lots.wf = true →
    (∀ run, s.comm.record = ⟨.running, some run⟩ → run.entries.length < run.count) →
    ∃ t, exec (.encoderPulse input presence) s = .next t ∧
      (∀ slot l, s.parcel.lots.first? (fun _ x => decide (x.code = d.code) && !x.proving) = some (slot, l) →
        t.parcel.current = some slot ∧ t.parcel.staged = none ∧ Retained.lotSummary slot ∉ (
          if l.retired.isSome then t.link.waiting else []) ∧
        ∃ l', t.parcel.lots.get? slot = some l' ∧ l'.code = d.code ∧ l'.retired = none) ∧
      ((∀ e ∈ s.parcel.lots, e.2.code = d.code → e.2.proving = true) →
        (∀ k, s.parcel.lots.freeKey 0 16 = some k → t.parcel.current = some k ∧ t.parcel.staged = none ∧
          t.parcel.lots.get? k = some
            { code := d.code, recipe := d.recipe, cls := d.cls, proving := false, created := 0, released := 0, held := 0
              redirected := 0, lost := 0, bagsAccepted := 0, bagsRejected := 0, palletsStored := 0, palletsQuarantined := 0
              firstSeq := none, lastSeq := none, live := 0, bagRefs := 0, palletRefs := 0, retired := none }) ∧
        (s.parcel.lots.freeKey 0 16 = none → t.parcel.current = s.parcel.current ∧
          t.parcel.staged = some { d with tableFull := true } ∧
          (d.tableFull = false → Room s 1 → Queued t (.lotTableFull d.code s.time.lineTime))))

/-! ### Parcels and lots -/

/-- R62: a new parcel takes the first number above the last issued, modulo 65,536, that no live parcel holds, and the number
taken becomes the last issued. -/
def Obligations.SequenceNumbersAreFresh : Prop :=
  (∀ (t : Table Parcel) (q : Seq), t.length ≤ 1024 → ∃ j, j < 65536 ∧ freeSeq t 1024 q = q + BitVec.ofNat 16 j ∧
    (∀ e ∈ t, e.2.seq ≠ freeSeq t 1024 q) ∧ ∀ i, i < j → ∃ e ∈ t, e.2.seq = q + BitVec.ofNat 16 i) ∧
  ∀ (s : State) (slot : Nat) (l : Lot) (k stamp : Nat) (q : Seq), q = freeSeq s.parcel.parcels 1024 (s.parcel.lastSeq + 1) →
    (s.createParcel slot l k stamp).parcel.lastSeq = q ∧
    ((s.createParcel slot l k stamp).parcel.parcels.get? k).map (fun p => p.seq) = some q

/-- R58: INFEED DECLARE, available in READY, RUNNING, DRAINING and HALTED. A recipe, class or code out of its range, the
reserved code, and a code that a lot in the table holds with another recipe or class are refused BAD_VALUE; otherwise the
declaration is staged with its table-full flag clear, and nothing else changes. In SETUP and PROVING it is refused
WRONG_STATE. -/
def Obligations.InfeedDeclareStages : Prop :=
  ∀ (s : State) (f : Frame) (code : List Byte) (r c : Byte), AtHand s .infeedDeclare f → code.length = 12 →
    f.payload = code ++ [r, c] →
    (s.line.state = .setup ∨ s.line.state = .proving → exec .infeedDeclare s = .next (s.replied f (.status .wrongState))) ∧
    (s.line.state ≠ .setup → s.line.state ≠ .proving →
    ∀ ok : Prop, ok = (r.toNat ≤ 15 ∧ c.toNat ≤ 7 ∧ (∀ x ∈ code, 0x20 ≤ x ∧ x ≤ 0x7E) ∧ (∃ x ∈ code, x ≠ 0x20) ∧
      code ≠ [0x50, 0x52, 0x4F, 0x56, 0x49, 0x4E, 0x47, 0x20, 0x20, 0x20, 0x20, 0x20] ∧
      ∀ e ∈ s.parcel.lots, e.2.code = code → e.2.recipe = r.toNat ∧ e.2.cls = c.toNat) →
    (ok → exec .infeedDeclare s =
      .next (({ s with parcel := { s.parcel with staged := some ⟨code, r.toNat, c.toNat, false⟩ } } : State).replied f
        (.status .ok))) ∧
    (¬ok → exec .infeedDeclare s = .next (s.replied f (.status .badValue))))

/-- R66, R67: HOLD RANGE adds MANUAL to every live parcel whose number lies in the range, which runs through 65,535 when its
last number is below its first, and CLEAR HOLD RANGE removes it; TRIP and GAP stand, and nothing else changes. The replies
count the live parcels in the range and those that changed. -/
def Obligations.HoldRangesMarkParcels : Prop :=
  ∀ (s : State) (f : Frame) (a b c d : Byte) (low high : Seq) (isIn : Parcel → Bool), f.payload = [a, b, c, d] →
    low = b ++ a → high = d ++ c →
    (∀ p, isIn p = true ↔ (if low ≤ high then low ≤ p.seq ∧ p.seq ≤ high else low ≤ p.seq ∨ p.seq ≤ high)) →
    (AtHand s .holdRange f → exec .holdRange s = .next (({ s with
      parcel := { s.parcel with
        parcels := s.parcel.parcels.mapVals fun _ p =>
          if isIn p then { p with deviation := { p.deviation with manual := true } } else p } } : State).replied f
          (.rangeCounts (s.parcel.parcels.filter fun e => isIn e.2).length
            (s.parcel.parcels.filter fun e => isIn e.2 && !e.2.deviation.manual).length))) ∧
    (AtHand s .clearHoldRange f → exec .clearHoldRange s = .next (({ s with
      parcel := { s.parcel with
        parcels := s.parcel.parcels.mapVals fun _ p =>
          if isIn p then { p with deviation := { p.deviation with manual := false } } else p } } : State).replied f
          (.rangeCounts (s.parcel.parcels.filter fun e => isIn e.2).length
            (s.parcel.parcels.filter fun e => isIn e.2 && e.2.deviation.manual).length)))

/-! ### The probe unit -/

/-- R81, R112, R163, R164: CHANNEL SET's checks in their order. An accepted edit writes address, enable and role; when enable
or address has changed the channel starts afresh and its chain is discarded, its latches and last-fault time stay. An edit
makes a PASS record NONE and blank (log 24). That an enable byte above 1 is refused is the model's reading (log 17). -/
def Obligations.ChannelSetWritesTheChannel : Prop :=
  ∀ (s : State) (f : Frame) (c a e r : Byte), Taken s .channelSet f → f.payload = [c, a, e, r] →
    ∀ bad : Prop, bad = (c.toNat < 1 ∨ 16 < c.toNat ∨ a.toNat < 1 ∨ 16 < a.toNat ∨ 1 < e.toNat ∨ 1 < r.toNat ∨
      (r = 1 ∧ ∃ x ∈ s.probe.channels, x.1 ≠ c.toNat ∧ x.2.role = .exit) ∨
      (e = 1 ∧ ∃ x ∈ s.probe.channels, x.1 ≠ c.toNat ∧ x.2.enabled = true ∧ x.2.address = a.toNat)) →
    (bad → exec .channelSet s = .next (s.replied f (.status .badValue))) ∧
    (¬bad → CommissionInFlight s → exec .channelSet s = .next (s.replied f (.status .busy))) ∧
    (¬bad → ¬CommissionInFlight s → ∀ ch, s.probe.channels.get? c.toNat = some ch →
      ∃ t ch', exec .channelSet s = .next t ∧ Edited s t ∧ Replied t f (.status .ok) ∧
        t = { s with probe := t.probe, credit := t.credit, comm := t.comm, link := t.link, pins := t.pins } ∧
        t.probe.channels.get? c.toNat = some ch' ∧
        (∀ k, k ≠ c.toNat → t.probe.channels.get? k = s.probe.channels.get? k) ∧
        ch'.address = a.toNat ∧ (ch'.enabled = true ↔ e = 1) ∧ (ch'.role = .exit ↔ r = 1) ∧ ch'.offset = ch.offset ∧
        ch'.levels = ch.levels ∧ ch'.hysteresis = ch.hysteresis ∧ ch'.latches = ch.latches ∧ ch'.staleLatch = ch.staleLatch ∧
        ch'.routes = ch.routes ∧ ch'.staleRoute = ch.staleRoute ∧ ch'.lastFault = ch.lastFault ∧
        (ch'.enabled = ch.enabled → ch'.address = ch.address → t.credit = s.credit ∧ ch'.state = ch.state ∧
          ch'.lastValue = ch.lastValue ∧ ch'.lastSample = ch.lastSample ∧ ch'.overRange = ch.overRange ∧
          ch'.misses = ch.misses ∧ ch'.lastMiss = ch.lastMiss ∧ ch'.results = ch.results ∧ ch'.conditions = ch.conditions ∧
          t.probe.exchange = s.probe.exchange) ∧
        (ch'.enabled ≠ ch.enabled ∨ ch'.address ≠ ch.address →
          t.credit = { s.credit with chains := s.credit.chains.put c.toNat ⟨none, 0⟩ } ∧
          ch'.state = (if e = 1 then .waiting else .off) ∧ ch'.lastValue = none ∧ ch'.lastSample = none ∧
          ch'.overRange = false ∧ ch'.misses = 0 ∧ ch'.lastMiss = none ∧ ch'.results = ⟨false, false, false, false⟩ ∧
          ch'.conditions = ⟨s.forced c.toNat .lowCrit, s.forced c.toNat .low, s.forced c.toNat .high, s.forced c.toNat .highCrit⟩ ∧
          ∀ x, s.probe.exchange = some x → x.channel = c.toNat → t.probe.exchange = some { x with void := true }))

/-- R84, R85, R164: OFFSET STEP moves the offset one tenth within -50..+50 and advances the generation only when it changes it;
LEVELS SET writes levels and hysteresis, clears the sample results and forms the conditions from the external forcing. An edit
makes a PASS record NONE and blank (log 24). That OFFSET STEP judges its values before it looks for a save in flight is the
model's reading (log 18). -/
def Obligations.OffsetAndLevelsAreSet : Prop :=
  (∀ (s : State) (f : Frame) (c d : Byte), Taken s .offsetStep f → f.payload = [c, d] →
    (s.probe.channels.get? c.toNat = none ∨ (d.toInt ≠ 1 ∧ d.toInt ≠ -1) →
      exec .offsetStep s = .next (s.replied f (.status .badValue))) ∧
    ∀ ch offset, s.probe.channels.get? c.toNat = some ch → d.toInt = 1 ∨ d.toInt = -1 →
      offset = max (-50) (min 50 (ch.offset + d.toInt)) →
      (CommissionInFlight s → exec .offsetStep s = .next (s.replied f (.status .busy))) ∧
      (¬CommissionInFlight s → offset = ch.offset → exec .offsetStep s = .next (s.replied f (.offset ch.offset))) ∧
      (¬CommissionInFlight s → offset ≠ ch.offset → ∃ t, exec .offsetStep s = .next t ∧ Edited s t ∧
        t = { s with probe := t.probe, comm := t.comm, link := t.link, pins := t.pins } ∧ Replied t f (.offset offset) ∧
        t.probe = { s.probe with channels := s.probe.channels.modify c.toNat fun x => { x with offset := offset } })) ∧
  ∀ (s : State) (f : Frame) (c a0 a1 b0 b1 c0 c1 d0 d1 h : Byte), Taken s .levelsSet f →
    f.payload = [c, a0, a1, b0, b1, c0, c1, d0, d1, h] →
    ∀ ok : Prop, ok = (1 ≤ c.toNat ∧ c.toNat ≤ 16 ∧ -500 ≤ leInt [a0, a1] ∧ leInt [a0, a1] ≤ leInt [b0, b1] ∧
      leInt [b0, b1] < leInt [c0, c1] ∧ leInt [c0, c1] ≤ leInt [d0, d1] ∧ leInt [d0, d1] ≤ 1500 ∧ h.toNat ≤ 100) →
    (¬ok → exec .levelsSet s = .next (s.replied f (.status .badValue))) ∧
    (ok → CommissionInFlight s → exec .levelsSet s = .next (s.replied f (.status .busy))) ∧
    (ok → ¬CommissionInFlight s → ∃ t, exec .levelsSet s = .next t ∧ Edited s t ∧
      t = { s with probe := t.probe, comm := t.comm, link := t.link, pins := t.pins } ∧ Replied t f (.status .ok) ∧
      t.probe = { s.probe with
        channels := s.probe.channels.modify c.toNat fun x =>
          { x with
            levels := ⟨leInt [a0, a1], leInt [b0, b1], leInt [c0, c1], leInt [d0, d1]⟩, hysteresis := h.toNat
            results := ⟨false, false, false, false⟩
            conditions :=
              ⟨s.forced c.toNat .lowCrit, s.forced c.toNat .low, s.forced c.toNat .high, s.forced c.toNat .highCrit⟩ } })

/-- R88, R90, R93, R96, R164: ROUTE SET replaces one route and no other; EXTERNAL TRIP SET replaces a binding; TRIP ACK clears
a set latch whose condition does not hold, and no other. The conditions of the old and the new binding's channel are formed
again from sample results and forcing, and each that begins to hold sets its latch (R87, R88). An edit makes a PASS record NONE
and blank (log 24). That a flag above 1 is refused and the fields behind flag 0 are ignored is the model's reading (log 17); that
the level read is the one last delivered is its choice (log 46). -/
def Obligations.TripEditsAndAck : Prop :=
  (∀ (s : State) (f : Frame) (c n r : Byte), Taken s .routeSet f → f.payload = [c, n, r] →
    (TripSource.ofBytes? c.toNat n.toNat = none ∨ 16 ≤ r.toNat ∨ (c = 0 ∧ r.toNat.testBit 1 = true) →
      exec .routeSet s = .next (s.replied f (.status .badValue))) ∧
    ∀ x route, TripSource.ofBytes? c.toNat n.toNat = some x → r.toNat < 16 → ¬(c = 0 ∧ r.toNat.testBit 1 = true) →
      route = ⟨r.toNat.testBit 0, r.toNat.testBit 1, r.toNat.testBit 2, r.toNat.testBit 3⟩ →
      (CommissionInFlight s → exec .routeSet s = .next (s.replied f (.status .busy))) ∧
      (¬CommissionInFlight s → (∀ k, x.channel = some k → s.probe.channels.get? k ≠ none) →
        ∃ t, exec .routeSet s = .next t ∧ Edited s t ∧ Replied t f (.status .ok) ∧
          t = { s with probe := t.probe, comm := t.comm, link := t.link, pins := t.pins } ∧ t.route x = route ∧
          (∀ y, y ≠ x → t.route y = s.route y) ∧ (∀ y, t.latch y = s.latch y) ∧ ∀ y, t.condition y = s.condition y)) ∧
  (∀ (s : State) (f : Frame) (i g c l : Byte), Taken s .externalTripSet f → f.payload = [i, g, c, l] →
    ∀ bad : Prop, bad = (i.toNat < 1 ∨ 2 < i.toNat ∨ 1 < g.toNat ∨ (g = 1 ∧ (c.toNat < 1 ∨ 16 < c.toNat ∨ 1 < l.toNat))) →
    (bad → exec .externalTripSet s = .next (s.replied f (.status .badValue))) ∧
    (¬bad → CommissionInFlight s → exec .externalTripSet s = .next (s.replied f (.status .busy))) ∧
    (¬bad → ¬CommissionInFlight s → ∀ x, s.probe.external.get? i.toNat = some x →
      ∃ t, exec .externalTripSet s = .next t ∧ Edited s t ∧ Replied t f (.status .ok) ∧
        t.probe.external = s.probe.external.put i.toNat { x with
          binding := if g = 1 then some (c.toNat, if l = 1 then .highCrit else .high) else none } ∧
        (∀ y, s.latch y = true → t.latch y = true) ∧
        (∀ k ch, s.probe.channels.get? k = some ch →
          (x.binding.map fun b => b.1) = some k ∨ (g = 1 ∧ c.toNat = k) →
          ∃ ch', t.probe.channels.get? k = some ch' ∧ ch' = { ch with conditions := ch'.conditions, latches := ch'.latches } ∧
            (∀ m, ch'.conditions.look m = (ch.results.look m || t.forced k m)) ∧
            ∀ m, ch'.latches.look m = (ch.latches.look m || (ch'.conditions.look m && !ch.conditions.look m))) ∧
        ∀ k, (x.binding.map fun b => b.1) ≠ some k → ¬(g = 1 ∧ c.toNat = k) →
          t.probe.channels.get? k = s.probe.channels.get? k)) ∧
  ∀ (s : State) (f : Frame) (c n : Byte), AtHand s .tripAck f → f.payload = [c, n] →
    (TripSource.ofBytes? c.toNat n.toNat = none → exec .tripAck s = .next (s.replied f (.status .badValue))) ∧
    ∀ x, TripSource.ofBytes? c.toNat n.toNat = some x →
      (s.latch x = false → exec .tripAck s = .next (s.replied f (.tripAck false))) ∧
      (s.latch x = true → s.condition x = true → exec .tripAck s = .next (s.replied f (.status .stillActive))) ∧
      (s.latch x = true → s.condition x = false → ∃ t, exec .tripAck s = .next t ∧ Replied t f (.tripAck true) ∧
        t = { s with probe := t.probe, link := t.link, pins := t.pins } ∧ t.latch x = false ∧
        (∀ y, y ≠ x → t.latch y = s.latch y) ∧ (∀ y, t.route y = s.route y) ∧ ∀ y, t.condition y = s.condition y)

/-- R78, R79, R83: a round that is due polls its first enabled channel and stamps its start; one that is not due does nothing.
A window that closes without a whole frame is a miss with cause NO_ANSWER: the count grows to 3 at most, the third makes the
channel STALE, and the next enabled channel is polled. R83, R111: the third miss disarms the parcels in the channel's zones and
gives them GAP (`StaleMarks`); any other miss leaves every parcel as it is, and no miss changes a chain. That a row that is not due does nothing and an open window stays is the
model's reading (log 4); that the window opens in the step of the poll is its choice (log 16). -/
def Obligations.PollingRoundsAndMisses : Prop :=
  (∀ s : State, s.powered = true →
    (s.probe.exchange ≠ none ∨ s.probe.remaining ≠ [] ∨ s.time.baseMs < s.probe.nextRound →
      exec .pollRoundStart s = .next s.finish) ∧
    (s.probe.exchange = none → s.probe.remaining = [] → s.probe.nextRound ≤ s.time.baseMs → UnitsNumbered s →
      exec .pollRoundStart s = .next ({ s with probe := { s.probe with
        nextRound := s.time.baseMs + s.probe.period, lastRound := s.time.lineTime
        remaining := (s.probe.channels.filter fun e => e.2.enabled).tail.map fun e => e.1
        exchange := (s.probe.channels.filter fun e => e.2.enabled).head?.map fun e =>
          ⟨e.1, e.2.address, s.time.baseMs, false, []⟩ } } : State).finish)) ∧
  ∀ (s : State) (e : Exchange) (ch : Channel), s.powered = true → s.probe.exchange = some e →
    s.probe.channels.get? e.channel = some ch →
    (s.time.baseMs < e.opened + 25 → exec .answerWindowClose s = .next s.finish) ∧
    (e.opened + 25 ≤ s.time.baseMs → e.void = false →
      ∃ t ch', exec .answerWindowClose s = .next t ∧ t.probe.channels.get? e.channel = some ch' ∧
        ch'.misses = min 3 (ch.misses + 1) ∧ ch'.lastMiss = some .noAnswer ∧ ch'.lastValue = ch.lastValue ∧
        ch'.lastSample = ch.lastSample ∧ ch'.results = ch.results ∧
        ch'.state = (if 2 ≤ ch.misses ∧ (ch.state = .waiting ∨ ch.state = .live) then .stale else ch.state) ∧
        (ch'.state = .stale → ch.state ≠ .stale → ch'.staleLatch = true ∧ StaleMarks s t e.channel) ∧
        (ch'.state = ch.state → t.parcel = s.parcel) ∧ t.credit = s.credit ∧
        (s.probe.remaining = [] → t.probe.exchange = none) ∧
        ∀ k rest ck, s.probe.remaining = k :: rest → k ≠ e.channel → s.probe.channels.get? k = some ck → ck.enabled = true →
          t.probe.exchange = some ⟨k, ck.address, s.time.baseMs, false, []⟩ ∧ t.probe.remaining = rest)

/-- R78, R82, R86, R87, R81, R190: a whole sample frame inside the window. With a good CRC and the polled address it is a good
sample, clamped, stamped and judged against each level from the result held before, unless its fault flag makes it a miss with
the last-fault time; a bad CRC or another address is a miss with cause BAD_FRAME; a void exchange counts as neither. R82, step 6:
the good sample of a channel bound to a BLANCH zone is then handed to the credit unit, whose `creditSample` (CreditOfASample) finds
the chains as they were and the parcels with the TRIP marks of the conditions that have begun to hold (R92); that of another
channel leaves credit alone. R83, R111: the third miss disarms the parcels in the channel's zones and gives them GAP. -/
def Obligations.SampleFramesAreTaken : Prop :=
  ∀ (s : State) (e : Exchange) (ch : Channel) (a t0 t1 st k0 k1 : Byte), s.powered = true → s.probe.exchange = some e →
    e.bytes = [] → s.time.baseMs < e.opened + 25 → s.probe.channels.get? e.channel = some ch →
    (e.void = true → ∃ t, exec (.sampleFrame [0xC3, a, t0, t1, st, k0, k1]) s = .next t ∧
      t = { s with probe := t.probe, link := t.link, pins := t.pins } ∧ t.probe.channels = s.probe.channels) ∧
    (e.void = false → ∃ t ch', exec (.sampleFrame [0xC3, a, t0, t1, st, k0, k1]) s = .next t ∧
      t.probe.channels.get? e.channel = some ch' ∧ (e.channel ∉ s.probe.remaining → t.probe.exchange ≠ some e) ∧
      (crc [a, t0, t1, st] = k1 ++ k0 → a.toNat = e.address → st.getLsbD 0 = false →
        ∀ v, v = max (-500) (min 1500 (leInt [t0, t1] + ch.offset)) →
          ch'.state = .live ∧ ch'.misses = 0 ∧ ch'.lastValue = some v ∧ ch'.lastSample = some s.time.lineTime ∧
          (ch'.overRange = true ↔ v ≠ leInt [t0, t1] + ch.offset) ∧
          (ch'.results.high = true ↔
            if ch.results.high = true then ch.levels.high - ch.hysteresis ≤ v else ch.levels.high ≤ v) ∧
          (ch'.results.highCrit = true ↔
            if ch.results.highCrit = true then ch.levels.highCrit - ch.hysteresis ≤ v else ch.levels.highCrit ≤ v) ∧
          (ch'.results.low = true ↔ if ch.results.low = true then v ≤ ch.levels.low + ch.hysteresis else v ≤ ch.levels.low) ∧
          (ch'.results.lowCrit = true ↔
            if ch.results.lowCrit = true then v ≤ ch.levels.lowCrit + ch.hysteresis else v ≤ ch.levels.lowCrit) ∧
          (∀ l, ch'.conditions.look l = (ch'.results.look l || s.forced e.channel l)) ∧
          (∀ l, ch'.latches.look l = (ch.latches.look l || (ch'.conditions.look l && !ch.conditions.look l))) ∧
          (ch.state = .stale → Room s 1 → Queued t (.staleCleared e.channel v s.time.lineTime)) ∧
          ∃ u : State, LevelMarks s u e.channel ch.conditions ch'.conditions ∧ u.credit = s.credit ∧ u.track = s.track ∧
            u.time.baseMs = s.time.baseMs ∧ u.draws = s.draws ∧
            ((∃ z ∈ s.track.zoneMap, z.kind = .blanch ∧ z.channel = some e.channel) →
              ∃ w, w = u.creditSample e.channel v s.time.lineTime (decide (ch.state = .stale)) ∧ t.credit = w.credit ∧
                t.parcel = w.parcel ∧ t.draws = w.draws) ∧
            ((∀ z ∈ s.track.zoneMap, z.kind = .blanch → z.channel ≠ some e.channel) →
              t.credit = s.credit ∧ t.parcel = u.parcel ∧ t.draws = s.draws)) ∧
      (crc [a, t0, t1, st] = k1 ++ k0 → a.toNat = e.address → st.getLsbD 0 = true →
        ch'.lastFault = some s.time.lineTime ∧ ch'.lastMiss = some .sensorFault ∧ ch'.misses = min 3 (ch.misses + 1) ∧
          ch'.lastValue = ch.lastValue) ∧
      (¬(crc [a, t0, t1, st] = k1 ++ k0 ∧ a.toNat = e.address ∧ st.getLsbD 0 = false) → t.credit = s.credit ∧
        (ch'.state = ch.state → t.parcel = s.parcel) ∧
        (2 ≤ ch.misses → ch.state = .waiting ∨ ch.state = .live → ch'.state = .stale ∧ StaleMarks s t e.channel)) ∧
      (¬(crc [a, t0, t1, st] = k1 ++ k0 ∧ a.toNat = e.address) →
        ch'.lastMiss = some .badFrame ∧ ch'.misses = min 3 (ch.misses + 1) ∧ ch'.lastValue = ch.lastValue ∧
          ch'.lastFault = ch.lastFault))

/-- R89 to R94: an event that fires sets its source's latch and no other, queues TRIP when its route has NOTIFY, adds TRIP to
the parcels in the channel's zones when it has MARK_ZONE, and halts a running line when it has STOP_LINE. R93: the infeed hold is
in force exactly while one of the 82 sources is latched and its present route has HOLD_INFEED. That TRIP is queued
before the LINE STATE of the halt is the model's choice (log 11). -/
def Obligations.EventsPerformTheirRoute : Prop :=
  (TripSource.all.length = 82 ∧ TripSource.all.Nodup ∧ .exposure ∈ TripSource.all ∧ .shuttleFault ∈ TripSource.all ∧
    ∀ c l, 1 ≤ c → c ≤ 16 → .level c l ∈ TripSource.all ∧ .stale c ∈ TripSource.all) ∧
  (∀ s : State, s.infeedHold = true ↔ ∃ x ∈ TripSource.all, s.latch x = true ∧ (s.route x).holdInfeed = true) ∧
  (∀ (u : TrackUnit) (c : Nat) (p : Parcel), u.inZoneOf c p = true ↔
    ∃ n pos z, p.loc = .track n pos ∧ u.zoneAt n pos = some z ∧ z.channel = some c) ∧
  ∀ (s t : State) (x : TripSource) (cause : TripCause) (pallet time : Nat), t = s.fire x cause pallet time →
    (∀ k, x.channel = some k → s.probe.channels.get? k ≠ none) →
    t.latch x = true ∧ (∀ y, y ≠ x → t.latch y = s.latch y) ∧ (∀ y, t.route y = s.route y) ∧
    (∀ y, t.condition y = s.condition y) ∧ t.dist = s.dist ∧ t.transfer = s.transfer ∧ t.track = s.track ∧
    ((s.route x).notify = true → Room s 1 → Queued t (.trip x cause (s.tripChannel x) pallet (s.route x) time)) ∧
    (∀ c, x.channel = some c → (s.route x).markZone = true → t.parcel.parcels = s.parcel.parcels.mapVals fun _ p =>
      if s.track.inZoneOf c p then { p with deviation := { p.deviation with trip := true } } else p) ∧
    ((s.route x).markZone = false ∨ x.channel = none → t.parcel.parcels = s.parcel.parcels) ∧
    ((s.route x).stopLine = true → s.line.state.runs = true → s.pin = false →
      t.line = { s.line with state := .halted, origin := some s.line.state, cause := some (.trip x) }) ∧
    ((s.route x).stopLine = false ∨ s.line.state.runs = false ∨ s.pin = true → t.line = s.line ∧ t.time = s.time)

/-- R87, R89, R91: the edge of an external trip input sets its level; the conditions of the channel it is bound to are formed
again from sample result and forcing, and each that begins to hold sets its latch; a TRIP it causes carries the line time at
which the edge was taken. R171: an edge of the commission key sets the key
input state, and nothing else. -/
def Obligations.TripAndKeyEdges : Prop :=
  (∀ (s : State) (i : Nat) (e : Edge) (rest : List Edge) (x : ExternalTrip), s.powered = true → 1 ≤ i → i ≤ 2 →
     s.time.edges = e :: rest → e.input = .externalTrip i → s.probe.external.get? i = some x →
     (x.binding = none → exec (.externalTripEdge i) s = .next ({ s with
       time := { s.time with edges := rest }
       probe := { s.probe with external := s.probe.external.put i { x with level := e.rising } } } : State).finish) ∧
     ∀ c l ch, x.binding = some (c, l) → s.probe.channels.get? c = some ch →
       ∃ t ch', exec (.externalTripEdge i) s = .next t ∧
         t.probe.external = s.probe.external.put i { x with level := e.rising } ∧ t.time.edges = rest ∧
         t.probe.channels.get? c = some ch' ∧ ch'.results = ch.results ∧ ch'.state = ch.state ∧
         (∀ m, ch'.conditions.look m = (ch.results.look m || t.forced c m)) ∧
         (∀ m, ch'.latches.look m = (ch.latches.look m || (ch'.conditions.look m && !ch.conditions.look m))) ∧
         (e.rising = true → ch'.conditions.look l = true) ∧
         (e.rising = true → ch.conditions.look l = false → (ch.routes.look l).notify = true → Room s 8 →
           Queued t (.trip (.level c l) .external (some ⟨ch.lastValue, ch.overRange, ch.state, none⟩) 0 (ch.routes.look l)
             e.stamp))) ∧
  ∀ (s : State) (e : Edge) (rest : List Edge), s.powered = true → s.time.edges = e :: rest → e.input = .commissionKey →
    exec .commissionKeyEdge s = .next ({ s with
      time := { s.time with edges := rest }, comm := { s.comm with key := e.rising } } : State).finish

/-! ### The credit unit -/

/-- R101, R103, R104, R164: RATE TABLE SET, RECIPE THERMAL SET and RECIPE PACKING SET write what they name, the first two as
edits of the validated set. An edit makes a PASS record NONE and blank (log 24). -/
def Obligations.RatesAndRecipesAreSet : Prop :=
  (∀ (s : State) (f : Frame) (k : Byte) (rest : List Byte) (bands : List Band), Taken s .rateTableSet f →
    f.payload = k :: rest → rest.length = 4 * k.toNat → bands = bandEntries rest →
    ∀ ok : Prop, ok = (1 ≤ bands.length ∧ bands.length ≤ 24 ∧ (∀ b ∈ bands, -500 ≤ b.floor ∧ b.floor ≤ 1500) ∧
      bands.Pairwise fun b b' => b.floor < b'.floor ∧ b.weight ≤ b'.weight) →
    (¬ok → exec .rateTableSet s = .next (s.replied f (.status .badValue))) ∧
    (ok → CommissionInFlight s → exec .rateTableSet s = .next (s.replied f (.status .busy))) ∧
    (ok → ¬CommissionInFlight s → ∃ t, exec .rateTableSet s = .next t ∧ Edited s t ∧ Replied t f (.rateTable bands) ∧
      t = { s with credit := { s.credit with rates := bands }, comm := t.comm, link := t.link, pins := t.pins })) ∧
  (∀ (s : State) (f : Frame) (r c0 c1 c2 d0 d1 e0 e1 x0 x1 : Byte), Taken s .recipeThermalSet f →
    f.payload = [r, c0, c1, c2, d0, d1, e0, e1, x0, x1] →
    ∀ ok : Prop, ok = (r.toNat ≤ 15 ∧ 1 ≤ leNat [c0, c1, c2] ∧ leNat [c0, c1, c2] ≤ 16000000 ∧ 1 ≤ leNat [d0, d1] ∧
      leNat [d0, d1] ≤ 14400 ∧ -500 ≤ leInt [e0, e1] ∧ leInt [e0, e1] ≤ 1500 ∧ 60 ≤ leNat [x0, x1] ∧ leNat [x0, x1] ≤ 7200) →
    (¬ok → exec .recipeThermalSet s = .next (s.replied f (.status .badValue))) ∧
    (ok → CommissionInFlight s → exec .recipeThermalSet s = .next (s.replied f (.status .busy))) ∧
    ∀ old new, ok → ¬CommissionInFlight s → s.credit.recipes.get? r.toNat = some old →
      new = { old with requiredCredit := leNat [c0, c1, c2], minDwell := leNat [d0, d1], maxExit := leInt [e0, e1]
                       exposureLimit := leNat [x0, x1] } →
      ∃ t, exec .recipeThermalSet s = .next t ∧ Edited s t ∧ Replied t f (.recipe new) ∧
        t = { s with credit := { s.credit with recipes := s.credit.recipes.put r.toNat new }
                     comm := t.comm, link := t.link, pins := t.pins }) ∧
  ∀ (s : State) (f : Frame) (r a0 a1 b0 b1 n : Byte), Taken s .recipePackingSet f → f.payload = [r, a0, a1, b0, b1, n] →
    ∀ ok : Prop, ok = (r.toNat ≤ 15 ∧ 1 ≤ n.toNat ∧ n.toNat ≤ 120 ∧ leNat [a0, a1] ≤ leNat [b0, b1]) →
    (¬ok → exec .recipePackingSet s = .next (s.replied f (.status .badValue))) ∧
    ∀ old new, ok → s.credit.recipes.get? r.toNat = some old →
      new = { old with bagMin := leNat [a0, a1], bagMax := leNat [b0, b1], bagsPerPallet := n.toNat } →
      exec .recipePackingSet s = .next (({ s with credit := { s.credit with recipes := s.credit.recipes.put r.toNat new } } :
        State).replied f (.recipe new))

/-- R100: in a table whose floors rise strictly, the weight of a temperature is that of the band with the greatest floor at or
below it, and 0 below the first floor; with weights that never fall it never exceeds the weight of a hotter temperature. R107
to R110: the four cases of a sample at the credit unit: a start arms, a break disarms (with GAP after more than 6,000 ms), an
increment is the lower weight times the interval plus the residue, divided by 1000, and every armed parcel the sample reaches
gains it up to 16,000,000; the sample becomes the previous one. A parcel with zone entries at the same moment meets the sample
before or after each of them, for each parcel separately; which one is a free value. That 'the same moment' is one base
millisecond, and that a sample that ends STALE meets every parcel as it stands, is the model's choice (log 36). A parcel's
credit never falls. -/
def Obligations.CreditOfASample : Prop :=
  (∀ (bands : List Band) (v : Int), bands.Pairwise (fun b b' => b.floor < b'.floor ∧ b.weight ≤ b'.weight) →
     ((∀ b ∈ bands, v < b.floor) → weightOf bands v = 0) ∧
     (∀ b ∈ bands, b.floor ≤ v → (∀ b' ∈ bands, b'.floor ≤ v → b'.floor ≤ b.floor) → weightOf bands v = b.weight) ∧
     ∀ w, v ≤ w → weightOf bands v ≤ weightOf bands w) ∧
  (∀ (u : TrackUnit) (c : Nat) (p : Parcel), u.reached c p = true ↔
    ∃ z ∈ u.zoneMap, z.kind = .blanch ∧ p.zone = some z.id ∧ z.channel = some c) ∧
  ∀ (s t : State) (c : Nat) (v : Int) (now : Nat) (wasStale : Bool), t = s.creditSample c v now wasStale →
    ∀ ch, s.credit.chains.get? c = some ch →
    t = { s with credit := { s.credit with chains := t.credit.chains }
                 parcel := { s.parcel with parcels := t.parcel.parcels }, draws := t.draws } ∧
    (∀ k, k ≠ c → t.credit.chains.get? k = s.credit.chains.get? k) ∧
    (∀ (chain : Chain) (effect : Parcel → Parcel),
      (ch.previous = none ∧ chain = ⟨some (v, now), ch.residue⟩ ∧ effect = fun p => { p with armed := true }) ∨
      (∃ v' t', ch.previous = some (v', t') ∧ 6000 + t' < now ∧ chain = ⟨some (v, now), 0⟩ ∧
        effect = fun p => { p with armed := false, deviation := { p.deviation with gap := true } }) ∨
      (∃ v' t', ch.previous = some (v', t') ∧ now ≤ 6000 + t' ∧ wasStale = true ∧ chain = ⟨some (v, now), 0⟩ ∧
        effect = fun p => { p with armed := false }) ∨
      (∃ v' t' product, ch.previous = some (v', t') ∧ now ≤ 6000 + t' ∧ wasStale = false ∧
        product = min (weightOf s.credit.rates v') (weightOf s.credit.rates v) * (now - t') + ch.residue ∧
        chain = ⟨some (v, now), product % 1000⟩ ∧
        effect = fun p => if p.armed = true then { p with credit := min (p.credit + product / 1000) 16000000 }
          else { p with armed := true }) →
      t.credit.chains.get? c = some chain ∧
      (wasStale = true ∨ (∀ e ∈ s.parcel.parcels, e.2.movedAt ≠ s.time.baseMs ∨ e.2.past = []) → t.draws = s.draws ∧
        t.parcel.parcels = s.parcel.parcels.mapVals fun _ p => if s.track.reached c p then effect p else p) ∧
      (∀ k p, s.parcel.parcels.get? k = some p → wasStale = false → p.movedAt ≠ s.time.baseMs ∨ p.past = [] →
        t.parcel.parcels.get? k = some (if s.track.reached c p then effect p else p)) ∧
      (∀ k, s.parcel.parcels.get? k = none → t.parcel.parcels.get? k = none) ∧
      ∀ k p, s.parcel.parcels.get? k = some p → wasStale = false → p.movedAt = s.time.baseMs → p.past ≠ [] →
        t.parcel.parcels.get? k = some { (if s.track.reached c p then effect p else p) with past := [] } ∨
        ∃ before view after q, p.past = before ++ view :: after ∧ q = { p with zone := view.zone, armed := view.armed } ∧
          t.parcel.parcels.get? k = some { (if s.track.reached c q then effect q else q) with
            zone := p.zone, armed := p.armed, past := view :: after }) ∧
    ∀ k p p', s.parcel.parcels.get? k = some p → p.credit ≤ 16000000 → t.parcel.parcels.get? k = some p' →
      p.credit ≤ p'.credit ∧ p'.credit ≤ 16000000

/-- R113, R114: the reason set of a verdict: the deviation set, CREDIT_SHORT, DWELL_SHORT, EXIT_UNKNOWN and EXIT_WARM, each
exactly when the rule says. -/
def Obligations.VerdictHasExactlyItsReasons : Prop :=
  ∀ (s : State) (p : Parcel) (now : Nat) (r : Recipe), s.credit.recipes.get? p.recipe = some r →
    (s.verdict p now).seq = p.seq ∧ (s.verdict p now).time = now ∧
    ((s.verdict p now).reasons.trip = p.deviation.trip) ∧ ((s.verdict p now).reasons.gap = p.deviation.gap) ∧
    ((s.verdict p now).reasons.manual = p.deviation.manual) ∧
    ((s.verdict p now).reasons.creditShort = true ↔ p.credit < r.requiredCredit) ∧
    ((s.verdict p now).reasons.dwellShort = true ↔
      p.freezerEntry = none ∨ ∃ e, p.freezerEntry = some e ∧ now - e < r.minDwell * 1000) ∧
    ((s.verdict p now).reasons.exitUnknown = true ↔
      ¬∃ ch, s.probe.exitChannel = some ch ∧ ch.state = .live) ∧
    ((s.verdict p now).reasons.exitWarm = true ↔
      ∃ ch v, s.probe.exitChannel = some ch ∧ ch.state = .live ∧ ch.lastValue = some v ∧ r.maxExit < v)

/-! ### Distribution and bagging -/

/-- R119 to R130, R134: a parcel is diverted to a lane 1..4 only if its verdict is RELEASED, it carries no proving mark and its
class is not 0; the lane is then in its class's set, its gate is open, and its bag is of the parcel's lot. The first of
PROVING, HELD and CLASS_0 that applies is the cause for lane 0, and no lane, bag or run pointer changes by it. R126 to R129: an
ACCEPTING lane of the set with another lot's bag is sent to SEALING; without a candidate the cause is NO_LANE; the run pointer
keeps its lane below the run length, or moves to the next candidate; without bag and free record the lane is BLOCKED and the
cause NO_BAG; with gate b open the parcel goes through, otherwise the cause is GATE_BUSY. R133, R134: it joins the lane's open
bag, whose 255th parcel sends the lane to SEALING, or opens one in the lowest free record, with the next number. That the gate timer
counts as running until its expiry is delivered is the model's reading (log 6), that a request for lane 0 with no gate open leaves
a pending gate pending its choice (log 45). R43, R68, R113,
R116, R121, R125: an index of the last track gives the parcel of its last cell its verdict and its lane, frees its record, takes
the outcome into its lot's account, queues OUTFEED where the setting asks for it, and makes a staged class map live. -/
def Obligations.OnlyReleasedParcelsAreDiverted : Prop :=
  (∀ (s t : State) (p : Parcel) (v : VerdictRecord) (r : LaneResult), s.distribute p v = (t, r) → UnitsNumbered s →
    (r.lane ≠ 0 ↔ r.cause = none) ∧
    (r.lane ≠ 0 → p.proving = false ∧ v.reasons.isHeld = false ∧ p.cls ≠ 0 ∧ t.dist.openGate = some r.lane ∧
      (∃ e, s.dist.live.get? p.cls = some e ∧ r.lane ∈ e.lanes) ∧
      ∀ number, r.bag = some number → ∃ k b, (k, b) ∈ t.dist.bags ∧ b.number = number ∧ b.slot = p.slot ∧ b.lastSeq = p.seq ∧
        b.minCredit ≤ p.credit) ∧
    (p.proving = true → r = ⟨0, some .proving, none⟩ ∧
      t.dist.lane0 = { s.dist.lane0 with proving := s.dist.lane0.proving + 1 }) ∧
    (p.proving = false → v.reasons.isHeld = true → r = ⟨0, some .held, none⟩ ∧
      t.dist.lane0 = { s.dist.lane0 with held := s.dist.lane0.held + 1 }) ∧
    (p.proving = false → v.reasons.isHeld = false → p.cls = 0 → r = ⟨0, some .class0, none⟩ ∧
      t.dist.lane0 = { s.dist.lane0 with class0 := s.dist.lane0.class0 + 1 }) ∧
    (p.proving = true ∨ v.reasons.isHeld = true ∨ p.cls = 0 →
      t.dist.lanes = s.dist.lanes ∧ t.dist.bags = s.dist.bags ∧ t.dist.pointers = s.dist.pointers)) ∧
  (∀ (s t : State) (p : Parcel) (v : VerdictRecord) (r : LaneResult) (e : ClassEntry) (x : RunPointer),
    s.distribute p v = (t, r) → UnitsNumbered s → p.proving = false → v.reasons.isHeld = false → p.cls ≠ 0 →
    s.dist.live.get? p.cls = some e → s.dist.pointers.get? p.cls = some x →
    ∀ candidate : Nat → Prop, (∀ n, candidate n ↔ n ∈ e.lanes ∧ ∃ l, s.dist.lanes.get? n = some l ∧ l.state = .accepting ∧
      ∀ number k b, l.bag = some number → s.dist.findBag number = some (k, b) → b.slot = p.slot) →
    ∀ (closed : Prop) (passable : Nat → Prop), closed = (t.dist.openGate = none ∧ t.dist.pendingGate = (if s.dist.openGate = none then s.dist.pendingGate else none) ∧
      r.lane = 0 ∧ r.bag = none ∧ t.dist.bags = s.dist.bags) →
    (∀ n, passable n ↔ s.dist.openGate = some n ∨
      (s.dist.openGate = none ∧ s.time.timers.get? 5 = none ∧ TimerId.gate ∉ s.time.expired)) →
    (∀ k, k ≠ p.cls → t.dist.pointers.get? k = s.dist.pointers.get? k) ∧
    (∀ n l, s.dist.lanes.get? n = some l → n ∉ e.lanes ∨ l.state ≠ .accepting → t.dist.lanes.get? n = some l) ∧
    (∀ n l number k b, n ∈ e.lanes → s.dist.lanes.get? n = some l → l.state = .accepting → l.bag = some number →
      s.dist.findBag number = some (k, b) → b.slot ≠ p.slot →
      r.lane ≠ n ∧ t.dist.lanes.get? n = some { l with state := .sealing, closeAfter := false } ∧
      (s.powered = true → s.pin = false → t.finish.pins.sealDemand[n - 1]? = some true)) ∧
    ((∀ n, ¬candidate n) → r.cause = some .noLane ∧ closed ∧ t.dist.pointers = s.dist.pointers ∧
      t.dist.lane0 = { s.dist.lane0 with noLane := s.dist.lane0.noLane + 1 }) ∧
    ∀ n l y, candidate n → s.dist.lanes.get? n = some l →
      (x.last = some n ∧ x.counter < e.run ∧ y = x) ∨
      (¬(∃ m, x.last = some m ∧ candidate m ∧ x.counter < e.run) ∧ y = ⟨some n, 0⟩ ∧ (x.last = none → ∀ d, candidate d → n ≤ d) ∧
        ∀ m d, x.last = some m → candidate d → ((n : Int) - m - 1) % 4 ≤ ((d : Int) - m - 1) % 4) →
      (∀ d, d ≠ n → candidate d → t.dist.lanes.get? d = s.dist.lanes.get? d) ∧
      (l.bag = none → (∀ k, k < 32 → s.dist.bags.get? k ≠ none) → r.cause = some .noBag ∧ closed ∧
        t.dist.pointers.get? p.cls = some y ∧ t.dist.lanes.get? n = some { l with state := .blocked } ∧
        t.dist.lane0 = { s.dist.lane0 with noBag := s.dist.lane0.noBag + 1 }) ∧
      (l.bag ≠ none ∨ (∃ k, k < 32 ∧ s.dist.bags.get? k = none) →
        (passable n → r.lane = n ∧ r.cause = none ∧ t.dist.openGate = some n ∧ t.dist.lane0 = s.dist.lane0 ∧
          t.dist.pointers.get? p.cls = some { y with counter := y.counter + 1 } ∧
          (∀ number k b, l.bag = some number → s.dist.findBag number = some (k, b) → r.bag = some number ∧
            t.parcel.lots = s.parcel.lots ∧ t.dist.lastBag = s.dist.lastBag ∧
            (s.dist.bags.get? k = some b → t.dist.bags.get? k = some
              { b with parcels := b.parcels + 1, lastSeq := p.seq, minCredit := min b.minCredit p.credit } ∧
              (b.parcels + 1 < 255 → t.dist.lanes.get? n = some l) ∧
              (255 ≤ b.parcels + 1 → t.dist.lanes.get? n = some { l with state := .sealing, closeAfter := false } ∧
                (s.powered = true → s.pin = false → t.finish.pins.sealDemand[n - 1]? = some true))) ∧
            ∀ j, j ≠ k → t.dist.bags.get? j = s.dist.bags.get? j) ∧
          (l.bag = none → ∀ j, s.dist.bags.freeKey 0 32 = some j → ∃ number, r.bag = some number ∧
            t.dist.bags.get? j = some
              { number := number, lane := n, slot := p.slot, recipe := p.recipe, state := .opened, parcels := 1
                firstSeq := p.seq, lastSeq := p.seq, minCredit := p.credit, openTime := v.time, sealTime := none, grams := none } ∧
            (∀ i, i ≠ j → t.dist.bags.get? i = s.dist.bags.get? i) ∧ t.dist.lastBag = number ∧
            (s.dist.bags.length ≤ 32 → ∀ b ∈ s.dist.bags, b.2.number ≠ number) ∧
            (∀ next, next = (if 16777215 ≤ s.dist.lastBag then 1 else s.dist.lastBag + 1) →
              (∀ b ∈ s.dist.bags, b.2.number ≠ next) → number = next) ∧
            t.dist.lanes.get? n = some { l with bag := some number } ∧
            t.parcel.lots = s.parcel.lots.modify p.slot fun lot => { lot with bagRefs := lot.bagRefs + 1 })) ∧
        (¬passable n → r = ⟨0, some .gateBusy, none⟩ ∧ t.dist.openGate = none ∧ t.dist.pendingGate = some n ∧
          t.dist.pointers.get? p.cls = some y ∧ t.dist.lanes.get? n = some l ∧ t.dist.bags = s.dist.bags ∧
          t.dist.lane0 = { s.dist.lane0 with gateBusy := s.dist.lane0.gateBusy + 1 }))) ∧
  ∀ (s : State) (input n : Nat) (presence : Bool) (tr : Track) (k : Nat) (p : Parcel), s.powered = true → s.pin = false →
    1 ≤ input → input ≤ 4 → s.track.counted input = [n] → s.track.tracks.get? n = some tr → n = s.track.tracks.length →
    s.line.state.runs = true ∨ (s.line.state = .halted ∧ 0 < tr.counter) → tr.pulses ≤ tr.counter + 1 →
    s.track.cells.get? (s.track.cellOf n tr (tr.segments - 1)) = some k → s.parcel.parcels.get? k = some p →
    2 ≤ n ∨ presence = false → 2 ≤ n ∨ s.parcel.staged = none →
    (∀ run, s.comm.record = ⟨.running, some run⟩ → run.entries.length + 1 < run.count) →
    ∀ s1 s2 v r, s1 = { s with
        track := { tracks := s.track.tracks.modify n fun x => { x with counter := 0 }
                   cells := s.track.cells.del (s.track.cellOf n tr (tr.segments - 1)) }
        time := if s.line.state.runs = true ∧ tr.backedUp = false then
            { s.time with timers := s.time.timers.put (n - 1) (min (s.time.lineTime + tr.stallLimit) 281474976710655) }
          else s.time } →
      v = s.verdict p s.time.lineTime → s1.distribute p v = (s2, r) →
      ∃ t, exec (.encoderPulse input presence) s = .next t ∧
        t.dist = (match s2.dist.staged with
          | some m => { s2.dist with
              live := m, staged := none
              pointers := s2.dist.pointers.mapVals fun c x => if m.get? c = s2.dist.live.get? c then x else ⟨none, 0⟩ }
          | none => s2.dist) ∧
        (s.parcel.parcels.wf = true → t.parcel.parcels.get? k = none) ∧
        (∀ l, s2.parcel.lots.get? p.slot = some l → s.parcel.current = some p.slot →
          (r.cause = none → t.parcel.lots.get? p.slot = some { l with released := l.released + 1, live := l.live - 1 }) ∧
          (r.cause = some .held ∨ r.cause = some .proving ∨ r.cause = some .class0 →
            t.parcel.lots.get? p.slot = some { l with held := l.held + 1, live := l.live - 1 }) ∧
          (r.cause = some .noLane ∨ r.cause = some .gateBusy ∨ r.cause = some .noBag →
            t.parcel.lots.get? p.slot = some { l with redirected := l.redirected + 1, live := l.live - 1 })) ∧
        (s.credit.outfeedNotices = true → Room s 1 → Queued t (.outfeed v r.lane r.cause r.bag))

/-- R130, R131: the gate rule, row by row, and the expiry of the gate timer, which opens the pending gate. At most one gate
output is asserted. That the expiry opens a pending gate after a request for lane 0 follows R130's table against R131's last
sentence, the model's choice (log 45); that the gate timer counts as running until its expiry is delivered is its reading
(log 6). -/
def Obligations.GateRule : Prop :=
  (∀ (s : State) (a b : Nat), s.dist.openGate = some a →
    (a = b → s.requestGate b = s) ∧
    (a ≠ b → s.requestGate b = { s with
      dist := { s.dist with openGate := none, pendingGate := some b }
      time := { s.time with
        timers := s.time.timers.put 5 (min (s.time.lineTime + s.dist.deadTime) 281474976710655) } }) ∧
    s.requestLaneZero = { s with
      dist := { s.dist with openGate := none, pendingGate := none }
      time := { s.time with
        timers := s.time.timers.put 5 (min (s.time.lineTime + s.dist.deadTime) 281474976710655) } }) ∧
  (∀ (s : State) (b : Nat), s.dist.openGate = none →
    (s.time.timers.get? 5 ≠ none → s.requestGate b = { s with dist := { s.dist with pendingGate := some b } }) ∧
    (s.time.timers.get? 5 = none → TimerId.gate ∉ s.time.expired →
      s.requestGate b = { s with dist := { s.dist with openGate := some b } }) ∧
    s.requestLaneZero = s) ∧
  (∀ s : State, s.powered = true → s.pin = false → TimerId.gate ∈ s.time.expired →
    exec .gateTimerExpiry s = .next ({ s with
      time := { s.time with expired := s.time.expired.erase .gate }
      dist := match s.dist.pendingGate with
        | some b => { s.dist with openGate := some b, pendingGate := none }
        | none => s.dist } : State).finish) ∧
  ∀ s : State, (s.finish.pins.gates.filter fun g => g).length ≤ 1

/-- R120, R121: CLASS MAP SET refuses a lane outside 1..4 and a run length outside 1..16, and otherwise stages the full map; at
the boundary step of an index of the last track the staged map becomes live, and the run pointer of each class whose entry
differs is emptied. -/
def Obligations.ClassMapIsStagedThenLive : Prop :=
  (∀ (s : State) (f : Frame) (rest : List Byte) (es : List (Nat × Nat)), Taken s .classMapSet f → f.payload = 7 :: rest →
    rest.length = 14 → es = classEntries rest →
    ((∃ e ∈ es, 16 ≤ e.1 ∨ e.2 < 1 ∨ 16 < e.2) → exec .classMapSet s = .next (s.replied f (.status .badValue))) ∧
    ((∀ e ∈ es, e.1 < 16 ∧ 1 ≤ e.2 ∧ e.2 ≤ 16) →
      exec .classMapSet s = .next (({ s with dist := { s.dist with
        staged := some ((List.range 7).map fun i =>
          (i + 1, ⟨[1, 2, 3, 4].filter (fun lane => (es.getD i (0, 0)).1.testBit (lane - 1)), (es.getD i (0, 0)).2⟩)) } } :
            State).replied f (.status .ok)))) ∧
  (∀ (s : State) (m : Table ClassEntry), s.dist.staged = some m →
    s.applyClassMap = { s with dist := { s.dist with
      live := m, staged := none
      pointers := s.dist.pointers.mapVals fun k r => if m.get? k = s.dist.live.get? k then r else ⟨none, 0⟩ } }) ∧
  ∀ (s : State) (input n : Nat) (presence : Bool) (tr : Track), s.powered = true → s.pin = false → 1 ≤ input → input ≤ 4 →
    s.track.counted input = [n] → s.track.tracks.get? n = some tr →
    s.line.state.runs = true ∨ (s.line.state = .halted ∧ 0 < tr.counter) → tr.pulses ≤ tr.counter + 1 →
    n ≠ s.track.tracks.length ∨ s.track.cells.get? (s.track.cellOf n tr (tr.segments - 1)) = none →
    ∃ t, exec (.encoderPulse input presence) s = .next t ∧
      t.dist = if n = s.track.tracks.length then s.applyClassMap.dist else s.dist

/-- R123, R124: LANE OPEN and LANE CLOSE, by the lane's state; nothing but that lane's record changes. R123, R135, R142: the
edges of a bagger. A READY edge sets the level and moves PENDING and ACCEPTING; a rising SEAL edge seals the lane's open bag
with its stamp and moves a SEALING lane on, or is reported SEAL UNTRACKED; a falling SEAL edge is ignored. -/
def Obligations.LanesAreMoved : Prop :=
  ((∀ (s : State) (f : Frame) (n : Byte) (l : Lane), f.payload = [n] → s.dist.lanes.get? n.toNat = some l → 1 ≤ n.toNat →
     n.toNat ≤ 4 →
     (Taken s .laneOpen f → ∃ t l', exec .laneOpen s = .next t ∧ Replied t f (.status .ok) ∧
       t = { s with dist := { s.dist with lanes := t.dist.lanes }, link := t.link, pins := t.pins } ∧
       t.dist.lanes.get? n.toNat = some l' ∧ (∀ k, k ≠ n.toNat → t.dist.lanes.get? k = s.dist.lanes.get? k) ∧
       (l.state = .closed ∨ (l.state = .blocked ∧ ∃ k, k < 32 ∧ s.dist.bags.get? k = none) →
         l' = { l with state := if l.ready then .accepting else .pending }) ∧
       (l.state = .sealing → l' = { l with closeAfter := false }) ∧
       (l.state = .pending ∨ l.state = .accepting ∨ (l.state = .blocked ∧ ∀ k, k < 32 → s.dist.bags.get? k ≠ none) → l' = l)) ∧
     (Taken s .laneClose f → ∃ t l', exec .laneClose s = .next t ∧ Replied t f (.status .ok) ∧
       t = { s with dist := { s.dist with lanes := t.dist.lanes }, link := t.link, pins := t.pins } ∧
       t.dist.lanes.get? n.toNat = some l' ∧ (∀ k, k ≠ n.toNat → t.dist.lanes.get? k = s.dist.lanes.get? k) ∧
       (l.state = .sealing → l' = { l with closeAfter := true }) ∧
       (l.state ≠ .sealing → l.bag = none → l' = { l with state := .closed }) ∧
       (l.state ≠ .sealing → l.bag ≠ none → l' = { l with state := .sealing, closeAfter := true }))) ∧
   ∀ (s : State) (f : Frame) (n : Byte), f.payload = [n] → n.toNat < 1 ∨ 4 < n.toNat →
     (Taken s .laneOpen f → exec .laneOpen s = .next (s.replied f (.status .badValue))) ∧
     (Taken s .laneClose f → exec .laneClose s = .next (s.replied f (.status .badValue)))) ∧
  ∀ (s : State) (n : Nat) (e : Edge) (rest : List Edge) (l : Lane), s.powered = true → 1 ≤ n → n ≤ 4 → s.time.edges = e :: rest →
    s.dist.lanes.get? n = some l →
    (e.input = .readyIn n → ∃ t l', exec (.readyEdge n) s = .next t ∧
      t = { s with time := { s.time with edges := rest }, dist := { s.dist with lanes := t.dist.lanes }
                   link := t.link, pins := t.pins } ∧
      t.dist.lanes.get? n = some l' ∧ (∀ k, k ≠ n → t.dist.lanes.get? k = s.dist.lanes.get? k) ∧
      l' = { l with
        ready := e.rising
        state := if s.pin = false ∧ l.state = .pending ∧ e.rising = true then .accepting
          else if s.pin = false ∧ l.state = .accepting ∧ e.rising = false then .pending else l.state }) ∧
    (e.input = .sealIn n → e.rising = false ∨ s.pin = true →
      exec (.sealEdge n) s = .next ({ s with time := { s.time with edges := rest } } : State).finish) ∧
    (e.input = .sealIn n → e.rising = true → s.pin = false → l.bag = none →
      exec (.sealEdge n) s = .next (({ s with time := { s.time with edges := rest } } : State).notify
        (.sealUntracked n e.stamp)).finish) ∧
    (∀ number, e.input = .sealIn n → e.rising = true → s.pin = false → l.bag = some number →
      ∃ t l', exec (.sealEdge n) s = .next t ∧
        t = { s with time := { s.time with edges := rest }
                     dist := { s.dist with lanes := t.dist.lanes, bags := t.dist.bags }, link := t.link, pins := t.pins } ∧
        t.dist.bags = (s.dist.bags.mapVals fun _ b =>
          if b.number = number then { b with state := .sealed, sealTime := some e.stamp } else b) ∧
        t.dist.lanes.get? n = some l' ∧ (∀ k, k ≠ n → t.dist.lanes.get? k = s.dist.lanes.get? k) ∧
        (l.state ≠ .sealing → l' = { l with bag := none }) ∧
        (l.state = .sealing → l.closeAfter = true → l' = { l with bag := none, state := .closed, closeAfter := false }) ∧
        (l.state = .sealing → l.closeAfter = false →
          l' = { l with bag := none, state := if l.ready then .accepting else .pending }))

/-- R136 to R139, R144 to R147: BAG WEIGHT's checks in their order. A rejected bag is reported and freed, its lot's bag
references fall, and the lowest-numbered BLOCKED lane returns; an accepted one is counted onto the BUILDING pallet of its lot
and lane, whose due is the earliest seal time plus the recipe's exposure limit; a pallet that reaches its target becomes READY.
A BUILDING pallet of another lot becomes READY in the same step, whether or not the bag is then counted onto a new one.
Without a BUILDING pallet on the lane a new one is created in the lowest-numbered free record; with no record free, or while a
bag of the lane waits, the bag joins the waiting list. The ready order 0 of a new pallet is the model's choice (log 42). -/
def Obligations.BagWeightJudgesTheBag : Prop :=
  ∀ (s : State) (f : Frame) (number grams : Nat), AtHand s .bagWeight f → f.payload.length = 5 →
    number = leNat (f.payload.take 3) → grams = leNat (f.payload.drop 3) →
    (number = 0 → exec .bagWeight s = .next (s.replied f (.status .badValue))) ∧
    (number ≠ 0 → (∀ e ∈ s.dist.bags, e.2.number ≠ number) → exec .bagWeight s = .next (s.replied f (.status .notFound))) ∧
    ∀ k b, number ≠ 0 → s.dist.findBag number = some (k, b) → s.dist.bags.get? k = some b →
      (b.state ≠ .sealed → exec .bagWeight s = .next (s.replied f (.status .wrongState))) ∧
      ∀ r l, b.state = .sealed → s.credit.recipes.get? b.recipe = some r → s.parcel.lots.get? b.slot = some l →
        s.parcel.current = some b.slot →
        (grams < r.bagMin ∨ r.bagMax < grams → ∃ t, exec .bagWeight s = .next t ∧
          t = { s with dist := t.dist, parcel := t.parcel, link := t.link, pins := t.pins } ∧
          Replied t f (.bagVerdict false r.bagMin r.bagMax) ∧
          (Room s 1 → Queued t (.bagRejected k { b with grams := some grams, state := .rejected })) ∧
          (∀ j, j ≠ k → t.dist.bags.get? j = s.dist.bags.get? j) ∧ (s.dist.bags.wf = true → t.dist.bags.get? k = none) ∧
          t.parcel.lots.get? b.slot = some { l with bagsRejected := l.bagsRejected + 1, bagRefs := l.bagRefs - 1 } ∧
          (∀ n lane, s.dist.lanes.first? (fun _ x => decide (x.state = .blocked)) = some (n, lane) →
            s.dist.lanes.get? n = some lane →
            t.dist.lanes.get? n = some { lane with state := if lane.ready then .accepting else .pending })) ∧
        (∀ q pal due, r.bagMin ≤ grams → grams ≤ r.bagMax → s.transfer.waiting = [] →
          s.transfer.building b.lane = some (q, pal) → s.transfer.pallets.get? q = some pal → pal.slot = b.slot →
          l.recipe = b.recipe → pal.bags.length + 1 < pal.target →
          ∀ stamp start, b.sealTime = some stamp → start = (if pal.bags = [] then stamp else min pal.exposureStart stamp) →
          due = min (start + r.exposureLimit * 1000) 281474976710655 →
          ∃ t, exec .bagWeight s = .next t ∧ Replied t f (.bagVerdict true r.bagMin r.bagMax) ∧
            t = { s with dist := t.dist, parcel := t.parcel, transfer := t.transfer, time := t.time, link := t.link
                         pins := t.pins } ∧
            t.transfer.pallets.get? q = some { pal with
              bags := pal.bags ++ [⟨b.number, grams, b.parcels, b.minCredit⟩], total := pal.total + grams
              exposureStart := start, exposureDue := due } ∧
            t.time.timers.get? (5 + q) = some due ∧ (∀ j, j ≠ k → t.dist.bags.get? j = s.dist.bags.get? j) ∧
            (s.dist.bags.wf = true → t.dist.bags.get? k = none) ∧
            t.parcel.lots.get? b.slot = some { l with bagsAccepted := l.bagsAccepted + 1, bagRefs := l.bagRefs - 1 }) ∧
        (∀ q pal, r.bagMin ≤ grams → grams ≤ r.bagMax → s.transfer.waiting = [] →
          s.transfer.building b.lane = some (q, pal) → s.transfer.pallets.get? q = some pal → pal.slot = b.slot →
          pal.target ≤ pal.bags.length + 1 →
          ∃ t pal', exec .bagWeight s = .next t ∧ Replied t f (.bagVerdict true r.bagMin r.bagMax) ∧
            t.transfer.pallets.get? q = some pal' ∧ pal'.readyOrder = s.transfer.lastReady + 1 ∧
            t.transfer.lastReady = s.transfer.lastReady + 1 ∧ pal'.number = pal.number ∧
            pal'.bags = pal.bags ++ [⟨b.number, grams, b.parcels, b.minCredit⟩] ∧ pal'.total = pal.total + grams ∧
            (s.transfer.shuttle.state ≠ .idle → pal'.state = .ready ∧ t.transfer.shuttle = s.transfer.shuttle) ∧
            (s.transfer.shuttle.state = .idle → pal'.state = .ready ∨ pal'.state = .granted)) ∧
        (∀ q due stamp, r.bagMin ≤ grams → grams ≤ r.bagMax → s.transfer.waiting = [] → s.transfer.building b.lane = none →
          s.transfer.pallets.freeKey 1 8 = some q → s.transfer.pallets.length ≤ 8 → l.recipe = b.recipe →
          2 ≤ r.bagsPerPallet → b.sealTime = some stamp → due = min (stamp + r.exposureLimit * 1000) 281474976710655 →
          ∃ t number, exec .bagWeight s = .next t ∧ Replied t f (.bagVerdict true r.bagMin r.bagMax) ∧
            t = { s with dist := t.dist, parcel := t.parcel, transfer := t.transfer, time := t.time, link := t.link
                         pins := t.pins } ∧
            t.transfer = { s.transfer with pallets := t.transfer.pallets, lastPallet := number } ∧
            (∀ e ∈ s.transfer.pallets, e.2.number ≠ number) ∧
            (∀ next, next = (if 65535 ≤ s.transfer.lastPallet then 1 else s.transfer.lastPallet + 1) →
              (∀ e ∈ s.transfer.pallets, e.2.number ≠ next) → number = next) ∧
            t.transfer.pallets.get? q = some
              { number := number, lane := b.lane, slot := b.slot, state := .building, exposed := false, stranded := false
                target := r.bagsPerPallet, bags := [⟨b.number, grams, b.parcels, b.minCredit⟩], total := grams
                exposureStart := stamp, exposureDue := due, readyOrder := 0, doorTime := none } ∧
            (∀ j, j ≠ q → t.transfer.pallets.get? j = s.transfer.pallets.get? j) ∧ t.time.timers.get? (5 + q) = some due ∧
            (s.dist.bags.wf = true → t.dist.bags.get? k = none) ∧
            t.parcel.lots.get? b.slot = some { l with
              bagsAccepted := l.bagsAccepted + 1, bagRefs := l.bagRefs - 1, palletRefs := l.palletRefs + 1 }) ∧
        (∀ q pal, r.bagMin ≤ grams → grams ≤ r.bagMax → s.laneWaits b.lane = false →
          s.transfer.building b.lane = some (q, pal) → s.transfer.pallets.get? q = some pal → pal.slot ≠ b.slot →
          ∃ t pal', exec .bagWeight s = .next t ∧ Replied t f (.bagVerdict true r.bagMin r.bagMax) ∧
            t.transfer.pallets.get? q = some pal' ∧
            pal' = { pal with state := pal'.state, readyOrder := s.transfer.lastReady + 1 } ∧
            (s.transfer.shuttle.state ≠ .idle → pal'.state = .ready ∧ t.transfer.shuttle = s.transfer.shuttle) ∧
            (s.transfer.shuttle.state = .idle → pal'.state = .ready ∨ pal'.state = .granted) ∧
            (s.transfer.pallets.freeKey 1 8 = none → t.transfer.waiting = s.transfer.waiting ++ [number] ∧
              t.dist.bags.get? k = some { b with grams := some grams, state := .accepted }) ∧
            (∀ j, s.transfer.pallets.freeKey 1 8 = some j → l.recipe = b.recipe → 2 ≤ r.bagsPerPallet →
              t.transfer.waiting = s.transfer.waiting ∧ (s.dist.bags.wf = true → t.dist.bags.get? k = none) ∧
              ∃ new, t.transfer.pallets.get? j = some new ∧ new.state = .building ∧ new.lane = b.lane ∧ new.slot = b.slot ∧
                new.target = r.bagsPerPallet ∧ new.bags = [⟨b.number, grams, b.parcels, b.minCredit⟩])) ∧
        (r.bagMin ≤ grams → grams ≤ r.bagMax →
          s.laneWaits b.lane = true ∨ (s.transfer.building b.lane = none ∧ s.transfer.pallets.freeKey 1 8 = none) →
          ∃ t, exec .bagWeight s = .next t ∧ Replied t f (.bagVerdict true r.bagMin r.bagMax) ∧
            t = { s with dist := { s.dist with bags := t.dist.bags }, parcel := t.parcel, transfer := t.transfer
                         link := t.link, pins := t.pins } ∧
            t.transfer = { s.transfer with waiting := s.transfer.waiting ++ [number] } ∧
            t.dist.bags.get? k = some { b with grams := some grams, state := .accepted } ∧
            t.parcel.lots.get? b.slot = some { l with bagsAccepted := l.bagsAccepted + 1 })

/-! ### Pallets and the shuttle -/

/-- R148, R151: PALLET CLOSE's checks in their order. With the shuttle not IDLE the pallet becomes READY with the next ready
order and nothing else changes. The arbiter grants an IDLE shuttle to a READY pallet that no other READY pallet goes before by
exposure due, lane and ready order; without a READY pallet it does nothing. -/
def Obligations.PalletsAreClosedAndGranted : Prop :=
  (∀ (s : State) (f : Frame) (number : Nat), AtHand s .palletClose f → f.payload.length = 2 → number = leNat f.payload →
    (number = 0 → exec .palletClose s = .next (s.replied f (.status .badValue))) ∧
    (number ≠ 0 → (∀ e ∈ s.transfer.pallets, e.2.number ≠ number) →
      exec .palletClose s = .next (s.replied f (.status .notFound))) ∧
    ∀ r p, number ≠ 0 → s.transfer.findPallet number = some (r, p) →
      (p.state ≠ .building → exec .palletClose s = .next (s.replied f (.status .wrongState))) ∧
      (p.state = .building → s.transfer.shuttle.state ≠ .idle →
        exec .palletClose s = .next (({ s with transfer := { s.transfer with
          pallets := s.transfer.pallets.modify r fun x => { x with state := .ready, readyOrder := s.transfer.lastReady + 1 }
          lastReady := s.transfer.lastReady + 1 } } : State).replied f (.palletClose p.bags.length p.total)))) ∧
  ∀ s : State, s.transfer.shuttle.state = .idle →
    ((∀ e ∈ s.transfer.pallets, e.2.state ≠ .ready) → s.arbitrate = s) ∧
    ((∃ e ∈ s.transfer.pallets, e.2.state = .ready) →
      ∃ r p, (r, p) ∈ s.transfer.pallets ∧ p.state = .ready ∧
        (∀ e ∈ s.transfer.pallets, e.2.state = .ready → p.exposureDue < e.2.exposureDue ∨ (p.exposureDue = e.2.exposureDue ∧
          (p.lane < e.2.lane ∨ (p.lane = e.2.lane ∧ p.readyOrder ≤ e.2.readyOrder)))) ∧
        s.arbitrate = { s with
          transfer := { s.transfer with
            pallets := s.transfer.pallets.modify r fun x => { x with state := .granted }
            shuttle := { s.transfer.shuttle with
              state := .assigned, job := some ⟨p.number, p.lane, s.time.lineTime, false⟩, jobValid := true } }
          time := { s.time with
            timers := s.time.timers.put 14 (min (s.time.lineTime + s.transfer.jobLimit * 1000) 281474976710655) } })

/-- R150, R152, R154: the edges of ACCEPT, LOADED and DONE with the pin released. Each records its level; an asserting edge
that is expected moves the job on, and one that is not is reported. DONE after the door pass ends the job, and the arbiter
chooses. -/
def Obligations.ShuttleHandshake : Prop :=
  ∀ (s : State) (e : Edge) (rest : List Edge), s.powered = true → s.pin = false → s.time.edges = e :: rest →
    ∀ s1 : State, s1 = { s with time := { s.time with edges := rest } } →
    (e.input = .acceptIn → exec .acceptEdge s = .next (
      let sh := { s.transfer.shuttle with acceptLevel := e.rising }
      if e.rising = true then
        if s.transfer.shuttle.state = .assigned then
          ({ s1 with transfer := { s.transfer with shuttle := { sh with jobValid := false } } } : State).finish
        else (({ s1 with transfer := { s.transfer with shuttle := sh } } : State).notify
          (.shuttleUnexpected .accept s.transfer.shuttle.state)).finish
      else ({ s1 with transfer := { s.transfer with shuttle := sh } } : State).finish)) ∧
    (e.input = .loadedIn → (e.rising = false → exec .loadedEdge s =
        .next ({ s1 with transfer := { s.transfer with
          shuttle := { s.transfer.shuttle with loadedLevel := false } } } : State).finish) ∧
      (e.rising = true → s.transfer.shuttle.state ≠ .assigned → exec .loadedEdge s =
        .next ((({ s1 with transfer := { s.transfer with
          shuttle := { s.transfer.shuttle with loadedLevel := true } } } : State).notify
            (.shuttleUnexpected .loaded s.transfer.shuttle.state)).finish)) ∧
      ∀ j r p, e.rising = true → s.transfer.shuttle.state = .assigned → s.transfer.shuttle.job = some j →
        s.transfer.findPallet j.pallet = some (r, p) → exec .loadedEdge s =
          .next ({ s1 with transfer := { s.transfer with
            pallets := s.transfer.pallets.modify r fun x => { x with state := .loaded }
            shuttle := { s.transfer.shuttle with state := .carrying, jobValid := false, loadedLevel := true } } } :
              State).finish) ∧
    (e.input = .doneIn → (e.rising = false → exec .doneEdge s =
        .next ({ s1 with transfer := { s.transfer with
          shuttle := { s.transfer.shuttle with doneLevel := false } } } : State).finish) ∧
      (e.rising = true →
        s.transfer.shuttle.state ≠ .carrying ∨ (∃ j, s.transfer.shuttle.job = some j ∧ j.doorMade = false) →
        exec .doneEdge s = .next ((({ s1 with transfer := { s.transfer with
          shuttle := { s.transfer.shuttle with doneLevel := true } } } : State).notify
            (.shuttleUnexpected .finished s.transfer.shuttle.state)).finish)) ∧
      ∀ j, e.rising = true → s.transfer.shuttle.state = .carrying → s.transfer.shuttle.job = some j → j.doorMade = true →
        exec .doneEdge s = .next (({ s1 with
          time := { s1.time with timers := s.time.timers.del 14 }
          transfer := { s.transfer with
            shuttle := { s.transfer.shuttle with state := .idle, job := none, jobValid := false, doneLevel := true } } } :
              State).arbitrate.finish))

/-- R153, R154, R159: a rising edge of the door eye. In CARRYING before the door pass it is the pass: with the stamp within the
due and room in the queue, the pallet's exposure timer is cancelled, its PALLET TRANSFER enters the queue with all its entries,
its record is freed, and its lot's account grows by one stored or quarantined pallet. A stamp past the due quarantines the
pallet EXPOSED, latches EXPOSURE and queues PALLET EXPOSED before the transfer. A pallet of more than 60 bags goes in two parts,
the second waiting where the queue has no room. Freeing the record walks the waiting list (R146), which keeps its order. Any
other rising edge is reported DOOR UNEXPECTED; a falling edge is ignored. -/
def Obligations.DoorPassStoresThePallet : Prop :=
  (∀ s : State, s.walkWaiting.transfer.waiting.Sublist s.transfer.waiting) ∧
  ∀ (s : State) (e : Edge) (rest : List Edge), s.powered = true → s.pin = false → s.time.edges = e :: rest →
    e.input = .doorEye →
    ∀ s1 : State, s1 = { s with time := { s.time with edges := rest } } →
    (e.rising = false → exec .doorEyeEdge s = .next s1.finish) ∧
    (e.rising = true → s.transfer.shuttle.state ≠ .carrying →
      exec .doorEyeEdge s = .next (s1.notify (.doorUnexpected e.stamp (some s.transfer.shuttle.state) none)).finish) ∧
    (∀ j, e.rising = true → s.transfer.shuttle.state = .carrying → s.transfer.shuttle.job = some j → j.doorMade = true →
      exec .doorEyeEdge s = .next (s1.notify (.doorUnexpected e.stamp none (some j.pallet))).finish) ∧
    (∀ j r p l, e.rising = true → s.transfer.shuttle.state = .carrying → s.transfer.shuttle.job = some j → j.doorMade = false →
      s.transfer.findPallet j.pallet = some (r, p) → s.transfer.pallets.get? r = some p → s.transfer.pallets.wf = true →
      s.time.timers.wf = true → s.parcel.lots.get? p.slot = some l → s.parcel.current = some p.slot →
      s.transfer.waiting = [] → p.bags.length ≤ 60 → e.stamp ≤ p.exposureDue → Room s 1 →
      ∃ t, exec .doorEyeEdge s = .next t ∧
        t = { s with time := t.time, parcel := t.parcel, transfer := t.transfer, link := t.link, pins := t.pins } ∧
        t.transfer.pallets = s.transfer.pallets.del r ∧
        t.transfer.shuttle = { s.transfer.shuttle with job := some { j with doorMade := true } } ∧
        t.time.timers.get? (5 + r) = none ∧ (∀ k, k ≠ 5 + r → t.time.timers.get? k = s.time.timers.get? k) ∧
        t.parcel.lots.get? p.slot = some { l with
          palletsStored := if p.exposed || p.stranded then l.palletsStored else l.palletsStored + 1
          palletsQuarantined := if p.exposed || p.stranded then l.palletsQuarantined + 1 else l.palletsQuarantined
          palletRefs := l.palletRefs - 1 } ∧
        Queued t (.palletTransfer { number := p.number, lane := p.lane, slot := p.slot, code := l.code, exposed := p.exposed
                                    stranded := p.stranded, target := p.target, bagCount := p.bags.length, total := p.total
                                    exposureStart := p.exposureStart, exposureDue := p.exposureDue
                                    doorTime := some e.stamp } 1 1 p.bags)) ∧
    ∀ j r p l sum, e.rising = true → s.transfer.shuttle.state = .carrying → s.transfer.shuttle.job = some j →
      j.doorMade = false → s.transfer.findPallet j.pallet = some (r, p) → s.transfer.pallets.get? r = some p →
      s.transfer.pallets.wf = true → s.time.timers.wf = true → s.parcel.lots.get? p.slot = some l →
      s.parcel.current = some p.slot →
      sum = ({ number := p.number, lane := p.lane, slot := p.slot, code := l.code, exposed := p.exposed, stranded := p.stranded
               target := p.target, bagCount := p.bags.length, total := p.total, exposureStart := p.exposureStart
               exposureDue := p.exposureDue, doorTime := some e.stamp } : PalletSummary) →
      (p.exposureDue < e.stamp → p.exposed = false → p.bags.length ≤ 60 → s.line.state ≠ .proving → s.transfer.waiting = [] →
        Room s 4 →
        ∃ t, exec .doorEyeEdge s = .next t ∧ t.transfer.pallets = s.transfer.pallets.del r ∧ t.latch .exposure = true ∧
          (∀ y, y ≠ .exposure → t.latch y = s.latch y) ∧ t.time.timers.get? (5 + r) = none ∧
          t.parcel.lots.get? p.slot = some { l with
            palletsQuarantined := l.palletsQuarantined + 1, palletRefs := l.palletRefs - 1 } ∧
          ∃ before after, t.link.notices = before ++
            ⟨s.time.lineTime, .palletExposed p.number p.lane p.slot p.state p.exposureStart p.exposureDue⟩ ::
            ⟨s.time.lineTime, .palletTransfer { sum with exposed := true } 1 1 p.bags⟩ :: after) ∧
      (e.stamp ≤ p.exposureDue → 60 < p.bags.length → s.transfer.waiting = [] → Room s 2 →
        ∃ t, exec .doorEyeEdge s = .next t ∧ t.transfer.pallets = s.transfer.pallets.del r ∧
          ∃ after, t.link.notices = s.link.notices ++
            ⟨s.time.lineTime, .palletTransfer sum 1 2 (p.bags.take 60)⟩ ::
            ⟨s.time.lineTime, .palletTransfer sum 2 2 (p.bags.drop 60)⟩ :: after) ∧
      (e.stamp ≤ p.exposureDue → 60 < p.bags.length → s.link.notices.length = 31 → s.link.waiting = [] →
        ∃ t, exec .doorEyeEdge s = .next t ∧ t.link.waiting = [.palletPart r 2] ∧
          t.transfer.pallets.get? r = some { p with state := .stored, doorTime := some e.stamp } ∧
          t.link.notices = s.link.notices ++ [⟨s.time.lineTime, .palletTransfer sum 1 2 (p.bags.take 60)⟩]) ∧
      ∀ number k b, e.stamp ≤ p.exposureDue → p.bags.length ≤ 60 → 1 ≤ r → r ≤ 8 → Room s 1 →
        s.transfer.waiting = [number] → s.dist.findBag number = some (k, b) → s.dist.bags.get? k = some b →
        s.transfer.building b.lane = none →
        ∃ t q p', exec .doorEyeEdge s = .next t ∧ t.transfer.waiting = [] ∧ t.transfer.pallets.get? q = some p' ∧
          p'.lane = b.lane ∧ p'.bags = [⟨b.number, b.grams.getD 0, b.parcels, b.minCredit⟩] ∧
          (s.dist.bags.wf = true → t.dist.bags.get? k = none)

/-- R95, R149, R155: the shuttle enters FAULTED by an asserting FAULT edge or by the job timer: the job is absent, the cause
recorded, the job timer cancelled, a LOADED pallet stranded, and SHUTTLE_FAULT latched; after the door pass no pallet changes,
whatever number a new one has taken. An exposure expiry quarantines the
pallet, latches EXPOSURE, and makes a BUILDING pallet READY. R157: SHUTTLE RESET is refused WRONG_STATE unless the shuttle is
FAULTED and STILL_ACTIVE while FAULT is asserted; otherwise the shuttle is IDLE, a stranded pallet returns to READY, and the
arbiter chooses. The reply carries its number, or 0. That a job timer expiry does nothing in IDLE and FAULTED (log 34), and an
exposure expiry nothing on a STORED pallet (log 7), is the model's reading; that FAULT is the level last delivered is its choice
(log 46). -/
def Obligations.FaultsExposureAndRecovery : Prop :=
  ((∀ (s : State) (e : Edge) (rest : List Edge), s.powered = true → s.pin = false → s.time.edges = e :: rest →
     e.input = .faultIn → s.time.timers.wf = true →
     (e.rising = false ∨ s.transfer.shuttle.state = .faulted → exec .faultEdge s =
       .next ({ s with time := { s.time with edges := rest }
                       transfer := { s.transfer with
                         shuttle := { s.transfer.shuttle with faultLevel := e.rising } } } : State).finish) ∧
     (e.rising = true → s.transfer.shuttle.state ≠ .faulted →
       ∃ t, exec .faultEdge s = .next t ∧ FaultedFrom s t .input ∧ t.transfer.shuttle.faultLevel = true)) ∧
   (∀ s : State, s.powered = true → s.pin = false → TimerId.shuttleJob ∈ s.time.expired → s.time.timers.wf = true →
     (s.transfer.shuttle.state = .assigned ∨ s.transfer.shuttle.state = .carrying →
       ∃ t, exec .shuttleJobTimerExpiry s = .next t ∧ FaultedFrom s t .timeout) ∧
     (s.transfer.shuttle.state = .idle ∨ s.transfer.shuttle.state = .faulted → exec .shuttleJobTimerExpiry s =
       .next ({ s with time := { s.time with expired := s.time.expired.erase .shuttleJob } } : State).finish)) ∧
   ∀ (s : State) (r : Nat) (p : Pallet), s.powered = true → s.pin = false → 1 ≤ r → r ≤ 8 → TimerId.exposure r ∈ s.time.expired →
     s.transfer.pallets.get? r = some p →
     (p.state = .stored → exec (.exposureTimerExpiry r) s =
       .next ({ s with time := { s.time with expired := s.time.expired.erase (.exposure r) } } : State).finish) ∧
     (p.state ≠ .stored → ∃ t p', exec (.exposureTimerExpiry r) s = .next t ∧ t.transfer.pallets.get? r = some p' ∧
       p'.exposed = true ∧ p'.bags = p.bags ∧ p'.number = p.number ∧
       (p.state ≠ .building → p'.state = p.state) ∧ (p.state = .building → p'.state = .ready ∨ p'.state = .granted) ∧
       t.latch .exposure = true ∧ (∀ y, y ≠ .exposure → t.latch y = s.latch y) ∧
       (s.probe.exposure.route.notify = false → s.probe.exposure.route.stopLine = false → Room s 1 →
         Queued t (.palletExposed p.number p.lane p.slot p.state p.exposureStart p.exposureDue)))) ∧
  ∀ (s : State) (f : Frame), AtHand s .shuttleReset f → f.payload = [] →
    (s.transfer.shuttle.state ≠ .faulted → exec .shuttleReset s = .next (s.replied f (.status .wrongState))) ∧
    (s.transfer.shuttle.state = .faulted → s.transfer.shuttle.faultLevel = true →
      exec .shuttleReset s = .next (s.replied f (.status .stillActive))) ∧
    ∀ s1 : State, s1 = { s with transfer := { s.transfer with
        shuttle := { s.transfer.shuttle with state := .idle, job := none, jobValid := false, cause := none, stranded := none } } } →
      s.transfer.shuttle.state = .faulted → s.transfer.shuttle.faultLevel = false →
      (s.transfer.shuttle.stranded = none → exec .shuttleReset s = .next (s1.arbitrate.replied f (.shuttleReset 0))) ∧
      ∀ number r p, s.transfer.shuttle.stranded = some number → s.transfer.findPallet number = some (r, p) →
        exec .shuttleReset s = .next ((({ s1 with transfer := { s1.transfer with
          pallets := s.transfer.pallets.modify r fun x => { x with state := .ready, readyOrder := s.transfer.lastReady + 1 }
          lastReady := s.transfer.lastReady + 1 } } : State).arbitrate).replied f (.shuttleReset number))

/-! ### Commissioning and the settings store -/

/-- R165, R166, R60: PROVE START's checks in their order; accepted, the proving lot takes the lowest FREE slot and is current,
the record is RUNNING with the request's values, the line is in PROVING with the counters at 0, RUN asserted on every defined
track and at the infeed unless an infeed hold is in force, and the stall timers armed. A lot that was current ceases to be, and
retires when nothing refers to it (R73). That PROVE START clears the BACKED_UP marks is the model's reading (log 21). -/
def Obligations.ProveStartBeginsARun : Prop :=
  ∀ (s : State) (f : Frame) (r n m : Byte), Taken s .proveStart f → f.payload = [r, n, m] →
    ∀ bad incomplete : Prop, bad = (15 < r.toNat ∨ n.toNat < 1 ∨ 32 < n.toNat ∨ 100 < m.toNat) →
    incomplete = (s.track.tracks = [] ∨ (∀ z ∈ s.track.zoneMap, z.kind ≠ .blanch) ∨
      (∃ z ∈ s.track.zoneMap, ∃ c, z.channel = some c ∧ ∀ ch, s.probe.channels.get? c = some ch → ch.enabled = false) ∨
      s.probe.exitChannel = none ∨ s.credit.rates = []) →
    (bad → exec .proveStart s = .next (s.replied f (.status .badValue))) ∧
    (¬bad → CommissionInFlight s → exec .proveStart s = .next (s.replied f (.status .busy))) ∧
    (¬bad → ¬CommissionInFlight s → incomplete → exec .proveStart s = .next (s.replied f (.status .incomplete))) ∧
    (¬bad → ¬CommissionInFlight s → ¬incomplete → StopLatched s →
      exec .proveStart s = .next (s.replied f (.status .tripLatched))) ∧
    (¬bad → ¬CommissionInFlight s → ¬incomplete → ¬StopLatched s → ¬ProbesLive s →
      exec .proveStart s = .next (s.replied f (.status .probeNotLive))) ∧
    (¬bad → ¬CommissionInFlight s → ¬incomplete → ¬StopLatched s → ProbesLive s → s.parcel.lots.freeKey 0 16 = none →
      exec .proveStart s = .next (s.replied f (.status .full))) ∧
    ∀ k recipe, ¬bad → ¬CommissionInFlight s → ¬incomplete → ¬StopLatched s → ProbesLive s →
      s.parcel.lots.freeKey 0 16 = some k → s.credit.recipes.get? r.toNat = some recipe →
      ∃ t, exec .proveStart s = .next t ∧ Replied t f (.status .ok) ∧
        t = { s with line := t.line, time := t.time, track := t.track, parcel := t.parcel, comm := t.comm, link := t.link
                     pins := t.pins } ∧
        t.line = { s.line with state := .proving, origin := none, cause := none } ∧
        t.comm = { s.comm with record := ⟨.running, some
          { recipe := r.toNat, count := n.toNat, margin := m.toNat, required := recipe.requiredCredit
            noted := s.comm.generation, started := s.time.lineTime, ended := none, entries := [] }⟩ } ∧
        t.parcel.current = some k ∧ t.parcel.staged = none ∧ t.parcel.parcels = s.parcel.parcels ∧
        (∃ l, t.parcel.lots.get? k = some l ∧ l.proving = true ∧ l.cls = 0 ∧ l.recipe = r.toNat ∧ l.created = 0 ∧ l.live = 0 ∧
          l.code = [0x50, 0x52, 0x4F, 0x56, 0x49, 0x4E, 0x47, 0x20, 0x20, 0x20, 0x20, 0x20]) ∧
        (∀ j, j ≠ k → s.parcel.current ≠ some j → t.parcel.lots.get? j = s.parcel.lots.get? j) ∧
        (∀ j l, s.parcel.current = some j → s.parcel.lots.get? j = some l →
          (l.live ≠ 0 ∨ l.bagRefs ≠ 0 ∨ l.palletRefs ≠ 0 → t.parcel.lots.get? j = some l) ∧
          ∀ l', l' = { l with retired := some s.time.lineTime } → l.live = 0 → l.bagRefs = 0 → l.palletRefs = 0 → l.retired = none →
            (Room s 1 → s.parcel.lots.wf = true → t.parcel.lots.get? j = none ∧ Queued t (.lotSummary j l')) ∧
            (32 ≤ s.link.notices.length → t.parcel.lots.get? j = some l' ∧ .lotSummary j ∈ t.link.waiting)) ∧
        t.time = { s.time with timers := t.time.timers } ∧
        (TracksInOrder s → ∀ j, t.time.timers.get? j = match s.track.tracks.get? (j + 1) with
          | some tr => some (min (s.time.lineTime + tr.stallLimit) 281474976710655)
          | none => s.time.timers.get? j) ∧
        t.pins.trackRun = ([1, 2, 3, 4].map fun n => (s.track.tracks.get? n).isSome) ∧
        (∀ j, t.track.tracks.get? j = (s.track.tracks.get? j).map fun tr => { tr with counter := 0, backedUp := false }) ∧
        t.pins.infeedRun = !s.infeedHold ∧ (Room s 2 ∨ Room s 1 ∧ s.parcel.current = none →
          Queued t (.lineState .proving (some .setup) .prove none .absent))

/-- R168, R169: an entry is judged on reasons other than CREDIT_SHORT and on credit with the margin; when the N entries are in,
the result is PASS exactly when every entry passed, the current declaration is absent, and the line returns to SETUP. The index
that takes the last test parcel off the last track makes its entry, and the run is complete at the end of that index: PROVING
RESULT and LINE STATE follow its index notice. -/
def Obligations.ProvingRunsEndInAResult : Prop :=
  (∀ (run : ProvingRun) (v : VerdictRecord), entryPasses run v = true ↔
    v.reasons.trip = false ∧ v.reasons.gap = false ∧ v.reasons.manual = false ∧ v.reasons.dwellShort = false ∧
      v.reasons.exitUnknown = false ∧ v.reasons.exitWarm = false ∧ run.required * (100 + run.margin) ≤ v.credit * 100) ∧
  (∀ (s : State) (p : Parcel) (run : ProvingRun) (v : VerdictRecord), s.comm.record = ⟨.running, some run⟩ →
    (p.proving = true → s.takeEntry p (fun r => judgedEntry r v) = { s with comm := { s.comm with record := ⟨.running, some
      { run with entries := run.entries ++
        [⟨v.seq, .judged, v.credit, v.dwell, v.exitValue, v.reasons, entryPasses run v⟩] }⟩ } }) ∧
    (p.proving = false → s.takeEntry p (fun r => judgedEntry r v) = s)) ∧
  (∀ (s : State) (run : ProvingRun), s.comm.record = ⟨.running, some run⟩ →
    (run.entries.length < run.count → s.completeProving = s) ∧
    (run.count ≤ run.entries.length → ∃ t, s.completeProving = t ∧
      t.comm = { s.comm with record :=
        ⟨if run.entries.all (fun x => x.passed) then .pass else .fail, some { run with ended := some s.time.lineTime }⟩ } ∧
      t.parcel.current = none ∧ t.line = { s.line with state := .setup, origin := none, cause := none } ∧
      (∀ n, t.track.tracks.get? n = (s.track.tracks.get? n).map fun tr => { tr with counter := 0 }))) ∧
  ∀ (s : State) (input n : Nat) (presence : Bool) (tr : Track) (k : Nat) (p : Parcel) (run : ProvingRun) (v : VerdictRecord),
    s.powered = true → s.pin = false → 1 ≤ input → input ≤ 4 → s.track.counted input = [n] →
    s.track.tracks.get? n = some tr → n = s.track.tracks.length → s.line.state = .proving → tr.pulses ≤ tr.counter + 1 →
    s.track.cells.get? (s.track.cellOf n tr (tr.segments - 1)) = some k → s.parcel.parcels.get? k = some p → p.proving = true →
    s.comm.record = ⟨.running, some run⟩ → run.entries.length + 1 = run.count → v = s.verdict p s.time.lineTime →
    ∀ entry, entry = ⟨v.seq, .judged, v.credit, v.dwell, v.exitValue, v.reasons, entryPasses run v⟩ →
    ∀ record, record = ⟨if run.entries.all (fun x => x.passed) && entry.passed then .pass else .fail,
        some { run with ended := some s.time.lineTime, entries := run.entries ++ [entry] }⟩ →
    ∃ t, exec (.encoderPulse input presence) s = .next t ∧ t.comm = { s.comm with record := record } ∧
      t.parcel.current = none ∧ t.line = { s.line with state := .setup, origin := none, cause := none } ∧
      (∀ j x, t.track.tracks.get? j = some x → x.counter = 0) ∧
      (Room s 8 → ∃ before, t.link.notices = before ++ [⟨s.time.lineTime, .provingResult record⟩,
          ⟨s.time.lineTime, .lineState .setup (some .proving) .provingDone none .absent⟩] ∧
        (tr.staged.getD tr.mode = .every →
          ⟨s.time.lineTime, .index n ((tr.head + 1) % tr.segments) s.time.lineTime⟩ ∈ before))

/-- R172, R173, R174, R175: COMMISSION, UNLOCK and STORE SAVE: their checks in order; accepted, a save of the present stored
set is in flight with the lock flag its kind gives, and nothing else changes. That the key's level is the one last delivered is
the model's choice (log 46). -/
def Obligations.SavesBegin : Prop :=
  ∀ (s : State) (f : Frame), f.payload = [] →
    (Taken s .commission f →
      ∀ proven : Prop, proven = (∃ run, s.comm.record = ⟨.pass, some run⟩ ∧ run.noted = s.comm.generation) →
      (¬proven → exec .commission s = .next (s.replied f (.status .notProven))) ∧
      (proven → s.comm.key = false → exec .commission s = .next (s.replied f (.status .keyAbsent))) ∧
      (proven → s.comm.key = true → s.store.save ≠ none → exec .commission s = .next (s.replied f (.status .busy))) ∧
      (proven → s.comm.key = true → s.store.save = none → ∃ image, SavedSet s image true ∧
        exec .commission s = .next (({ s with store := { s.store with save := some ⟨.commission, image⟩ } } : State).replied f
          (.status .accepted)))) ∧
    (Taken s .unlock f →
      (s.comm.key = false → exec .unlock s = .next (s.replied f (.status .keyAbsent))) ∧
      (s.comm.key = true → s.store.save ≠ none → exec .unlock s = .next (s.replied f (.status .busy))) ∧
      (s.comm.key = true → s.store.save = none → ∃ image, SavedSet s image false ∧
        exec .unlock s = .next (({ s with store := { s.store with save := some ⟨.unlock, image⟩ } } : State).replied f
          (.status .accepted)))) ∧
    (Taken s .storeSave f →
      (s.store.save ≠ none → exec .storeSave s = .next (s.replied f (.status .busy))) ∧
      (s.store.save = none → ∃ image, SavedSet s image s.comm.locked ∧
        exec .storeSave s = .next (({ s with store := { s.store with save := some ⟨.store, image⟩ } } : State).replied f
          (.status .accepted))))

/-- R12, R171 to R175, R178: the end of a save. The image is what was written, or INVALID after a failure; a completed
COMMISSION locks and takes SETUP to READY, a completed UNLOCK unlocks and takes READY to SETUP, a failure and a STORE SAVE
change neither; STORE RESULT is queued, or owed while the pin is asserted, when the line state stands. -/
def Obligations.SavesEnd : Prop :=
  ∀ (s : State) (v : Save) (ok : Bool), s.powered = true → s.store.save = some v →
    ∀ locked : Bool, locked = (if ok = true ∧ v.kind = .commission then true else if ok = true ∧ v.kind = .unlock then false
      else s.comm.locked) → LockFollowsLine s →
    ∃ t, exec (.saveEnd ok) s = .next t ∧
      t = { s with line := t.line, track := t.track, comm := { s.comm with locked := locked }, store := t.store
                   link := t.link, pins := t.pins } ∧
      t.store.image = (if ok then some v.image else none) ∧ t.store.save = none ∧
      (s.pin = true → t.line = s.line ∧ t.track = s.track ∧ t.link = s.link ∧
        t.store.owed = some (v.kind, ok, v.image.generation)) ∧
      (s.pin = false → t.store.owed = s.store.owed ∧
        (Room s 1 → Queued t (.storeResult v.kind ok v.image.generation)) ∧
        (ok = true → v.kind = .commission → t.line = { s.line with state := .ready, origin := none, cause := none } ∧
          (Room s 2 → Queued t (.lineState .ready (some .setup) .commissioned none .absent))) ∧
        (ok = true → v.kind = .unlock → t.line = { s.line with state := .setup, origin := none, cause := none } ∧
          (Room s 2 → Queued t (.lineState .setup (some .ready) .unlocked none .absent))) ∧
        (ok = false ∨ v.kind = .store → t.line = s.line ∧ t.track = s.track))

/-! ### Invariants -/

/-- R71: whatever command is taken, every lot's created count stays the sum of its live, released, held, redirected and lost
counts. -/
def Obligations.LotsStayBalanced : Prop := ∀ s t : State, LotsBalanced s → step s = .next t → LotsBalanced t

/-- R17, R18, R22, R24: whatever command is taken, line time, accumulator, trim and every due stay in their ranges. R182, R185:
whatever command is taken, the queues of the link hold no more than their places. -/
def Obligations.RangesAreKept : Prop :=
  (∀ s t : State, TimeInRange s → step s = .next t → TimeInRange t) ∧
  ∀ s t : State, LinkInBounds s → step s = .next t → LinkInBounds t

/-- Whatever command is taken, the tables whose entries come and go keep their canonical form. R33, R80, R119, R122: whatever
command is taken, tracks stay defined in order from 1, and channels, lanes and lane sets keep their numbers. -/
def Obligations.TablesAndNumbersAreKept : Prop :=
  (∀ s t : State, TablesCanonical s → step s = .next t → TablesCanonical t) ∧
  ∀ s t : State, TracksInOrder s → UnitsNumbered s → step s = .next t → TracksInOrder t ∧ UnitsNumbered t

/-- Chapter 1, R12, R15, R172, R173: whatever command is taken, the lock is the one the line state carries, except while the
line reset pin is asserted. The premise that the proving record is RUNNING exactly in PROVING is itself kept by every step
(ProvingKeepsFollowingLine); it rules out a RUNNING record on a LOCKED line, which no run reaches and which the end of an index
(R169) would take to SETUP still LOCKED. -/
def Obligations.LockKeepsFollowingLine : Prop :=
  ∀ s t : State, LockFollowsLine s → ProvingFollowsLine s → step s = .next t → LockFollowsLine t

/-- R166, R169, R170, R176: whatever command is taken, the proving record is RUNNING exactly in PROVING. -/
def Obligations.ProvingKeepsFollowingLine : Prop := ∀ s t : State, ProvingFollowsLine s → step s = .next t → ProvingFollowsLine t

/-- Every invariant holds right after reset. The reset state is what power-on with an INVALID image, deasserted inputs and low
straps leaves (the model's choice of image and levels, log 1; its values, R16, R31, R76, R98, R117, R141, R161, R176, R178,
R191). -/
def Obligations.ResetState : Prop :=
  (LotsBalanced State.reset ∧ TimeInRange State.reset ∧ LinkInBounds State.reset ∧ TablesCanonical State.reset ∧
     LockFollowsLine State.reset ∧ ProvingFollowsLine State.reset ∧ TracksInOrder State.reset ∧ UnitsNumbered State.reset) ∧
  ∀ s : State, s.store.image = none → s.draws = 0 → s.pending = [] → exec (.powerOn [] false false) s = .next State.reset
end

