-- ==== Sys2Proof/Laws/State.lean ====
section
/-! SUPPORT. One lemma for each field under each update of a block: the block's own field is what the update makes of it, every
other field is as it was. -/

namespace Sys2Proof.Machine

/-! ### onLine -/

@[simp] theorem State.onLine_powered (s : State) (f : LineUnit → LineUnit) : (s.onLine f).powered = s.powered := rfl
@[simp] theorem State.onLine_pin (s : State) (f : LineUnit → LineUnit) : (s.onLine f).pin = s.pin := rfl
@[simp] theorem State.onLine_line (s : State) (f : LineUnit → LineUnit) : (s.onLine f).line = f s.line := rfl
@[simp] theorem State.onLine_time (s : State) (f : LineUnit → LineUnit) : (s.onLine f).time = s.time := rfl
@[simp] theorem State.onLine_track (s : State) (f : LineUnit → LineUnit) : (s.onLine f).track = s.track := rfl
@[simp] theorem State.onLine_parcel (s : State) (f : LineUnit → LineUnit) : (s.onLine f).parcel = s.parcel := rfl
@[simp] theorem State.onLine_probe (s : State) (f : LineUnit → LineUnit) : (s.onLine f).probe = s.probe := rfl
@[simp] theorem State.onLine_credit (s : State) (f : LineUnit → LineUnit) : (s.onLine f).credit = s.credit := rfl
@[simp] theorem State.onLine_dist (s : State) (f : LineUnit → LineUnit) : (s.onLine f).dist = s.dist := rfl
@[simp] theorem State.onLine_transfer (s : State) (f : LineUnit → LineUnit) : (s.onLine f).transfer = s.transfer := rfl
@[simp] theorem State.onLine_comm (s : State) (f : LineUnit → LineUnit) : (s.onLine f).comm = s.comm := rfl
@[simp] theorem State.onLine_store (s : State) (f : LineUnit → LineUnit) : (s.onLine f).store = s.store := rfl
@[simp] theorem State.onLine_link (s : State) (f : LineUnit → LineUnit) : (s.onLine f).link = s.link := rfl
@[simp] theorem State.onLine_pins (s : State) (f : LineUnit → LineUnit) : (s.onLine f).pins = s.pins := rfl
@[simp] theorem State.onLine_draws (s : State) (f : LineUnit → LineUnit) : (s.onLine f).draws = s.draws := rfl
@[simp] theorem State.onLine_pending (s : State) (f : LineUnit → LineUnit) : (s.onLine f).pending = s.pending := rfl

/-! ### onTime -/

@[simp] theorem State.onTime_powered (s : State) (f : TimeUnit → TimeUnit) : (s.onTime f).powered = s.powered := rfl
@[simp] theorem State.onTime_pin (s : State) (f : TimeUnit → TimeUnit) : (s.onTime f).pin = s.pin := rfl
@[simp] theorem State.onTime_line (s : State) (f : TimeUnit → TimeUnit) : (s.onTime f).line = s.line := rfl
@[simp] theorem State.onTime_time (s : State) (f : TimeUnit → TimeUnit) : (s.onTime f).time = f s.time := rfl
@[simp] theorem State.onTime_track (s : State) (f : TimeUnit → TimeUnit) : (s.onTime f).track = s.track := rfl
@[simp] theorem State.onTime_parcel (s : State) (f : TimeUnit → TimeUnit) : (s.onTime f).parcel = s.parcel := rfl
@[simp] theorem State.onTime_probe (s : State) (f : TimeUnit → TimeUnit) : (s.onTime f).probe = s.probe := rfl
@[simp] theorem State.onTime_credit (s : State) (f : TimeUnit → TimeUnit) : (s.onTime f).credit = s.credit := rfl
@[simp] theorem State.onTime_dist (s : State) (f : TimeUnit → TimeUnit) : (s.onTime f).dist = s.dist := rfl
@[simp] theorem State.onTime_transfer (s : State) (f : TimeUnit → TimeUnit) : (s.onTime f).transfer = s.transfer := rfl
@[simp] theorem State.onTime_comm (s : State) (f : TimeUnit → TimeUnit) : (s.onTime f).comm = s.comm := rfl
@[simp] theorem State.onTime_store (s : State) (f : TimeUnit → TimeUnit) : (s.onTime f).store = s.store := rfl
@[simp] theorem State.onTime_link (s : State) (f : TimeUnit → TimeUnit) : (s.onTime f).link = s.link := rfl
@[simp] theorem State.onTime_pins (s : State) (f : TimeUnit → TimeUnit) : (s.onTime f).pins = s.pins := rfl
@[simp] theorem State.onTime_draws (s : State) (f : TimeUnit → TimeUnit) : (s.onTime f).draws = s.draws := rfl
@[simp] theorem State.onTime_pending (s : State) (f : TimeUnit → TimeUnit) : (s.onTime f).pending = s.pending := rfl

/-! ### onTrack -/

@[simp] theorem State.onTrack_powered (s : State) (f : TrackUnit → TrackUnit) : (s.onTrack f).powered = s.powered := rfl
@[simp] theorem State.onTrack_pin (s : State) (f : TrackUnit → TrackUnit) : (s.onTrack f).pin = s.pin := rfl
@[simp] theorem State.onTrack_line (s : State) (f : TrackUnit → TrackUnit) : (s.onTrack f).line = s.line := rfl
@[simp] theorem State.onTrack_time (s : State) (f : TrackUnit → TrackUnit) : (s.onTrack f).time = s.time := rfl
@[simp] theorem State.onTrack_track (s : State) (f : TrackUnit → TrackUnit) : (s.onTrack f).track = f s.track := rfl
@[simp] theorem State.onTrack_parcel (s : State) (f : TrackUnit → TrackUnit) : (s.onTrack f).parcel = s.parcel := rfl
@[simp] theorem State.onTrack_probe (s : State) (f : TrackUnit → TrackUnit) : (s.onTrack f).probe = s.probe := rfl
@[simp] theorem State.onTrack_credit (s : State) (f : TrackUnit → TrackUnit) : (s.onTrack f).credit = s.credit := rfl
@[simp] theorem State.onTrack_dist (s : State) (f : TrackUnit → TrackUnit) : (s.onTrack f).dist = s.dist := rfl
@[simp] theorem State.onTrack_transfer (s : State) (f : TrackUnit → TrackUnit) : (s.onTrack f).transfer = s.transfer := rfl
@[simp] theorem State.onTrack_comm (s : State) (f : TrackUnit → TrackUnit) : (s.onTrack f).comm = s.comm := rfl
@[simp] theorem State.onTrack_store (s : State) (f : TrackUnit → TrackUnit) : (s.onTrack f).store = s.store := rfl
@[simp] theorem State.onTrack_link (s : State) (f : TrackUnit → TrackUnit) : (s.onTrack f).link = s.link := rfl
@[simp] theorem State.onTrack_pins (s : State) (f : TrackUnit → TrackUnit) : (s.onTrack f).pins = s.pins := rfl
@[simp] theorem State.onTrack_draws (s : State) (f : TrackUnit → TrackUnit) : (s.onTrack f).draws = s.draws := rfl
@[simp] theorem State.onTrack_pending (s : State) (f : TrackUnit → TrackUnit) : (s.onTrack f).pending = s.pending := rfl

/-! ### onParcel -/

@[simp] theorem State.onParcel_powered (s : State) (f : ParcelUnit → ParcelUnit) : (s.onParcel f).powered = s.powered := rfl
@[simp] theorem State.onParcel_pin (s : State) (f : ParcelUnit → ParcelUnit) : (s.onParcel f).pin = s.pin := rfl
@[simp] theorem State.onParcel_line (s : State) (f : ParcelUnit → ParcelUnit) : (s.onParcel f).line = s.line := rfl
@[simp] theorem State.onParcel_time (s : State) (f : ParcelUnit → ParcelUnit) : (s.onParcel f).time = s.time := rfl
@[simp] theorem State.onParcel_track (s : State) (f : ParcelUnit → ParcelUnit) : (s.onParcel f).track = s.track := rfl
@[simp] theorem State.onParcel_parcel (s : State) (f : ParcelUnit → ParcelUnit) : (s.onParcel f).parcel = f s.parcel := rfl
@[simp] theorem State.onParcel_probe (s : State) (f : ParcelUnit → ParcelUnit) : (s.onParcel f).probe = s.probe := rfl
@[simp] theorem State.onParcel_credit (s : State) (f : ParcelUnit → ParcelUnit) : (s.onParcel f).credit = s.credit := rfl
@[simp] theorem State.onParcel_dist (s : State) (f : ParcelUnit → ParcelUnit) : (s.onParcel f).dist = s.dist := rfl
@[simp] theorem State.onParcel_transfer (s : State) (f : ParcelUnit → ParcelUnit) : (s.onParcel f).transfer = s.transfer := rfl
@[simp] theorem State.onParcel_comm (s : State) (f : ParcelUnit → ParcelUnit) : (s.onParcel f).comm = s.comm := rfl
@[simp] theorem State.onParcel_store (s : State) (f : ParcelUnit → ParcelUnit) : (s.onParcel f).store = s.store := rfl
@[simp] theorem State.onParcel_link (s : State) (f : ParcelUnit → ParcelUnit) : (s.onParcel f).link = s.link := rfl
@[simp] theorem State.onParcel_pins (s : State) (f : ParcelUnit → ParcelUnit) : (s.onParcel f).pins = s.pins := rfl
@[simp] theorem State.onParcel_draws (s : State) (f : ParcelUnit → ParcelUnit) : (s.onParcel f).draws = s.draws := rfl
@[simp] theorem State.onParcel_pending (s : State) (f : ParcelUnit → ParcelUnit) : (s.onParcel f).pending = s.pending := rfl

/-! ### onProbe -/

@[simp] theorem State.onProbe_powered (s : State) (f : ProbeUnit → ProbeUnit) : (s.onProbe f).powered = s.powered := rfl
@[simp] theorem State.onProbe_pin (s : State) (f : ProbeUnit → ProbeUnit) : (s.onProbe f).pin = s.pin := rfl
@[simp] theorem State.onProbe_line (s : State) (f : ProbeUnit → ProbeUnit) : (s.onProbe f).line = s.line := rfl
@[simp] theorem State.onProbe_time (s : State) (f : ProbeUnit → ProbeUnit) : (s.onProbe f).time = s.time := rfl
@[simp] theorem State.onProbe_track (s : State) (f : ProbeUnit → ProbeUnit) : (s.onProbe f).track = s.track := rfl
@[simp] theorem State.onProbe_parcel (s : State) (f : ProbeUnit → ProbeUnit) : (s.onProbe f).parcel = s.parcel := rfl
@[simp] theorem State.onProbe_probe (s : State) (f : ProbeUnit → ProbeUnit) : (s.onProbe f).probe = f s.probe := rfl
@[simp] theorem State.onProbe_credit (s : State) (f : ProbeUnit → ProbeUnit) : (s.onProbe f).credit = s.credit := rfl
@[simp] theorem State.onProbe_dist (s : State) (f : ProbeUnit → ProbeUnit) : (s.onProbe f).dist = s.dist := rfl
@[simp] theorem State.onProbe_transfer (s : State) (f : ProbeUnit → ProbeUnit) : (s.onProbe f).transfer = s.transfer := rfl
@[simp] theorem State.onProbe_comm (s : State) (f : ProbeUnit → ProbeUnit) : (s.onProbe f).comm = s.comm := rfl
@[simp] theorem State.onProbe_store (s : State) (f : ProbeUnit → ProbeUnit) : (s.onProbe f).store = s.store := rfl
@[simp] theorem State.onProbe_link (s : State) (f : ProbeUnit → ProbeUnit) : (s.onProbe f).link = s.link := rfl
@[simp] theorem State.onProbe_pins (s : State) (f : ProbeUnit → ProbeUnit) : (s.onProbe f).pins = s.pins := rfl
@[simp] theorem State.onProbe_draws (s : State) (f : ProbeUnit → ProbeUnit) : (s.onProbe f).draws = s.draws := rfl
@[simp] theorem State.onProbe_pending (s : State) (f : ProbeUnit → ProbeUnit) : (s.onProbe f).pending = s.pending := rfl

/-! ### onCredit -/

@[simp] theorem State.onCredit_powered (s : State) (f : CreditUnit → CreditUnit) : (s.onCredit f).powered = s.powered := rfl
@[simp] theorem State.onCredit_pin (s : State) (f : CreditUnit → CreditUnit) : (s.onCredit f).pin = s.pin := rfl
@[simp] theorem State.onCredit_line (s : State) (f : CreditUnit → CreditUnit) : (s.onCredit f).line = s.line := rfl
@[simp] theorem State.onCredit_time (s : State) (f : CreditUnit → CreditUnit) : (s.onCredit f).time = s.time := rfl
@[simp] theorem State.onCredit_track (s : State) (f : CreditUnit → CreditUnit) : (s.onCredit f).track = s.track := rfl
@[simp] theorem State.onCredit_parcel (s : State) (f : CreditUnit → CreditUnit) : (s.onCredit f).parcel = s.parcel := rfl
@[simp] theorem State.onCredit_probe (s : State) (f : CreditUnit → CreditUnit) : (s.onCredit f).probe = s.probe := rfl
@[simp] theorem State.onCredit_credit (s : State) (f : CreditUnit → CreditUnit) : (s.onCredit f).credit = f s.credit := rfl
@[simp] theorem State.onCredit_dist (s : State) (f : CreditUnit → CreditUnit) : (s.onCredit f).dist = s.dist := rfl
@[simp] theorem State.onCredit_transfer (s : State) (f : CreditUnit → CreditUnit) : (s.onCredit f).transfer = s.transfer := rfl
@[simp] theorem State.onCredit_comm (s : State) (f : CreditUnit → CreditUnit) : (s.onCredit f).comm = s.comm := rfl
@[simp] theorem State.onCredit_store (s : State) (f : CreditUnit → CreditUnit) : (s.onCredit f).store = s.store := rfl
@[simp] theorem State.onCredit_link (s : State) (f : CreditUnit → CreditUnit) : (s.onCredit f).link = s.link := rfl
@[simp] theorem State.onCredit_pins (s : State) (f : CreditUnit → CreditUnit) : (s.onCredit f).pins = s.pins := rfl
@[simp] theorem State.onCredit_draws (s : State) (f : CreditUnit → CreditUnit) : (s.onCredit f).draws = s.draws := rfl
@[simp] theorem State.onCredit_pending (s : State) (f : CreditUnit → CreditUnit) : (s.onCredit f).pending = s.pending := rfl

/-! ### onDist -/

@[simp] theorem State.onDist_powered (s : State) (f : DistributionUnit → DistributionUnit) : (s.onDist f).powered = s.powered := rfl
@[simp] theorem State.onDist_pin (s : State) (f : DistributionUnit → DistributionUnit) : (s.onDist f).pin = s.pin := rfl
@[simp] theorem State.onDist_line (s : State) (f : DistributionUnit → DistributionUnit) : (s.onDist f).line = s.line := rfl
@[simp] theorem State.onDist_time (s : State) (f : DistributionUnit → DistributionUnit) : (s.onDist f).time = s.time := rfl
@[simp] theorem State.onDist_track (s : State) (f : DistributionUnit → DistributionUnit) : (s.onDist f).track = s.track := rfl
@[simp] theorem State.onDist_parcel (s : State) (f : DistributionUnit → DistributionUnit) : (s.onDist f).parcel = s.parcel := rfl
@[simp] theorem State.onDist_probe (s : State) (f : DistributionUnit → DistributionUnit) : (s.onDist f).probe = s.probe := rfl
@[simp] theorem State.onDist_credit (s : State) (f : DistributionUnit → DistributionUnit) : (s.onDist f).credit = s.credit := rfl
@[simp] theorem State.onDist_dist (s : State) (f : DistributionUnit → DistributionUnit) : (s.onDist f).dist = f s.dist := rfl
@[simp] theorem State.onDist_transfer (s : State) (f : DistributionUnit → DistributionUnit) : (s.onDist f).transfer = s.transfer := rfl
@[simp] theorem State.onDist_comm (s : State) (f : DistributionUnit → DistributionUnit) : (s.onDist f).comm = s.comm := rfl
@[simp] theorem State.onDist_store (s : State) (f : DistributionUnit → DistributionUnit) : (s.onDist f).store = s.store := rfl
@[simp] theorem State.onDist_link (s : State) (f : DistributionUnit → DistributionUnit) : (s.onDist f).link = s.link := rfl
@[simp] theorem State.onDist_pins (s : State) (f : DistributionUnit → DistributionUnit) : (s.onDist f).pins = s.pins := rfl
@[simp] theorem State.onDist_draws (s : State) (f : DistributionUnit → DistributionUnit) : (s.onDist f).draws = s.draws := rfl
@[simp] theorem State.onDist_pending (s : State) (f : DistributionUnit → DistributionUnit) : (s.onDist f).pending = s.pending := rfl

/-! ### onTransfer -/

@[simp] theorem State.onTransfer_powered (s : State) (f : TransferUnit → TransferUnit) : (s.onTransfer f).powered = s.powered := rfl
@[simp] theorem State.onTransfer_pin (s : State) (f : TransferUnit → TransferUnit) : (s.onTransfer f).pin = s.pin := rfl
@[simp] theorem State.onTransfer_line (s : State) (f : TransferUnit → TransferUnit) : (s.onTransfer f).line = s.line := rfl
@[simp] theorem State.onTransfer_time (s : State) (f : TransferUnit → TransferUnit) : (s.onTransfer f).time = s.time := rfl
@[simp] theorem State.onTransfer_track (s : State) (f : TransferUnit → TransferUnit) : (s.onTransfer f).track = s.track := rfl
@[simp] theorem State.onTransfer_parcel (s : State) (f : TransferUnit → TransferUnit) : (s.onTransfer f).parcel = s.parcel := rfl
@[simp] theorem State.onTransfer_probe (s : State) (f : TransferUnit → TransferUnit) : (s.onTransfer f).probe = s.probe := rfl
@[simp] theorem State.onTransfer_credit (s : State) (f : TransferUnit → TransferUnit) : (s.onTransfer f).credit = s.credit := rfl
@[simp] theorem State.onTransfer_dist (s : State) (f : TransferUnit → TransferUnit) : (s.onTransfer f).dist = s.dist := rfl
@[simp] theorem State.onTransfer_transfer (s : State) (f : TransferUnit → TransferUnit) : (s.onTransfer f).transfer = f s.transfer := rfl
@[simp] theorem State.onTransfer_comm (s : State) (f : TransferUnit → TransferUnit) : (s.onTransfer f).comm = s.comm := rfl
@[simp] theorem State.onTransfer_store (s : State) (f : TransferUnit → TransferUnit) : (s.onTransfer f).store = s.store := rfl
@[simp] theorem State.onTransfer_link (s : State) (f : TransferUnit → TransferUnit) : (s.onTransfer f).link = s.link := rfl
@[simp] theorem State.onTransfer_pins (s : State) (f : TransferUnit → TransferUnit) : (s.onTransfer f).pins = s.pins := rfl
@[simp] theorem State.onTransfer_draws (s : State) (f : TransferUnit → TransferUnit) : (s.onTransfer f).draws = s.draws := rfl
@[simp] theorem State.onTransfer_pending (s : State) (f : TransferUnit → TransferUnit) : (s.onTransfer f).pending = s.pending := rfl

/-! ### onComm -/

@[simp] theorem State.onComm_powered (s : State) (f : CommissionUnit → CommissionUnit) : (s.onComm f).powered = s.powered := rfl
@[simp] theorem State.onComm_pin (s : State) (f : CommissionUnit → CommissionUnit) : (s.onComm f).pin = s.pin := rfl
@[simp] theorem State.onComm_line (s : State) (f : CommissionUnit → CommissionUnit) : (s.onComm f).line = s.line := rfl
@[simp] theorem State.onComm_time (s : State) (f : CommissionUnit → CommissionUnit) : (s.onComm f).time = s.time := rfl
@[simp] theorem State.onComm_track (s : State) (f : CommissionUnit → CommissionUnit) : (s.onComm f).track = s.track := rfl
@[simp] theorem State.onComm_parcel (s : State) (f : CommissionUnit → CommissionUnit) : (s.onComm f).parcel = s.parcel := rfl
@[simp] theorem State.onComm_probe (s : State) (f : CommissionUnit → CommissionUnit) : (s.onComm f).probe = s.probe := rfl
@[simp] theorem State.onComm_credit (s : State) (f : CommissionUnit → CommissionUnit) : (s.onComm f).credit = s.credit := rfl
@[simp] theorem State.onComm_dist (s : State) (f : CommissionUnit → CommissionUnit) : (s.onComm f).dist = s.dist := rfl
@[simp] theorem State.onComm_transfer (s : State) (f : CommissionUnit → CommissionUnit) : (s.onComm f).transfer = s.transfer := rfl
@[simp] theorem State.onComm_comm (s : State) (f : CommissionUnit → CommissionUnit) : (s.onComm f).comm = f s.comm := rfl
@[simp] theorem State.onComm_store (s : State) (f : CommissionUnit → CommissionUnit) : (s.onComm f).store = s.store := rfl
@[simp] theorem State.onComm_link (s : State) (f : CommissionUnit → CommissionUnit) : (s.onComm f).link = s.link := rfl
@[simp] theorem State.onComm_pins (s : State) (f : CommissionUnit → CommissionUnit) : (s.onComm f).pins = s.pins := rfl
@[simp] theorem State.onComm_draws (s : State) (f : CommissionUnit → CommissionUnit) : (s.onComm f).draws = s.draws := rfl
@[simp] theorem State.onComm_pending (s : State) (f : CommissionUnit → CommissionUnit) : (s.onComm f).pending = s.pending := rfl

/-! ### onStore -/

@[simp] theorem State.onStore_powered (s : State) (f : StoreUnit → StoreUnit) : (s.onStore f).powered = s.powered := rfl
@[simp] theorem State.onStore_pin (s : State) (f : StoreUnit → StoreUnit) : (s.onStore f).pin = s.pin := rfl
@[simp] theorem State.onStore_line (s : State) (f : StoreUnit → StoreUnit) : (s.onStore f).line = s.line := rfl
@[simp] theorem State.onStore_time (s : State) (f : StoreUnit → StoreUnit) : (s.onStore f).time = s.time := rfl
@[simp] theorem State.onStore_track (s : State) (f : StoreUnit → StoreUnit) : (s.onStore f).track = s.track := rfl
@[simp] theorem State.onStore_parcel (s : State) (f : StoreUnit → StoreUnit) : (s.onStore f).parcel = s.parcel := rfl
@[simp] theorem State.onStore_probe (s : State) (f : StoreUnit → StoreUnit) : (s.onStore f).probe = s.probe := rfl
@[simp] theorem State.onStore_credit (s : State) (f : StoreUnit → StoreUnit) : (s.onStore f).credit = s.credit := rfl
@[simp] theorem State.onStore_dist (s : State) (f : StoreUnit → StoreUnit) : (s.onStore f).dist = s.dist := rfl
@[simp] theorem State.onStore_transfer (s : State) (f : StoreUnit → StoreUnit) : (s.onStore f).transfer = s.transfer := rfl
@[simp] theorem State.onStore_comm (s : State) (f : StoreUnit → StoreUnit) : (s.onStore f).comm = s.comm := rfl
@[simp] theorem State.onStore_store (s : State) (f : StoreUnit → StoreUnit) : (s.onStore f).store = f s.store := rfl
@[simp] theorem State.onStore_link (s : State) (f : StoreUnit → StoreUnit) : (s.onStore f).link = s.link := rfl
@[simp] theorem State.onStore_pins (s : State) (f : StoreUnit → StoreUnit) : (s.onStore f).pins = s.pins := rfl
@[simp] theorem State.onStore_draws (s : State) (f : StoreUnit → StoreUnit) : (s.onStore f).draws = s.draws := rfl
@[simp] theorem State.onStore_pending (s : State) (f : StoreUnit → StoreUnit) : (s.onStore f).pending = s.pending := rfl

/-! ### onLink -/

@[simp] theorem State.onLink_powered (s : State) (f : LinkUnit → LinkUnit) : (s.onLink f).powered = s.powered := rfl
@[simp] theorem State.onLink_pin (s : State) (f : LinkUnit → LinkUnit) : (s.onLink f).pin = s.pin := rfl
@[simp] theorem State.onLink_line (s : State) (f : LinkUnit → LinkUnit) : (s.onLink f).line = s.line := rfl
@[simp] theorem State.onLink_time (s : State) (f : LinkUnit → LinkUnit) : (s.onLink f).time = s.time := rfl
@[simp] theorem State.onLink_track (s : State) (f : LinkUnit → LinkUnit) : (s.onLink f).track = s.track := rfl
@[simp] theorem State.onLink_parcel (s : State) (f : LinkUnit → LinkUnit) : (s.onLink f).parcel = s.parcel := rfl
@[simp] theorem State.onLink_probe (s : State) (f : LinkUnit → LinkUnit) : (s.onLink f).probe = s.probe := rfl
@[simp] theorem State.onLink_credit (s : State) (f : LinkUnit → LinkUnit) : (s.onLink f).credit = s.credit := rfl
@[simp] theorem State.onLink_dist (s : State) (f : LinkUnit → LinkUnit) : (s.onLink f).dist = s.dist := rfl
@[simp] theorem State.onLink_transfer (s : State) (f : LinkUnit → LinkUnit) : (s.onLink f).transfer = s.transfer := rfl
@[simp] theorem State.onLink_comm (s : State) (f : LinkUnit → LinkUnit) : (s.onLink f).comm = s.comm := rfl
@[simp] theorem State.onLink_store (s : State) (f : LinkUnit → LinkUnit) : (s.onLink f).store = s.store := rfl
@[simp] theorem State.onLink_link (s : State) (f : LinkUnit → LinkUnit) : (s.onLink f).link = f s.link := rfl
@[simp] theorem State.onLink_pins (s : State) (f : LinkUnit → LinkUnit) : (s.onLink f).pins = s.pins := rfl
@[simp] theorem State.onLink_draws (s : State) (f : LinkUnit → LinkUnit) : (s.onLink f).draws = s.draws := rfl
@[simp] theorem State.onLink_pending (s : State) (f : LinkUnit → LinkUnit) : (s.onLink f).pending = s.pending := rfl

end Sys2Proof.Machine
end

