-- ==== Sys2Proof/Laws/Table.lean ====
section
/-! SUPPORT. What the operations over a table of records do: a read after a write, and the canonical form kept. -/

namespace Sys2Proof.Machine

variable {α β : Type}

/-! ### Reading after writing -/

@[simp] theorem Table.get?_nil (k : Nat) : Table.get? ([] : Table α) k = none := rfl

/-- The record just written is read back. -/
@[simp] theorem Table.get?_put_self (t : Table α) (k : Nat) (v : α) : (t.put k v).get? k = some v := by
  induction t with
  | nil => simp [Table.put, Table.get?]
  | cons e t ih =>
    obtain ⟨k', v'⟩ := e
    unfold Table.put
    split
    · simp [Table.get?]
    · split
      · simp [Table.get?]
      · next h => simp [Table.get?, h, ih]

/-- A write under another key leaves a record as it was. -/
theorem Table.get?_put_ne (t : Table α) {j k : Nat} (v : α) (h : j ≠ k) : (t.put k v).get? j = t.get? j := by
  induction t with
  | nil => simp [Table.put, Table.get?, h]
  | cons e t ih =>
    obtain ⟨k', v'⟩ := e
    unfold Table.put
    split
    · simp [Table.get?, h]
    · split
      · next h' => subst h'; simp [Table.get?, h]
      · simp [Table.get?, ih]

/-- A read of a table whose records have been changed. -/
@[simp] theorem Table.get?_mapVals (f : Nat → α → β) (t : Table α) (k : Nat) :
    (t.mapVals f).get? k = (t.get? k).map (f k) := by
  induction t with
  | nil => rfl
  | cons e t ih =>
    obtain ⟨k', v'⟩ := e
    simp only [Table.mapVals, Table.get?]
    split
    · next h => subst h; rfl
    · exact ih

/-- A read of the record that was changed. -/
@[simp] theorem Table.get?_modify_self (t : Table α) (k : Nat) (f : α → α) : (t.modify k f).get? k = (t.get? k).map f := by
  simp [Table.modify]

/-- A read of a record that was not changed. -/
theorem Table.get?_modify_ne (t : Table α) {j k : Nat} (f : α → α) (h : j ≠ k) : (t.modify k f).get? j = t.get? j := by
  simp [Table.modify, h]

/-- A deletion leaves the other records as they were. -/
theorem Table.get?_del_ne (t : Table α) {j k : Nat} (h : j ≠ k) : (t.del k).get? j = t.get? j := by
  induction t with
  | nil => rfl
  | cons e t ih =>
    obtain ⟨k', v'⟩ := e
    unfold Table.del
    split
    · next h' => subst h'; simp [Table.get?, h]
    · simp [Table.get?, ih]

@[simp] theorem Table.length_mapVals (f : Nat → α → β) (t : Table α) : (t.mapVals f).length = t.length := by
  induction t with
  | nil => rfl
  | cons e t ih => obtain ⟨k', v'⟩ := e; simp [Table.mapVals, ih]

/-- Two functions that agree on the entries of a table make the same table of it. -/
theorem Table.mapVals_congr {f g : Nat → α → β} {t : Table α} (h : ∀ e ∈ t, f e.1 e.2 = g e.1 e.2) : t.mapVals f = t.mapVals g := by
  induction t with
  | nil => rfl
  | cons e t ih =>
    obtain ⟨k, v⟩ := e
    simp only [Table.mapVals, h (k, v) (List.mem_cons_self ..), ih fun e he => h e (List.mem_cons_of_mem _ he)]

/-- The keys of a table whose records have been changed. -/
@[simp] theorem Table.keys_mapVals (f : Nat → α → β) (t : Table α) :
    (t.mapVals f).map (fun e => e.1) = t.map fun e => e.1 := by
  induction t with
  | nil => rfl
  | cons e t ih => obtain ⟨k', v'⟩ := e; simp [Table.mapVals, ih]

/-- A record read from a table is one of its entries. -/
theorem Table.mem_of_get? {t : Table α} {k : Nat} {v : α} (h : t.get? k = some v) : (k, v) ∈ t := by
  induction t with
  | nil => simp at h
  | cons e t ih =>
    obtain ⟨k', v'⟩ := e
    simp only [Table.get?] at h
    split at h
    · next h' => subst h'; cases h; simp
    · exact List.mem_cons_of_mem _ (ih h)

/-! ### The free key -/

/-- A free key lies in its range and the table does not hold it. -/
theorem Table.freeKey_spec {t : Table α} {k n j : Nat} (h : t.freeKey k n = some j) :
    k ≤ j ∧ j < k + n ∧ t.get? j = none := by
  induction n generalizing k with
  | zero => simp [Table.freeKey] at h
  | succ n ih =>
    simp only [Table.freeKey] at h
    split at h
    · next h' =>
      have e : k = j := by simpa using h
      subst e
      exact ⟨Nat.le_refl _, by omega, by simpa using h'⟩
    · obtain ⟨a, b, c⟩ := ih h
      exact ⟨by omega, by omega, c⟩

/-- Without a free key the table holds every key of the range. -/
theorem Table.freeKey_none {t : Table α} {k n : Nat} (h : t.freeKey k n = none) :
    ∀ j, k ≤ j → j < k + n → (t.get? j).isSome = true := by
  induction n generalizing k with
  | zero => intro j h1 h2; omega
  | succ n ih =>
    simp only [Table.freeKey] at h
    split at h
    · simp at h
    · next h' =>
      intro j h1 h2
      rcases Nat.eq_or_lt_of_le h1 with e | e
      · subst e; cases hk : t.get? k <;> simp_all
      · exact ih h j e (by omega)

/-! ### The canonical form -/

/-- The canonical form, said of the keys. -/
theorem Table.wf_iff (t : Table α) : t.wf = true ↔ (t.map fun e => e.1).Pairwise (· < ·) := by
  induction t with
  | nil => simp [Table.wf]
  | cons e t ih =>
    obtain ⟨k, v⟩ := e
    cases t with
    | nil => simp [Table.wf]
    | cons e' t =>
      obtain ⟨k', v'⟩ := e'
      simp only [Table.wf, Bool.and_eq_true, decide_eq_true_eq, ih]
      simp only [List.map_cons, List.pairwise_cons, List.mem_cons, List.mem_map]
      constructor
      · rintro ⟨h, h1, h2⟩
        refine ⟨?_, h1, h2⟩
        rintro a (rfl | ⟨e, he, rfl⟩)
        · exact h
        · exact Nat.lt_trans h (h1 _ ⟨e, he, rfl⟩)
      · rintro ⟨h, h1, h2⟩
        exact ⟨h _ (Or.inl rfl), h1, h2⟩

/-- A table whose records have been changed keeps its form. -/
@[simp] theorem Table.wf_mapVals (f : Nat → α → β) (t : Table α) : (t.mapVals f).wf = t.wf := by
  rw [Bool.eq_iff_iff, Table.wf_iff, Table.wf_iff, Table.keys_mapVals]

@[simp] theorem Table.wf_modify (t : Table α) (k : Nat) (f : α → α) : (t.modify k f).wf = t.wf := by simp [Table.modify]

/-- The keys of a table after a write are the old ones and the key written. -/
theorem Table.mem_keys_put {t : Table α} {k a : Nat} {v : α} (h : a ∈ (t.put k v).map fun e => e.1) :
    a = k ∨ a ∈ t.map fun e => e.1 := by
  induction t with
  | nil => simpa [Table.put] using h
  | cons e t ih =>
    obtain ⟨k', v'⟩ := e
    unfold Table.put at h
    split at h
    · simpa using h
    · split at h
      · next h' => subst h'; simp only [List.map_cons, List.mem_cons] at h ⊢; exact Or.inr h
      · simp only [List.map_cons, List.mem_cons] at h ⊢
        rcases h with h | h
        · exact Or.inr (Or.inl h)
        · rcases ih h with h | h
          · exact Or.inl h
          · exact Or.inr (Or.inr h)

/-- A write keeps the form. -/
theorem Table.wf_put {t : Table α} (k : Nat) (v : α) (h : t.wf = true) : (t.put k v).wf = true := by
  rw [Table.wf_iff] at *
  induction t with
  | nil => simp [Table.put]
  | cons e t ih =>
    obtain ⟨k', v'⟩ := e
    rw [List.map_cons, List.pairwise_cons] at h
    unfold Table.put
    split
    · next hk =>
      simp only [List.map_cons, List.pairwise_cons, List.mem_cons]
      refine ⟨?_, h.1, h.2⟩
      rintro a (rfl | ha)
      · exact hk
      · exact Nat.lt_trans hk (h.1 a ha)
    · split
      · next hk => subst hk; simpa using h
      · next hk hk' =>
        rw [List.map_cons, List.pairwise_cons]
        refine ⟨fun a ha => ?_, ih h.2⟩
        rcases Table.mem_keys_put ha with e | e
        · subst e; show k' < a; omega
        · exact h.1 a e

/-- A deletion leaves a sublist. -/
theorem Table.del_sublist (t : Table α) (k : Nat) : List.Sublist (t.del k) t := by
  induction t with
  | nil => simp [Table.del]
  | cons e t ih =>
    obtain ⟨k', v'⟩ := e
    unfold Table.del
    split
    · exact List.sublist_cons_self _ _
    · exact ih.cons_cons _

/-- A sublist of a table keeps the form. -/
theorem Table.wf_sublist {t u : Table α} (s : List.Sublist u t) (h : t.wf = true) : u.wf = true := by
  rw [Table.wf_iff] at *
  exact h.sublist (s.map _)

/-- A deletion keeps the form. -/
theorem Table.wf_del {t : Table α} (k : Nat) (h : t.wf = true) : (t.del k).wf = true := Table.wf_sublist (t.del_sublist k) h

/-- A filtered table keeps the form. -/
theorem Table.wf_filter {t : Table α} (p : Nat × α → Bool) (h : t.wf = true) : Table.wf (t.filter p) = true :=
  Table.wf_sublist List.filter_sublist h

/-- In canonical form a deleted key is gone. -/
theorem Table.get?_del_self {t : Table α} (k : Nat) (h : t.wf = true) : (t.del k).get? k = none := by
  rw [Table.wf_iff] at h
  induction t with
  | nil => rfl
  | cons e t ih =>
    obtain ⟨k', v'⟩ := e
    rw [List.map_cons, List.pairwise_cons] at h
    unfold Table.del
    split
    · next hk =>
      cases hg : Table.get? t k with
      | none => rfl
      | some v =>
        have := h.1 k (List.mem_map.mpr ⟨_, Table.mem_of_get? hg, rfl⟩)
        subst hk
        exact absurd this (Nat.lt_irrefl _)
    · next hk => simp [Table.get?, hk, ih h.2]

/-- In canonical form every entry is the record of its key. -/
theorem Table.get?_of_mem {t : Table α} {k : Nat} {v : α} (h : t.wf = true) (m : (k, v) ∈ t) : t.get? k = some v := by
  rw [Table.wf_iff] at h
  induction t with
  | nil => simp at m
  | cons e t ih =>
    obtain ⟨k', v'⟩ := e
    rw [List.map_cons, List.pairwise_cons] at h
    simp only [Table.get?]
    rcases List.mem_cons.mp m with m | m
    · cases m; simp
    · have := h.1 k (List.mem_map.mpr ⟨_, m, rfl⟩)
      have hk : k ≠ k' := by omega
      simp [hk, ih h.2 m]

end Sys2Proof.Machine
end

