-- ==== Sys2Proof/Laws/Frames.lean ====
section
/-! SUPPORT. Each shared operation, once: everything it can change, as one equation, and its consequence for every field it
leaves as it was. What it makes of the fields it does change stands in Laws/Effects.lean. -/

namespace Sys2Proof.Machine

/-- Two states with the same fields are the same. -/
theorem State.ext_fields {s t : State} (h0 : s.powered = t.powered) (h1 : s.pin = t.pin) (h2 : s.line = t.line) (h3 : s.time = t.time) (h4 : s.track = t.track) (h5 : s.parcel = t.parcel) (h6 : s.probe = t.probe) (h7 : s.credit = t.credit) (h8 : s.dist = t.dist) (h9 : s.transfer = t.transfer) (h10 : s.comm = t.comm) (h11 : s.store = t.store) (h12 : s.link = t.link) (h13 : s.pins = t.pins) (h14 : s.draws = t.draws) (h15 : s.pending = t.pending) : s = t := by
  cases s; cases t; simp_all

/-- What holds at first and is kept by every element holds at the end. -/
theorem State.each_induct {α : Type} (P : State → Prop) (f : α → State → State) (l : List α) (s : State) (h0 : P s)
    (h : ∀ a ∈ l, ∀ t, P t → P (f a t)) : P (State.each f l s) := by
  induction l generalizing s with
  | nil => exact h0
  | cons a l ih =>
    exact ih (f a s) (h a (List.mem_cons_self ..) s h0) fun b hb => h b (List.mem_cons_of_mem _ hb)

@[simp] theorem State.arm_powered (s : State) (id : TimerId) (due : Nat) :
    (s.arm id due).powered = s.powered := rfl
@[simp] theorem State.arm_pin (s : State) (id : TimerId) (due : Nat) :
    (s.arm id due).pin = s.pin := rfl
@[simp] theorem State.arm_line (s : State) (id : TimerId) (due : Nat) :
    (s.arm id due).line = s.line := rfl
@[simp] theorem State.arm_track (s : State) (id : TimerId) (due : Nat) :
    (s.arm id due).track = s.track := rfl
@[simp] theorem State.arm_parcel (s : State) (id : TimerId) (due : Nat) :
    (s.arm id due).parcel = s.parcel := rfl
@[simp] theorem State.arm_probe (s : State) (id : TimerId) (due : Nat) :
    (s.arm id due).probe = s.probe := rfl
@[simp] theorem State.arm_credit (s : State) (id : TimerId) (due : Nat) :
    (s.arm id due).credit = s.credit := rfl
@[simp] theorem State.arm_dist (s : State) (id : TimerId) (due : Nat) :
    (s.arm id due).dist = s.dist := rfl
@[simp] theorem State.arm_transfer (s : State) (id : TimerId) (due : Nat) :
    (s.arm id due).transfer = s.transfer := rfl
@[simp] theorem State.arm_comm (s : State) (id : TimerId) (due : Nat) :
    (s.arm id due).comm = s.comm := rfl
@[simp] theorem State.arm_store (s : State) (id : TimerId) (due : Nat) :
    (s.arm id due).store = s.store := rfl
@[simp] theorem State.arm_link (s : State) (id : TimerId) (due : Nat) :
    (s.arm id due).link = s.link := rfl
@[simp] theorem State.arm_pins (s : State) (id : TimerId) (due : Nat) :
    (s.arm id due).pins = s.pins := rfl
@[simp] theorem State.arm_draws (s : State) (id : TimerId) (due : Nat) :
    (s.arm id due).draws = s.draws := rfl
@[simp] theorem State.arm_pending (s : State) (id : TimerId) (due : Nat) :
    (s.arm id due).pending = s.pending := rfl
/-- Everything `arm` can change. -/
theorem State.arm_frame (s : State) (id : TimerId) (due : Nat) :
    s.arm id due = { s with time := (s.arm id due).time } := rfl

@[simp] theorem State.armFor_powered (s : State) (id : TimerId) (ms : Nat) :
    (s.armFor id ms).powered = s.powered := rfl
@[simp] theorem State.armFor_pin (s : State) (id : TimerId) (ms : Nat) :
    (s.armFor id ms).pin = s.pin := rfl
@[simp] theorem State.armFor_line (s : State) (id : TimerId) (ms : Nat) :
    (s.armFor id ms).line = s.line := rfl
@[simp] theorem State.armFor_track (s : State) (id : TimerId) (ms : Nat) :
    (s.armFor id ms).track = s.track := rfl
@[simp] theorem State.armFor_parcel (s : State) (id : TimerId) (ms : Nat) :
    (s.armFor id ms).parcel = s.parcel := rfl
@[simp] theorem State.armFor_probe (s : State) (id : TimerId) (ms : Nat) :
    (s.armFor id ms).probe = s.probe := rfl
@[simp] theorem State.armFor_credit (s : State) (id : TimerId) (ms : Nat) :
    (s.armFor id ms).credit = s.credit := rfl
@[simp] theorem State.armFor_dist (s : State) (id : TimerId) (ms : Nat) :
    (s.armFor id ms).dist = s.dist := rfl
@[simp] theorem State.armFor_transfer (s : State) (id : TimerId) (ms : Nat) :
    (s.armFor id ms).transfer = s.transfer := rfl
@[simp] theorem State.armFor_comm (s : State) (id : TimerId) (ms : Nat) :
    (s.armFor id ms).comm = s.comm := rfl
@[simp] theorem State.armFor_store (s : State) (id : TimerId) (ms : Nat) :
    (s.armFor id ms).store = s.store := rfl
@[simp] theorem State.armFor_link (s : State) (id : TimerId) (ms : Nat) :
    (s.armFor id ms).link = s.link := rfl
@[simp] theorem State.armFor_pins (s : State) (id : TimerId) (ms : Nat) :
    (s.armFor id ms).pins = s.pins := rfl
@[simp] theorem State.armFor_draws (s : State) (id : TimerId) (ms : Nat) :
    (s.armFor id ms).draws = s.draws := rfl
@[simp] theorem State.armFor_pending (s : State) (id : TimerId) (ms : Nat) :
    (s.armFor id ms).pending = s.pending := rfl
/-- Everything `armFor` can change. -/
theorem State.armFor_frame (s : State) (id : TimerId) (ms : Nat) :
    s.armFor id ms = { s with time := (s.armFor id ms).time } := rfl

@[simp] theorem State.cancel_powered (s : State) (id : TimerId) :
    (s.cancel id).powered = s.powered := rfl
@[simp] theorem State.cancel_pin (s : State) (id : TimerId) :
    (s.cancel id).pin = s.pin := rfl
@[simp] theorem State.cancel_line (s : State) (id : TimerId) :
    (s.cancel id).line = s.line := rfl
@[simp] theorem State.cancel_track (s : State) (id : TimerId) :
    (s.cancel id).track = s.track := rfl
@[simp] theorem State.cancel_parcel (s : State) (id : TimerId) :
    (s.cancel id).parcel = s.parcel := rfl
@[simp] theorem State.cancel_probe (s : State) (id : TimerId) :
    (s.cancel id).probe = s.probe := rfl
@[simp] theorem State.cancel_credit (s : State) (id : TimerId) :
    (s.cancel id).credit = s.credit := rfl
@[simp] theorem State.cancel_dist (s : State) (id : TimerId) :
    (s.cancel id).dist = s.dist := rfl
@[simp] theorem State.cancel_transfer (s : State) (id : TimerId) :
    (s.cancel id).transfer = s.transfer := rfl
@[simp] theorem State.cancel_comm (s : State) (id : TimerId) :
    (s.cancel id).comm = s.comm := rfl
@[simp] theorem State.cancel_store (s : State) (id : TimerId) :
    (s.cancel id).store = s.store := rfl
@[simp] theorem State.cancel_link (s : State) (id : TimerId) :
    (s.cancel id).link = s.link := rfl
@[simp] theorem State.cancel_pins (s : State) (id : TimerId) :
    (s.cancel id).pins = s.pins := rfl
@[simp] theorem State.cancel_draws (s : State) (id : TimerId) :
    (s.cancel id).draws = s.draws := rfl
@[simp] theorem State.cancel_pending (s : State) (id : TimerId) :
    (s.cancel id).pending = s.pending := rfl
/-- Everything `cancel` can change. -/
theorem State.cancel_frame (s : State) (id : TimerId) :
    s.cancel id = { s with time := (s.cancel id).time } := rfl

@[simp] theorem State.cancelStalls_powered (s : State) :
    (s.cancelStalls).powered = s.powered := rfl
@[simp] theorem State.cancelStalls_pin (s : State) :
    (s.cancelStalls).pin = s.pin := rfl
@[simp] theorem State.cancelStalls_line (s : State) :
    (s.cancelStalls).line = s.line := rfl
@[simp] theorem State.cancelStalls_track (s : State) :
    (s.cancelStalls).track = s.track := rfl
@[simp] theorem State.cancelStalls_parcel (s : State) :
    (s.cancelStalls).parcel = s.parcel := rfl
@[simp] theorem State.cancelStalls_probe (s : State) :
    (s.cancelStalls).probe = s.probe := rfl
@[simp] theorem State.cancelStalls_credit (s : State) :
    (s.cancelStalls).credit = s.credit := rfl
@[simp] theorem State.cancelStalls_dist (s : State) :
    (s.cancelStalls).dist = s.dist := rfl
@[simp] theorem State.cancelStalls_transfer (s : State) :
    (s.cancelStalls).transfer = s.transfer := rfl
@[simp] theorem State.cancelStalls_comm (s : State) :
    (s.cancelStalls).comm = s.comm := rfl
@[simp] theorem State.cancelStalls_store (s : State) :
    (s.cancelStalls).store = s.store := rfl
@[simp] theorem State.cancelStalls_link (s : State) :
    (s.cancelStalls).link = s.link := rfl
@[simp] theorem State.cancelStalls_pins (s : State) :
    (s.cancelStalls).pins = s.pins := rfl
@[simp] theorem State.cancelStalls_draws (s : State) :
    (s.cancelStalls).draws = s.draws := rfl
@[simp] theorem State.cancelStalls_pending (s : State) :
    (s.cancelStalls).pending = s.pending := rfl
/-- Everything `cancelStalls` can change. -/
theorem State.cancelStalls_frame (s : State) :
    s.cancelStalls = { s with time := (s.cancelStalls).time } := rfl

@[simp] theorem State.armStalls_powered (s : State) :
    (s.armStalls).powered = s.powered := by
  unfold State.armStalls
  refine State.each_induct (fun t => t.powered = s.powered) _ _ _ rfl fun e _ t ht => ?_
  split <;> simpa using ht
@[simp] theorem State.armStalls_pin (s : State) :
    (s.armStalls).pin = s.pin := by
  unfold State.armStalls
  refine State.each_induct (fun t => t.pin = s.pin) _ _ _ rfl fun e _ t ht => ?_
  split <;> simpa using ht
@[simp] theorem State.armStalls_line (s : State) :
    (s.armStalls).line = s.line := by
  unfold State.armStalls
  refine State.each_induct (fun t => t.line = s.line) _ _ _ rfl fun e _ t ht => ?_
  split <;> simpa using ht
@[simp] theorem State.armStalls_track (s : State) :
    (s.armStalls).track = s.track := by
  unfold State.armStalls
  refine State.each_induct (fun t => t.track = s.track) _ _ _ rfl fun e _ t ht => ?_
  split <;> simpa using ht
@[simp] theorem State.armStalls_parcel (s : State) :
    (s.armStalls).parcel = s.parcel := by
  unfold State.armStalls
  refine State.each_induct (fun t => t.parcel = s.parcel) _ _ _ rfl fun e _ t ht => ?_
  split <;> simpa using ht
@[simp] theorem State.armStalls_probe (s : State) :
    (s.armStalls).probe = s.probe := by
  unfold State.armStalls
  refine State.each_induct (fun t => t.probe = s.probe) _ _ _ rfl fun e _ t ht => ?_
  split <;> simpa using ht
@[simp] theorem State.armStalls_credit (s : State) :
    (s.armStalls).credit = s.credit := by
  unfold State.armStalls
  refine State.each_induct (fun t => t.credit = s.credit) _ _ _ rfl fun e _ t ht => ?_
  split <;> simpa using ht
@[simp] theorem State.armStalls_dist (s : State) :
    (s.armStalls).dist = s.dist := by
  unfold State.armStalls
  refine State.each_induct (fun t => t.dist = s.dist) _ _ _ rfl fun e _ t ht => ?_
  split <;> simpa using ht
@[simp] theorem State.armStalls_transfer (s : State) :
    (s.armStalls).transfer = s.transfer := by
  unfold State.armStalls
  refine State.each_induct (fun t => t.transfer = s.transfer) _ _ _ rfl fun e _ t ht => ?_
  split <;> simpa using ht
@[simp] theorem State.armStalls_comm (s : State) :
    (s.armStalls).comm = s.comm := by
  unfold State.armStalls
  refine State.each_induct (fun t => t.comm = s.comm) _ _ _ rfl fun e _ t ht => ?_
  split <;> simpa using ht
@[simp] theorem State.armStalls_store (s : State) :
    (s.armStalls).store = s.store := by
  unfold State.armStalls
  refine State.each_induct (fun t => t.store = s.store) _ _ _ rfl fun e _ t ht => ?_
  split <;> simpa using ht
@[simp] theorem State.armStalls_link (s : State) :
    (s.armStalls).link = s.link := by
  unfold State.armStalls
  refine State.each_induct (fun t => t.link = s.link) _ _ _ rfl fun e _ t ht => ?_
  split <;> simpa using ht
@[simp] theorem State.armStalls_pins (s : State) :
    (s.armStalls).pins = s.pins := by
  unfold State.armStalls
  refine State.each_induct (fun t => t.pins = s.pins) _ _ _ rfl fun e _ t ht => ?_
  split <;> simpa using ht
@[simp] theorem State.armStalls_draws (s : State) :
    (s.armStalls).draws = s.draws := by
  unfold State.armStalls
  refine State.each_induct (fun t => t.draws = s.draws) _ _ _ rfl fun e _ t ht => ?_
  split <;> simpa using ht
@[simp] theorem State.armStalls_pending (s : State) :
    (s.armStalls).pending = s.pending := by
  unfold State.armStalls
  refine State.each_induct (fun t => t.pending = s.pending) _ _ _ rfl fun e _ t ht => ?_
  split <;> simpa using ht
/-- Everything `armStalls` can change. -/
theorem State.armStalls_frame (s : State) :
    s.armStalls = { s with time := (s.armStalls).time } := by
  apply State.ext_fields <;> simp

@[simp] theorem State.notify_powered (s : State) (b : NoticeBody) :
    (s.notify b).powered = s.powered := rfl
@[simp] theorem State.notify_pin (s : State) (b : NoticeBody) :
    (s.notify b).pin = s.pin := rfl
@[simp] theorem State.notify_line (s : State) (b : NoticeBody) :
    (s.notify b).line = s.line := rfl
@[simp] theorem State.notify_time (s : State) (b : NoticeBody) :
    (s.notify b).time = s.time := rfl
@[simp] theorem State.notify_track (s : State) (b : NoticeBody) :
    (s.notify b).track = s.track := rfl
@[simp] theorem State.notify_parcel (s : State) (b : NoticeBody) :
    (s.notify b).parcel = s.parcel := rfl
@[simp] theorem State.notify_probe (s : State) (b : NoticeBody) :
    (s.notify b).probe = s.probe := rfl
@[simp] theorem State.notify_credit (s : State) (b : NoticeBody) :
    (s.notify b).credit = s.credit := rfl
@[simp] theorem State.notify_dist (s : State) (b : NoticeBody) :
    (s.notify b).dist = s.dist := rfl
@[simp] theorem State.notify_transfer (s : State) (b : NoticeBody) :
    (s.notify b).transfer = s.transfer := rfl
@[simp] theorem State.notify_comm (s : State) (b : NoticeBody) :
    (s.notify b).comm = s.comm := rfl
@[simp] theorem State.notify_store (s : State) (b : NoticeBody) :
    (s.notify b).store = s.store := rfl
@[simp] theorem State.notify_pins (s : State) (b : NoticeBody) :
    (s.notify b).pins = s.pins := rfl
@[simp] theorem State.notify_draws (s : State) (b : NoticeBody) :
    (s.notify b).draws = s.draws := rfl
@[simp] theorem State.notify_pending (s : State) (b : NoticeBody) :
    (s.notify b).pending = s.pending := rfl
/-- Everything `notify` can change. -/
theorem State.notify_frame (s : State) (b : NoticeBody) :
    s.notify b = { s with link := (s.notify b).link } := rfl

@[simp] theorem State.enter_powered (s : State) (b : NoticeBody) :
    (s.enter b).powered = s.powered := rfl
@[simp] theorem State.enter_pin (s : State) (b : NoticeBody) :
    (s.enter b).pin = s.pin := rfl
@[simp] theorem State.enter_line (s : State) (b : NoticeBody) :
    (s.enter b).line = s.line := rfl
@[simp] theorem State.enter_time (s : State) (b : NoticeBody) :
    (s.enter b).time = s.time := rfl
@[simp] theorem State.enter_track (s : State) (b : NoticeBody) :
    (s.enter b).track = s.track := rfl
@[simp] theorem State.enter_parcel (s : State) (b : NoticeBody) :
    (s.enter b).parcel = s.parcel := rfl
@[simp] theorem State.enter_probe (s : State) (b : NoticeBody) :
    (s.enter b).probe = s.probe := rfl
@[simp] theorem State.enter_credit (s : State) (b : NoticeBody) :
    (s.enter b).credit = s.credit := rfl
@[simp] theorem State.enter_dist (s : State) (b : NoticeBody) :
    (s.enter b).dist = s.dist := rfl
@[simp] theorem State.enter_transfer (s : State) (b : NoticeBody) :
    (s.enter b).transfer = s.transfer := rfl
@[simp] theorem State.enter_comm (s : State) (b : NoticeBody) :
    (s.enter b).comm = s.comm := rfl
@[simp] theorem State.enter_store (s : State) (b : NoticeBody) :
    (s.enter b).store = s.store := rfl
@[simp] theorem State.enter_pins (s : State) (b : NoticeBody) :
    (s.enter b).pins = s.pins := rfl
@[simp] theorem State.enter_draws (s : State) (b : NoticeBody) :
    (s.enter b).draws = s.draws := rfl
@[simp] theorem State.enter_pending (s : State) (b : NoticeBody) :
    (s.enter b).pending = s.pending := rfl
/-- Everything `enter` can change. -/
theorem State.enter_frame (s : State) (b : NoticeBody) :
    s.enter b = { s with link := (s.enter b).link } := rfl

@[simp] theorem State.await_powered (s : State) (r : Retained) :
    (s.await r).powered = s.powered := rfl
@[simp] theorem State.await_pin (s : State) (r : Retained) :
    (s.await r).pin = s.pin := rfl
@[simp] theorem State.await_line (s : State) (r : Retained) :
    (s.await r).line = s.line := rfl
@[simp] theorem State.await_time (s : State) (r : Retained) :
    (s.await r).time = s.time := rfl
@[simp] theorem State.await_track (s : State) (r : Retained) :
    (s.await r).track = s.track := rfl
@[simp] theorem State.await_parcel (s : State) (r : Retained) :
    (s.await r).parcel = s.parcel := rfl
@[simp] theorem State.await_probe (s : State) (r : Retained) :
    (s.await r).probe = s.probe := rfl
@[simp] theorem State.await_credit (s : State) (r : Retained) :
    (s.await r).credit = s.credit := rfl
@[simp] theorem State.await_dist (s : State) (r : Retained) :
    (s.await r).dist = s.dist := rfl
@[simp] theorem State.await_transfer (s : State) (r : Retained) :
    (s.await r).transfer = s.transfer := rfl
@[simp] theorem State.await_comm (s : State) (r : Retained) :
    (s.await r).comm = s.comm := rfl
@[simp] theorem State.await_store (s : State) (r : Retained) :
    (s.await r).store = s.store := rfl
@[simp] theorem State.await_pins (s : State) (r : Retained) :
    (s.await r).pins = s.pins := rfl
@[simp] theorem State.await_draws (s : State) (r : Retained) :
    (s.await r).draws = s.draws := rfl
@[simp] theorem State.await_pending (s : State) (r : Retained) :
    (s.await r).pending = s.pending := rfl
/-- Everything `await` can change. -/
theorem State.await_frame (s : State) (r : Retained) :
    s.await r = { s with link := (s.await r).link } := rfl

@[simp] theorem State.withdraw_powered (s : State) (r : Retained) :
    (s.withdraw r).powered = s.powered := rfl
@[simp] theorem State.withdraw_pin (s : State) (r : Retained) :
    (s.withdraw r).pin = s.pin := rfl
@[simp] theorem State.withdraw_line (s : State) (r : Retained) :
    (s.withdraw r).line = s.line := rfl
@[simp] theorem State.withdraw_time (s : State) (r : Retained) :
    (s.withdraw r).time = s.time := rfl
@[simp] theorem State.withdraw_track (s : State) (r : Retained) :
    (s.withdraw r).track = s.track := rfl
@[simp] theorem State.withdraw_parcel (s : State) (r : Retained) :
    (s.withdraw r).parcel = s.parcel := rfl
@[simp] theorem State.withdraw_probe (s : State) (r : Retained) :
    (s.withdraw r).probe = s.probe := rfl
@[simp] theorem State.withdraw_credit (s : State) (r : Retained) :
    (s.withdraw r).credit = s.credit := rfl
@[simp] theorem State.withdraw_dist (s : State) (r : Retained) :
    (s.withdraw r).dist = s.dist := rfl
@[simp] theorem State.withdraw_transfer (s : State) (r : Retained) :
    (s.withdraw r).transfer = s.transfer := rfl
@[simp] theorem State.withdraw_comm (s : State) (r : Retained) :
    (s.withdraw r).comm = s.comm := rfl
@[simp] theorem State.withdraw_store (s : State) (r : Retained) :
    (s.withdraw r).store = s.store := rfl
@[simp] theorem State.withdraw_pins (s : State) (r : Retained) :
    (s.withdraw r).pins = s.pins := rfl
@[simp] theorem State.withdraw_draws (s : State) (r : Retained) :
    (s.withdraw r).draws = s.draws := rfl
@[simp] theorem State.withdraw_pending (s : State) (r : Retained) :
    (s.withdraw r).pending = s.pending := rfl
/-- Everything `withdraw` can change. -/
theorem State.withdraw_frame (s : State) (r : Retained) :
    s.withdraw r = { s with link := (s.withdraw r).link } := rfl

@[simp] theorem State.answer_powered (s : State) (f : Frame) (b : ReplyBody) :
    (s.answer f b).powered = s.powered := rfl
@[simp] theorem State.answer_pin (s : State) (f : Frame) (b : ReplyBody) :
    (s.answer f b).pin = s.pin := rfl
@[simp] theorem State.answer_line (s : State) (f : Frame) (b : ReplyBody) :
    (s.answer f b).line = s.line := rfl
@[simp] theorem State.answer_time (s : State) (f : Frame) (b : ReplyBody) :
    (s.answer f b).time = s.time := rfl
@[simp] theorem State.answer_track (s : State) (f : Frame) (b : ReplyBody) :
    (s.answer f b).track = s.track := rfl
@[simp] theorem State.answer_parcel (s : State) (f : Frame) (b : ReplyBody) :
    (s.answer f b).parcel = s.parcel := rfl
@[simp] theorem State.answer_probe (s : State) (f : Frame) (b : ReplyBody) :
    (s.answer f b).probe = s.probe := rfl
@[simp] theorem State.answer_credit (s : State) (f : Frame) (b : ReplyBody) :
    (s.answer f b).credit = s.credit := rfl
@[simp] theorem State.answer_dist (s : State) (f : Frame) (b : ReplyBody) :
    (s.answer f b).dist = s.dist := rfl
@[simp] theorem State.answer_transfer (s : State) (f : Frame) (b : ReplyBody) :
    (s.answer f b).transfer = s.transfer := rfl
@[simp] theorem State.answer_comm (s : State) (f : Frame) (b : ReplyBody) :
    (s.answer f b).comm = s.comm := rfl
@[simp] theorem State.answer_store (s : State) (f : Frame) (b : ReplyBody) :
    (s.answer f b).store = s.store := rfl
@[simp] theorem State.answer_pins (s : State) (f : Frame) (b : ReplyBody) :
    (s.answer f b).pins = s.pins := rfl
@[simp] theorem State.answer_draws (s : State) (f : Frame) (b : ReplyBody) :
    (s.answer f b).draws = s.draws := rfl
@[simp] theorem State.answer_pending (s : State) (f : Frame) (b : ReplyBody) :
    (s.answer f b).pending = s.pending := rfl
/-- Everything `answer` can change. -/
theorem State.answer_frame (s : State) (f : Frame) (b : ReplyBody) :
    s.answer f b = { s with link := (s.answer f b).link } := rfl

@[simp] theorem State.onLot_powered (s : State) (slot : Nat) (f : Lot → Lot) :
    (s.onLot slot f).powered = s.powered := rfl
@[simp] theorem State.onLot_pin (s : State) (slot : Nat) (f : Lot → Lot) :
    (s.onLot slot f).pin = s.pin := rfl
@[simp] theorem State.onLot_line (s : State) (slot : Nat) (f : Lot → Lot) :
    (s.onLot slot f).line = s.line := rfl
@[simp] theorem State.onLot_time (s : State) (slot : Nat) (f : Lot → Lot) :
    (s.onLot slot f).time = s.time := rfl
@[simp] theorem State.onLot_track (s : State) (slot : Nat) (f : Lot → Lot) :
    (s.onLot slot f).track = s.track := rfl
@[simp] theorem State.onLot_probe (s : State) (slot : Nat) (f : Lot → Lot) :
    (s.onLot slot f).probe = s.probe := rfl
@[simp] theorem State.onLot_credit (s : State) (slot : Nat) (f : Lot → Lot) :
    (s.onLot slot f).credit = s.credit := rfl
@[simp] theorem State.onLot_dist (s : State) (slot : Nat) (f : Lot → Lot) :
    (s.onLot slot f).dist = s.dist := rfl
@[simp] theorem State.onLot_transfer (s : State) (slot : Nat) (f : Lot → Lot) :
    (s.onLot slot f).transfer = s.transfer := rfl
@[simp] theorem State.onLot_comm (s : State) (slot : Nat) (f : Lot → Lot) :
    (s.onLot slot f).comm = s.comm := rfl
@[simp] theorem State.onLot_store (s : State) (slot : Nat) (f : Lot → Lot) :
    (s.onLot slot f).store = s.store := rfl
@[simp] theorem State.onLot_link (s : State) (slot : Nat) (f : Lot → Lot) :
    (s.onLot slot f).link = s.link := rfl
@[simp] theorem State.onLot_pins (s : State) (slot : Nat) (f : Lot → Lot) :
    (s.onLot slot f).pins = s.pins := rfl
@[simp] theorem State.onLot_draws (s : State) (slot : Nat) (f : Lot → Lot) :
    (s.onLot slot f).draws = s.draws := rfl
@[simp] theorem State.onLot_pending (s : State) (slot : Nat) (f : Lot → Lot) :
    (s.onLot slot f).pending = s.pending := rfl
/-- Everything `onLot` can change. -/
theorem State.onLot_frame (s : State) (slot : Nat) (f : Lot → Lot) :
    s.onLot slot f = { s with parcel := (s.onLot slot f).parcel } := rfl

@[simp] theorem State.newLot_powered (s : State) (slot : Nat) (l : Lot) :
    (s.newLot slot l).powered = s.powered := rfl
@[simp] theorem State.newLot_pin (s : State) (slot : Nat) (l : Lot) :
    (s.newLot slot l).pin = s.pin := rfl
@[simp] theorem State.newLot_line (s : State) (slot : Nat) (l : Lot) :
    (s.newLot slot l).line = s.line := rfl
@[simp] theorem State.newLot_time (s : State) (slot : Nat) (l : Lot) :
    (s.newLot slot l).time = s.time := rfl
@[simp] theorem State.newLot_track (s : State) (slot : Nat) (l : Lot) :
    (s.newLot slot l).track = s.track := rfl
@[simp] theorem State.newLot_probe (s : State) (slot : Nat) (l : Lot) :
    (s.newLot slot l).probe = s.probe := rfl
@[simp] theorem State.newLot_credit (s : State) (slot : Nat) (l : Lot) :
    (s.newLot slot l).credit = s.credit := rfl
@[simp] theorem State.newLot_dist (s : State) (slot : Nat) (l : Lot) :
    (s.newLot slot l).dist = s.dist := rfl
@[simp] theorem State.newLot_transfer (s : State) (slot : Nat) (l : Lot) :
    (s.newLot slot l).transfer = s.transfer := rfl
@[simp] theorem State.newLot_comm (s : State) (slot : Nat) (l : Lot) :
    (s.newLot slot l).comm = s.comm := rfl
@[simp] theorem State.newLot_store (s : State) (slot : Nat) (l : Lot) :
    (s.newLot slot l).store = s.store := rfl
@[simp] theorem State.newLot_link (s : State) (slot : Nat) (l : Lot) :
    (s.newLot slot l).link = s.link := rfl
@[simp] theorem State.newLot_pins (s : State) (slot : Nat) (l : Lot) :
    (s.newLot slot l).pins = s.pins := rfl
@[simp] theorem State.newLot_draws (s : State) (slot : Nat) (l : Lot) :
    (s.newLot slot l).draws = s.draws := rfl
@[simp] theorem State.newLot_pending (s : State) (slot : Nat) (l : Lot) :
    (s.newLot slot l).pending = s.pending := rfl
/-- Everything `newLot` can change. -/
theorem State.newLot_frame (s : State) (slot : Nat) (l : Lot) :
    s.newLot slot l = { s with parcel := (s.newLot slot l).parcel } := rfl

@[simp] theorem State.markParcels_powered (s : State) (p : Parcel → Bool) (f : Parcel → Parcel) :
    (s.markParcels p f).powered = s.powered := rfl
@[simp] theorem State.markParcels_pin (s : State) (p : Parcel → Bool) (f : Parcel → Parcel) :
    (s.markParcels p f).pin = s.pin := rfl
@[simp] theorem State.markParcels_line (s : State) (p : Parcel → Bool) (f : Parcel → Parcel) :
    (s.markParcels p f).line = s.line := rfl
@[simp] theorem State.markParcels_time (s : State) (p : Parcel → Bool) (f : Parcel → Parcel) :
    (s.markParcels p f).time = s.time := rfl
@[simp] theorem State.markParcels_track (s : State) (p : Parcel → Bool) (f : Parcel → Parcel) :
    (s.markParcels p f).track = s.track := rfl
@[simp] theorem State.markParcels_probe (s : State) (p : Parcel → Bool) (f : Parcel → Parcel) :
    (s.markParcels p f).probe = s.probe := rfl
@[simp] theorem State.markParcels_credit (s : State) (p : Parcel → Bool) (f : Parcel → Parcel) :
    (s.markParcels p f).credit = s.credit := rfl
@[simp] theorem State.markParcels_dist (s : State) (p : Parcel → Bool) (f : Parcel → Parcel) :
    (s.markParcels p f).dist = s.dist := rfl
@[simp] theorem State.markParcels_transfer (s : State) (p : Parcel → Bool) (f : Parcel → Parcel) :
    (s.markParcels p f).transfer = s.transfer := rfl
@[simp] theorem State.markParcels_comm (s : State) (p : Parcel → Bool) (f : Parcel → Parcel) :
    (s.markParcels p f).comm = s.comm := rfl
@[simp] theorem State.markParcels_store (s : State) (p : Parcel → Bool) (f : Parcel → Parcel) :
    (s.markParcels p f).store = s.store := rfl
@[simp] theorem State.markParcels_link (s : State) (p : Parcel → Bool) (f : Parcel → Parcel) :
    (s.markParcels p f).link = s.link := rfl
@[simp] theorem State.markParcels_pins (s : State) (p : Parcel → Bool) (f : Parcel → Parcel) :
    (s.markParcels p f).pins = s.pins := rfl
@[simp] theorem State.markParcels_draws (s : State) (p : Parcel → Bool) (f : Parcel → Parcel) :
    (s.markParcels p f).draws = s.draws := rfl
@[simp] theorem State.markParcels_pending (s : State) (p : Parcel → Bool) (f : Parcel → Parcel) :
    (s.markParcels p f).pending = s.pending := rfl
/-- Everything `markParcels` can change. -/
theorem State.markParcels_frame (s : State) (p : Parcel → Bool) (f : Parcel → Parcel) :
    s.markParcels p f = { s with parcel := (s.markParcels p f).parcel } := rfl

@[simp] theorem State.enterSummary_powered (s : State) (slot : Nat) :
    (s.enterSummary slot).powered = s.powered := by
  unfold State.enterSummary
  (repeat' split) <;> simp
@[simp] theorem State.enterSummary_pin (s : State) (slot : Nat) :
    (s.enterSummary slot).pin = s.pin := by
  unfold State.enterSummary
  (repeat' split) <;> simp
@[simp] theorem State.enterSummary_line (s : State) (slot : Nat) :
    (s.enterSummary slot).line = s.line := by
  unfold State.enterSummary
  (repeat' split) <;> simp
@[simp] theorem State.enterSummary_time (s : State) (slot : Nat) :
    (s.enterSummary slot).time = s.time := by
  unfold State.enterSummary
  (repeat' split) <;> simp
@[simp] theorem State.enterSummary_track (s : State) (slot : Nat) :
    (s.enterSummary slot).track = s.track := by
  unfold State.enterSummary
  (repeat' split) <;> simp
@[simp] theorem State.enterSummary_probe (s : State) (slot : Nat) :
    (s.enterSummary slot).probe = s.probe := by
  unfold State.enterSummary
  (repeat' split) <;> simp
@[simp] theorem State.enterSummary_credit (s : State) (slot : Nat) :
    (s.enterSummary slot).credit = s.credit := by
  unfold State.enterSummary
  (repeat' split) <;> simp
@[simp] theorem State.enterSummary_dist (s : State) (slot : Nat) :
    (s.enterSummary slot).dist = s.dist := by
  unfold State.enterSummary
  (repeat' split) <;> simp
@[simp] theorem State.enterSummary_transfer (s : State) (slot : Nat) :
    (s.enterSummary slot).transfer = s.transfer := by
  unfold State.enterSummary
  (repeat' split) <;> simp
@[simp] theorem State.enterSummary_comm (s : State) (slot : Nat) :
    (s.enterSummary slot).comm = s.comm := by
  unfold State.enterSummary
  (repeat' split) <;> simp
@[simp] theorem State.enterSummary_store (s : State) (slot : Nat) :
    (s.enterSummary slot).store = s.store := by
  unfold State.enterSummary
  (repeat' split) <;> simp
@[simp] theorem State.enterSummary_pins (s : State) (slot : Nat) :
    (s.enterSummary slot).pins = s.pins := by
  unfold State.enterSummary
  (repeat' split) <;> simp
@[simp] theorem State.enterSummary_draws (s : State) (slot : Nat) :
    (s.enterSummary slot).draws = s.draws := by
  unfold State.enterSummary
  (repeat' split) <;> simp
@[simp] theorem State.enterSummary_pending (s : State) (slot : Nat) :
    (s.enterSummary slot).pending = s.pending := by
  unfold State.enterSummary
  (repeat' split) <;> simp
/-- Everything `enterSummary` can change. -/
theorem State.enterSummary_frame (s : State) (slot : Nat) :
    s.enterSummary slot = { s with parcel := (s.enterSummary slot).parcel, link := (s.enterSummary slot).link } := by
  apply State.ext_fields <;> simp

@[simp] theorem State.offerSummary_powered (s : State) (slot : Nat) :
    (s.offerSummary slot).powered = s.powered := by
  unfold State.offerSummary
  (repeat' split) <;> simp
@[simp] theorem State.offerSummary_pin (s : State) (slot : Nat) :
    (s.offerSummary slot).pin = s.pin := by
  unfold State.offerSummary
  (repeat' split) <;> simp
@[simp] theorem State.offerSummary_line (s : State) (slot : Nat) :
    (s.offerSummary slot).line = s.line := by
  unfold State.offerSummary
  (repeat' split) <;> simp
@[simp] theorem State.offerSummary_time (s : State) (slot : Nat) :
    (s.offerSummary slot).time = s.time := by
  unfold State.offerSummary
  (repeat' split) <;> simp
@[simp] theorem State.offerSummary_track (s : State) (slot : Nat) :
    (s.offerSummary slot).track = s.track := by
  unfold State.offerSummary
  (repeat' split) <;> simp
@[simp] theorem State.offerSummary_probe (s : State) (slot : Nat) :
    (s.offerSummary slot).probe = s.probe := by
  unfold State.offerSummary
  (repeat' split) <;> simp
@[simp] theorem State.offerSummary_credit (s : State) (slot : Nat) :
    (s.offerSummary slot).credit = s.credit := by
  unfold State.offerSummary
  (repeat' split) <;> simp
@[simp] theorem State.offerSummary_dist (s : State) (slot : Nat) :
    (s.offerSummary slot).dist = s.dist := by
  unfold State.offerSummary
  (repeat' split) <;> simp
@[simp] theorem State.offerSummary_transfer (s : State) (slot : Nat) :
    (s.offerSummary slot).transfer = s.transfer := by
  unfold State.offerSummary
  (repeat' split) <;> simp
@[simp] theorem State.offerSummary_comm (s : State) (slot : Nat) :
    (s.offerSummary slot).comm = s.comm := by
  unfold State.offerSummary
  (repeat' split) <;> simp
@[simp] theorem State.offerSummary_store (s : State) (slot : Nat) :
    (s.offerSummary slot).store = s.store := by
  unfold State.offerSummary
  (repeat' split) <;> simp
@[simp] theorem State.offerSummary_pins (s : State) (slot : Nat) :
    (s.offerSummary slot).pins = s.pins := by
  unfold State.offerSummary
  (repeat' split) <;> simp
@[simp] theorem State.offerSummary_draws (s : State) (slot : Nat) :
    (s.offerSummary slot).draws = s.draws := by
  unfold State.offerSummary
  (repeat' split) <;> simp
@[simp] theorem State.offerSummary_pending (s : State) (slot : Nat) :
    (s.offerSummary slot).pending = s.pending := by
  unfold State.offerSummary
  (repeat' split) <;> simp
/-- Everything `offerSummary` can change. -/
theorem State.offerSummary_frame (s : State) (slot : Nat) :
    s.offerSummary slot = { s with parcel := (s.offerSummary slot).parcel, link := (s.offerSummary slot).link } := by
  apply State.ext_fields <;> simp

@[simp] theorem State.retireTest_powered (s : State) (slot : Nat) :
    (s.retireTest slot).powered = s.powered := by
  unfold State.retireTest
  (repeat' split) <;> simp
@[simp] theorem State.retireTest_pin (s : State) (slot : Nat) :
    (s.retireTest slot).pin = s.pin := by
  unfold State.retireTest
  (repeat' split) <;> simp
@[simp] theorem State.retireTest_line (s : State) (slot : Nat) :
    (s.retireTest slot).line = s.line := by
  unfold State.retireTest
  (repeat' split) <;> simp
@[simp] theorem State.retireTest_time (s : State) (slot : Nat) :
    (s.retireTest slot).time = s.time := by
  unfold State.retireTest
  (repeat' split) <;> simp
@[simp] theorem State.retireTest_track (s : State) (slot : Nat) :
    (s.retireTest slot).track = s.track := by
  unfold State.retireTest
  (repeat' split) <;> simp
@[simp] theorem State.retireTest_probe (s : State) (slot : Nat) :
    (s.retireTest slot).probe = s.probe := by
  unfold State.retireTest
  (repeat' split) <;> simp
@[simp] theorem State.retireTest_credit (s : State) (slot : Nat) :
    (s.retireTest slot).credit = s.credit := by
  unfold State.retireTest
  (repeat' split) <;> simp
@[simp] theorem State.retireTest_dist (s : State) (slot : Nat) :
    (s.retireTest slot).dist = s.dist := by
  unfold State.retireTest
  (repeat' split) <;> simp
@[simp] theorem State.retireTest_transfer (s : State) (slot : Nat) :
    (s.retireTest slot).transfer = s.transfer := by
  unfold State.retireTest
  (repeat' split) <;> simp
@[simp] theorem State.retireTest_comm (s : State) (slot : Nat) :
    (s.retireTest slot).comm = s.comm := by
  unfold State.retireTest
  (repeat' split) <;> simp
@[simp] theorem State.retireTest_store (s : State) (slot : Nat) :
    (s.retireTest slot).store = s.store := by
  unfold State.retireTest
  (repeat' split) <;> simp
@[simp] theorem State.retireTest_pins (s : State) (slot : Nat) :
    (s.retireTest slot).pins = s.pins := by
  unfold State.retireTest
  (repeat' split) <;> simp
@[simp] theorem State.retireTest_draws (s : State) (slot : Nat) :
    (s.retireTest slot).draws = s.draws := by
  unfold State.retireTest
  (repeat' split) <;> simp
@[simp] theorem State.retireTest_pending (s : State) (slot : Nat) :
    (s.retireTest slot).pending = s.pending := by
  unfold State.retireTest
  (repeat' split) <;> simp
/-- Everything `retireTest` can change. -/
theorem State.retireTest_frame (s : State) (slot : Nat) :
    s.retireTest slot = { s with parcel := (s.retireTest slot).parcel, link := (s.retireTest slot).link } := by
  apply State.ext_fields <;> simp

@[simp] theorem State.makeCurrent_powered (s : State) (slot : Nat) :
    (s.makeCurrent slot).powered = s.powered := by
  unfold State.makeCurrent
  (repeat' split) <;> simp
@[simp] theorem State.makeCurrent_pin (s : State) (slot : Nat) :
    (s.makeCurrent slot).pin = s.pin := by
  unfold State.makeCurrent
  (repeat' split) <;> simp
@[simp] theorem State.makeCurrent_line (s : State) (slot : Nat) :
    (s.makeCurrent slot).line = s.line := by
  unfold State.makeCurrent
  (repeat' split) <;> simp
@[simp] theorem State.makeCurrent_time (s : State) (slot : Nat) :
    (s.makeCurrent slot).time = s.time := by
  unfold State.makeCurrent
  (repeat' split) <;> simp
@[simp] theorem State.makeCurrent_track (s : State) (slot : Nat) :
    (s.makeCurrent slot).track = s.track := by
  unfold State.makeCurrent
  (repeat' split) <;> simp
@[simp] theorem State.makeCurrent_probe (s : State) (slot : Nat) :
    (s.makeCurrent slot).probe = s.probe := by
  unfold State.makeCurrent
  (repeat' split) <;> simp
@[simp] theorem State.makeCurrent_credit (s : State) (slot : Nat) :
    (s.makeCurrent slot).credit = s.credit := by
  unfold State.makeCurrent
  (repeat' split) <;> simp
@[simp] theorem State.makeCurrent_dist (s : State) (slot : Nat) :
    (s.makeCurrent slot).dist = s.dist := by
  unfold State.makeCurrent
  (repeat' split) <;> simp
@[simp] theorem State.makeCurrent_transfer (s : State) (slot : Nat) :
    (s.makeCurrent slot).transfer = s.transfer := by
  unfold State.makeCurrent
  (repeat' split) <;> simp
@[simp] theorem State.makeCurrent_comm (s : State) (slot : Nat) :
    (s.makeCurrent slot).comm = s.comm := by
  unfold State.makeCurrent
  (repeat' split) <;> simp
@[simp] theorem State.makeCurrent_store (s : State) (slot : Nat) :
    (s.makeCurrent slot).store = s.store := by
  unfold State.makeCurrent
  (repeat' split) <;> simp
@[simp] theorem State.makeCurrent_pins (s : State) (slot : Nat) :
    (s.makeCurrent slot).pins = s.pins := by
  unfold State.makeCurrent
  (repeat' split) <;> simp
@[simp] theorem State.makeCurrent_draws (s : State) (slot : Nat) :
    (s.makeCurrent slot).draws = s.draws := by
  unfold State.makeCurrent
  (repeat' split) <;> simp
@[simp] theorem State.makeCurrent_pending (s : State) (slot : Nat) :
    (s.makeCurrent slot).pending = s.pending := by
  unfold State.makeCurrent
  (repeat' split) <;> simp
/-- Everything `makeCurrent` can change. -/
theorem State.makeCurrent_frame (s : State) (slot : Nat) :
    s.makeCurrent slot = { s with parcel := (s.makeCurrent slot).parcel, link := (s.makeCurrent slot).link } := by
  apply State.ext_fields <;> simp

@[simp] theorem State.dropCurrent_powered (s : State) :
    (s.dropCurrent).powered = s.powered := by
  unfold State.dropCurrent
  (repeat' split) <;> simp
@[simp] theorem State.dropCurrent_pin (s : State) :
    (s.dropCurrent).pin = s.pin := by
  unfold State.dropCurrent
  (repeat' split) <;> simp
@[simp] theorem State.dropCurrent_line (s : State) :
    (s.dropCurrent).line = s.line := by
  unfold State.dropCurrent
  (repeat' split) <;> simp
@[simp] theorem State.dropCurrent_time (s : State) :
    (s.dropCurrent).time = s.time := by
  unfold State.dropCurrent
  (repeat' split) <;> simp
@[simp] theorem State.dropCurrent_track (s : State) :
    (s.dropCurrent).track = s.track := by
  unfold State.dropCurrent
  (repeat' split) <;> simp
@[simp] theorem State.dropCurrent_probe (s : State) :
    (s.dropCurrent).probe = s.probe := by
  unfold State.dropCurrent
  (repeat' split) <;> simp
@[simp] theorem State.dropCurrent_credit (s : State) :
    (s.dropCurrent).credit = s.credit := by
  unfold State.dropCurrent
  (repeat' split) <;> simp
@[simp] theorem State.dropCurrent_dist (s : State) :
    (s.dropCurrent).dist = s.dist := by
  unfold State.dropCurrent
  (repeat' split) <;> simp
@[simp] theorem State.dropCurrent_transfer (s : State) :
    (s.dropCurrent).transfer = s.transfer := by
  unfold State.dropCurrent
  (repeat' split) <;> simp
@[simp] theorem State.dropCurrent_comm (s : State) :
    (s.dropCurrent).comm = s.comm := by
  unfold State.dropCurrent
  (repeat' split) <;> simp
@[simp] theorem State.dropCurrent_store (s : State) :
    (s.dropCurrent).store = s.store := by
  unfold State.dropCurrent
  (repeat' split) <;> simp
@[simp] theorem State.dropCurrent_pins (s : State) :
    (s.dropCurrent).pins = s.pins := by
  unfold State.dropCurrent
  (repeat' split) <;> simp
@[simp] theorem State.dropCurrent_draws (s : State) :
    (s.dropCurrent).draws = s.draws := by
  unfold State.dropCurrent
  (repeat' split) <;> simp
@[simp] theorem State.dropCurrent_pending (s : State) :
    (s.dropCurrent).pending = s.pending := by
  unfold State.dropCurrent
  (repeat' split) <;> simp
/-- Everything `dropCurrent` can change. -/
theorem State.dropCurrent_frame (s : State) :
    s.dropCurrent = { s with parcel := (s.dropCurrent).parcel, link := (s.dropCurrent).link } := by
  apply State.ext_fields <;> simp

@[simp] theorem State.setLine_powered (s : State) (state : LineState) (origin : Option LineState) (cause : Option HaltCause) (why : LineCause)
    (detail : CauseDetail) :
    (s.setLine state origin cause why detail).powered = s.powered := rfl
@[simp] theorem State.setLine_pin (s : State) (state : LineState) (origin : Option LineState) (cause : Option HaltCause) (why : LineCause)
    (detail : CauseDetail) :
    (s.setLine state origin cause why detail).pin = s.pin := rfl
@[simp] theorem State.setLine_time (s : State) (state : LineState) (origin : Option LineState) (cause : Option HaltCause) (why : LineCause)
    (detail : CauseDetail) :
    (s.setLine state origin cause why detail).time = s.time := rfl
@[simp] theorem State.setLine_track (s : State) (state : LineState) (origin : Option LineState) (cause : Option HaltCause) (why : LineCause)
    (detail : CauseDetail) :
    (s.setLine state origin cause why detail).track = s.track := rfl
@[simp] theorem State.setLine_parcel (s : State) (state : LineState) (origin : Option LineState) (cause : Option HaltCause) (why : LineCause)
    (detail : CauseDetail) :
    (s.setLine state origin cause why detail).parcel = s.parcel := rfl
@[simp] theorem State.setLine_probe (s : State) (state : LineState) (origin : Option LineState) (cause : Option HaltCause) (why : LineCause)
    (detail : CauseDetail) :
    (s.setLine state origin cause why detail).probe = s.probe := rfl
@[simp] theorem State.setLine_credit (s : State) (state : LineState) (origin : Option LineState) (cause : Option HaltCause) (why : LineCause)
    (detail : CauseDetail) :
    (s.setLine state origin cause why detail).credit = s.credit := rfl
@[simp] theorem State.setLine_dist (s : State) (state : LineState) (origin : Option LineState) (cause : Option HaltCause) (why : LineCause)
    (detail : CauseDetail) :
    (s.setLine state origin cause why detail).dist = s.dist := rfl
@[simp] theorem State.setLine_transfer (s : State) (state : LineState) (origin : Option LineState) (cause : Option HaltCause) (why : LineCause)
    (detail : CauseDetail) :
    (s.setLine state origin cause why detail).transfer = s.transfer := rfl
@[simp] theorem State.setLine_comm (s : State) (state : LineState) (origin : Option LineState) (cause : Option HaltCause) (why : LineCause)
    (detail : CauseDetail) :
    (s.setLine state origin cause why detail).comm = s.comm := rfl
@[simp] theorem State.setLine_store (s : State) (state : LineState) (origin : Option LineState) (cause : Option HaltCause) (why : LineCause)
    (detail : CauseDetail) :
    (s.setLine state origin cause why detail).store = s.store := rfl
@[simp] theorem State.setLine_pins (s : State) (state : LineState) (origin : Option LineState) (cause : Option HaltCause) (why : LineCause)
    (detail : CauseDetail) :
    (s.setLine state origin cause why detail).pins = s.pins := rfl
@[simp] theorem State.setLine_draws (s : State) (state : LineState) (origin : Option LineState) (cause : Option HaltCause) (why : LineCause)
    (detail : CauseDetail) :
    (s.setLine state origin cause why detail).draws = s.draws := rfl
@[simp] theorem State.setLine_pending (s : State) (state : LineState) (origin : Option LineState) (cause : Option HaltCause) (why : LineCause)
    (detail : CauseDetail) :
    (s.setLine state origin cause why detail).pending = s.pending := rfl
/-- Everything `setLine` can change. -/
theorem State.setLine_frame (s : State) (state : LineState) (origin : Option LineState) (cause : Option HaltCause) (why : LineCause)
    (detail : CauseDetail) :
    s.setLine state origin cause why detail = { s with line := (s.setLine state origin cause why detail).line, link := (s.setLine state origin cause why detail).link } := rfl

@[simp] theorem State.holdCounters_powered (s : State) :
    (s.holdCounters).powered = s.powered := rfl
@[simp] theorem State.holdCounters_pin (s : State) :
    (s.holdCounters).pin = s.pin := rfl
@[simp] theorem State.holdCounters_line (s : State) :
    (s.holdCounters).line = s.line := rfl
@[simp] theorem State.holdCounters_time (s : State) :
    (s.holdCounters).time = s.time := rfl
@[simp] theorem State.holdCounters_parcel (s : State) :
    (s.holdCounters).parcel = s.parcel := rfl
@[simp] theorem State.holdCounters_probe (s : State) :
    (s.holdCounters).probe = s.probe := rfl
@[simp] theorem State.holdCounters_credit (s : State) :
    (s.holdCounters).credit = s.credit := rfl
@[simp] theorem State.holdCounters_dist (s : State) :
    (s.holdCounters).dist = s.dist := rfl
@[simp] theorem State.holdCounters_transfer (s : State) :
    (s.holdCounters).transfer = s.transfer := rfl
@[simp] theorem State.holdCounters_comm (s : State) :
    (s.holdCounters).comm = s.comm := rfl
@[simp] theorem State.holdCounters_store (s : State) :
    (s.holdCounters).store = s.store := rfl
@[simp] theorem State.holdCounters_link (s : State) :
    (s.holdCounters).link = s.link := rfl
@[simp] theorem State.holdCounters_pins (s : State) :
    (s.holdCounters).pins = s.pins := rfl
@[simp] theorem State.holdCounters_draws (s : State) :
    (s.holdCounters).draws = s.draws := rfl
@[simp] theorem State.holdCounters_pending (s : State) :
    (s.holdCounters).pending = s.pending := rfl
/-- Everything `holdCounters` can change. -/
theorem State.holdCounters_frame (s : State) :
    s.holdCounters = { s with track := (s.holdCounters).track } := rfl

@[simp] theorem State.clearBacked_powered (s : State) :
    (s.clearBacked).powered = s.powered := rfl
@[simp] theorem State.clearBacked_pin (s : State) :
    (s.clearBacked).pin = s.pin := rfl
@[simp] theorem State.clearBacked_line (s : State) :
    (s.clearBacked).line = s.line := rfl
@[simp] theorem State.clearBacked_time (s : State) :
    (s.clearBacked).time = s.time := rfl
@[simp] theorem State.clearBacked_parcel (s : State) :
    (s.clearBacked).parcel = s.parcel := rfl
@[simp] theorem State.clearBacked_probe (s : State) :
    (s.clearBacked).probe = s.probe := rfl
@[simp] theorem State.clearBacked_credit (s : State) :
    (s.clearBacked).credit = s.credit := rfl
@[simp] theorem State.clearBacked_dist (s : State) :
    (s.clearBacked).dist = s.dist := rfl
@[simp] theorem State.clearBacked_transfer (s : State) :
    (s.clearBacked).transfer = s.transfer := rfl
@[simp] theorem State.clearBacked_comm (s : State) :
    (s.clearBacked).comm = s.comm := rfl
@[simp] theorem State.clearBacked_store (s : State) :
    (s.clearBacked).store = s.store := rfl
@[simp] theorem State.clearBacked_link (s : State) :
    (s.clearBacked).link = s.link := rfl
@[simp] theorem State.clearBacked_pins (s : State) :
    (s.clearBacked).pins = s.pins := rfl
@[simp] theorem State.clearBacked_draws (s : State) :
    (s.clearBacked).draws = s.draws := rfl
@[simp] theorem State.clearBacked_pending (s : State) :
    (s.clearBacked).pending = s.pending := rfl
/-- Everything `clearBacked` can change. -/
theorem State.clearBacked_frame (s : State) :
    s.clearBacked = { s with track := (s.clearBacked).track } := rfl

@[simp] theorem State.releaseSync_powered (s : State) :
    (s.releaseSync).powered = s.powered := by simp [State.releaseSync]
@[simp] theorem State.releaseSync_pin (s : State) :
    (s.releaseSync).pin = s.pin := by simp [State.releaseSync]
@[simp] theorem State.releaseSync_line (s : State) :
    (s.releaseSync).line = s.line := by simp [State.releaseSync]
@[simp] theorem State.releaseSync_parcel (s : State) :
    (s.releaseSync).parcel = s.parcel := by simp [State.releaseSync]
@[simp] theorem State.releaseSync_probe (s : State) :
    (s.releaseSync).probe = s.probe := by simp [State.releaseSync]
@[simp] theorem State.releaseSync_credit (s : State) :
    (s.releaseSync).credit = s.credit := by simp [State.releaseSync]
@[simp] theorem State.releaseSync_dist (s : State) :
    (s.releaseSync).dist = s.dist := by simp [State.releaseSync]
@[simp] theorem State.releaseSync_transfer (s : State) :
    (s.releaseSync).transfer = s.transfer := by simp [State.releaseSync]
@[simp] theorem State.releaseSync_comm (s : State) :
    (s.releaseSync).comm = s.comm := by simp [State.releaseSync]
@[simp] theorem State.releaseSync_store (s : State) :
    (s.releaseSync).store = s.store := by simp [State.releaseSync]
@[simp] theorem State.releaseSync_link (s : State) :
    (s.releaseSync).link = s.link := by simp [State.releaseSync]
@[simp] theorem State.releaseSync_pins (s : State) :
    (s.releaseSync).pins = s.pins := by simp [State.releaseSync]
@[simp] theorem State.releaseSync_draws (s : State) :
    (s.releaseSync).draws = s.draws := by simp [State.releaseSync]
@[simp] theorem State.releaseSync_pending (s : State) :
    (s.releaseSync).pending = s.pending := by simp [State.releaseSync]
/-- Everything `releaseSync` can change. -/
theorem State.releaseSync_frame (s : State) :
    s.releaseSync = { s with time := (s.releaseSync).time, track := (s.releaseSync).track } := by
  apply State.ext_fields <;> simp

@[simp] theorem State.endProving_powered (s : State) :
    (s.endProving).powered = s.powered := by
  unfold State.endProving
  (repeat' split) <;> simp
@[simp] theorem State.endProving_pin (s : State) :
    (s.endProving).pin = s.pin := by
  unfold State.endProving
  (repeat' split) <;> simp
@[simp] theorem State.endProving_line (s : State) :
    (s.endProving).line = s.line := by
  unfold State.endProving
  (repeat' split) <;> simp
@[simp] theorem State.endProving_time (s : State) :
    (s.endProving).time = s.time := by
  unfold State.endProving
  (repeat' split) <;> simp
@[simp] theorem State.endProving_track (s : State) :
    (s.endProving).track = s.track := by
  unfold State.endProving
  (repeat' split) <;> simp
@[simp] theorem State.endProving_probe (s : State) :
    (s.endProving).probe = s.probe := by
  unfold State.endProving
  (repeat' split) <;> simp
@[simp] theorem State.endProving_credit (s : State) :
    (s.endProving).credit = s.credit := by
  unfold State.endProving
  (repeat' split) <;> simp
@[simp] theorem State.endProving_dist (s : State) :
    (s.endProving).dist = s.dist := by
  unfold State.endProving
  (repeat' split) <;> simp
@[simp] theorem State.endProving_transfer (s : State) :
    (s.endProving).transfer = s.transfer := by
  unfold State.endProving
  (repeat' split) <;> simp
@[simp] theorem State.endProving_store (s : State) :
    (s.endProving).store = s.store := by
  unfold State.endProving
  (repeat' split) <;> simp
@[simp] theorem State.endProving_pins (s : State) :
    (s.endProving).pins = s.pins := by
  unfold State.endProving
  (repeat' split) <;> simp
@[simp] theorem State.endProving_draws (s : State) :
    (s.endProving).draws = s.draws := by
  unfold State.endProving
  (repeat' split) <;> simp
@[simp] theorem State.endProving_pending (s : State) :
    (s.endProving).pending = s.pending := by
  unfold State.endProving
  (repeat' split) <;> simp
/-- Everything `endProving` can change. -/
theorem State.endProving_frame (s : State) :
    s.endProving = { s with parcel := (s.endProving).parcel, comm := (s.endProving).comm, link := (s.endProving).link } := by
  apply State.ext_fields <;> simp

@[simp] theorem State.abortProving_powered (s : State) :
    (s.abortProving).powered = s.powered := by
  unfold State.abortProving
  (repeat' split) <;> simp
@[simp] theorem State.abortProving_pin (s : State) :
    (s.abortProving).pin = s.pin := by
  unfold State.abortProving
  (repeat' split) <;> simp
@[simp] theorem State.abortProving_line (s : State) :
    (s.abortProving).line = s.line := by
  unfold State.abortProving
  (repeat' split) <;> simp
@[simp] theorem State.abortProving_time (s : State) :
    (s.abortProving).time = s.time := by
  unfold State.abortProving
  (repeat' split) <;> simp
@[simp] theorem State.abortProving_track (s : State) :
    (s.abortProving).track = s.track := by
  unfold State.abortProving
  (repeat' split) <;> simp
@[simp] theorem State.abortProving_probe (s : State) :
    (s.abortProving).probe = s.probe := by
  unfold State.abortProving
  (repeat' split) <;> simp
@[simp] theorem State.abortProving_credit (s : State) :
    (s.abortProving).credit = s.credit := by
  unfold State.abortProving
  (repeat' split) <;> simp
@[simp] theorem State.abortProving_dist (s : State) :
    (s.abortProving).dist = s.dist := by
  unfold State.abortProving
  (repeat' split) <;> simp
@[simp] theorem State.abortProving_transfer (s : State) :
    (s.abortProving).transfer = s.transfer := by
  unfold State.abortProving
  (repeat' split) <;> simp
@[simp] theorem State.abortProving_store (s : State) :
    (s.abortProving).store = s.store := by
  unfold State.abortProving
  (repeat' split) <;> simp
@[simp] theorem State.abortProving_pins (s : State) :
    (s.abortProving).pins = s.pins := by
  unfold State.abortProving
  (repeat' split) <;> simp
@[simp] theorem State.abortProving_draws (s : State) :
    (s.abortProving).draws = s.draws := by
  unfold State.abortProving
  (repeat' split) <;> simp
@[simp] theorem State.abortProving_pending (s : State) :
    (s.abortProving).pending = s.pending := by
  unfold State.abortProving
  (repeat' split) <;> simp
/-- Everything `abortProving` can change. -/
theorem State.abortProving_frame (s : State) :
    s.abortProving = { s with parcel := (s.abortProving).parcel, comm := (s.abortProving).comm, link := (s.abortProving).link } := by
  apply State.ext_fields <;> simp

@[simp] theorem State.enterHalted_powered (s : State) (cause : HaltCause) :
    (s.enterHalted cause).powered = s.powered := by
  unfold State.enterHalted
  (repeat' split) <;> simp
@[simp] theorem State.enterHalted_pin (s : State) (cause : HaltCause) :
    (s.enterHalted cause).pin = s.pin := by
  unfold State.enterHalted
  (repeat' split) <;> simp
@[simp] theorem State.enterHalted_track (s : State) (cause : HaltCause) :
    (s.enterHalted cause).track = s.track := by
  unfold State.enterHalted
  (repeat' split) <;> simp
@[simp] theorem State.enterHalted_probe (s : State) (cause : HaltCause) :
    (s.enterHalted cause).probe = s.probe := by
  unfold State.enterHalted
  (repeat' split) <;> simp
@[simp] theorem State.enterHalted_credit (s : State) (cause : HaltCause) :
    (s.enterHalted cause).credit = s.credit := by
  unfold State.enterHalted
  (repeat' split) <;> simp
@[simp] theorem State.enterHalted_dist (s : State) (cause : HaltCause) :
    (s.enterHalted cause).dist = s.dist := by
  unfold State.enterHalted
  (repeat' split) <;> simp
@[simp] theorem State.enterHalted_transfer (s : State) (cause : HaltCause) :
    (s.enterHalted cause).transfer = s.transfer := by
  unfold State.enterHalted
  (repeat' split) <;> simp
@[simp] theorem State.enterHalted_store (s : State) (cause : HaltCause) :
    (s.enterHalted cause).store = s.store := by
  unfold State.enterHalted
  (repeat' split) <;> simp
@[simp] theorem State.enterHalted_pins (s : State) (cause : HaltCause) :
    (s.enterHalted cause).pins = s.pins := by
  unfold State.enterHalted
  (repeat' split) <;> simp
@[simp] theorem State.enterHalted_draws (s : State) (cause : HaltCause) :
    (s.enterHalted cause).draws = s.draws := by
  unfold State.enterHalted
  (repeat' split) <;> simp
@[simp] theorem State.enterHalted_pending (s : State) (cause : HaltCause) :
    (s.enterHalted cause).pending = s.pending := by
  unfold State.enterHalted
  (repeat' split) <;> simp
/-- Everything `enterHalted` can change. -/
theorem State.enterHalted_frame (s : State) (cause : HaltCause) :
    s.enterHalted cause = { s with line := (s.enterHalted cause).line, time := (s.enterHalted cause).time, parcel := (s.enterHalted cause).parcel, comm := (s.enterHalted cause).comm, link := (s.enterHalted cause).link } := by
  apply State.ext_fields <;> simp

@[simp] theorem State.raiseHalt_powered (s : State) (cause : HaltCause) :
    (s.raiseHalt cause).powered = s.powered := by
  unfold State.raiseHalt
  (repeat' split) <;> simp
@[simp] theorem State.raiseHalt_pin (s : State) (cause : HaltCause) :
    (s.raiseHalt cause).pin = s.pin := by
  unfold State.raiseHalt
  (repeat' split) <;> simp
@[simp] theorem State.raiseHalt_track (s : State) (cause : HaltCause) :
    (s.raiseHalt cause).track = s.track := by
  unfold State.raiseHalt
  (repeat' split) <;> simp
@[simp] theorem State.raiseHalt_probe (s : State) (cause : HaltCause) :
    (s.raiseHalt cause).probe = s.probe := by
  unfold State.raiseHalt
  (repeat' split) <;> simp
@[simp] theorem State.raiseHalt_credit (s : State) (cause : HaltCause) :
    (s.raiseHalt cause).credit = s.credit := by
  unfold State.raiseHalt
  (repeat' split) <;> simp
@[simp] theorem State.raiseHalt_dist (s : State) (cause : HaltCause) :
    (s.raiseHalt cause).dist = s.dist := by
  unfold State.raiseHalt
  (repeat' split) <;> simp
@[simp] theorem State.raiseHalt_transfer (s : State) (cause : HaltCause) :
    (s.raiseHalt cause).transfer = s.transfer := by
  unfold State.raiseHalt
  (repeat' split) <;> simp
@[simp] theorem State.raiseHalt_store (s : State) (cause : HaltCause) :
    (s.raiseHalt cause).store = s.store := by
  unfold State.raiseHalt
  (repeat' split) <;> simp
@[simp] theorem State.raiseHalt_pins (s : State) (cause : HaltCause) :
    (s.raiseHalt cause).pins = s.pins := by
  unfold State.raiseHalt
  (repeat' split) <;> simp
@[simp] theorem State.raiseHalt_draws (s : State) (cause : HaltCause) :
    (s.raiseHalt cause).draws = s.draws := by
  unfold State.raiseHalt
  (repeat' split) <;> simp
@[simp] theorem State.raiseHalt_pending (s : State) (cause : HaltCause) :
    (s.raiseHalt cause).pending = s.pending := by
  unfold State.raiseHalt
  (repeat' split) <;> simp
/-- Everything `raiseHalt` can change. -/
theorem State.raiseHalt_frame (s : State) (cause : HaltCause) :
    s.raiseHalt cause = { s with line := (s.raiseHalt cause).line, time := (s.raiseHalt cause).time, parcel := (s.raiseHalt cause).parcel, comm := (s.raiseHalt cause).comm, link := (s.raiseHalt cause).link } := by
  apply State.ext_fields <;> simp

@[simp] theorem State.emptyTest_powered (s : State) :
    (s.emptyTest).powered = s.powered := by
  unfold State.emptyTest
  (repeat' split) <;> simp
@[simp] theorem State.emptyTest_pin (s : State) :
    (s.emptyTest).pin = s.pin := by
  unfold State.emptyTest
  (repeat' split) <;> simp
@[simp] theorem State.emptyTest_parcel (s : State) :
    (s.emptyTest).parcel = s.parcel := by
  unfold State.emptyTest
  (repeat' split) <;> simp
@[simp] theorem State.emptyTest_probe (s : State) :
    (s.emptyTest).probe = s.probe := by
  unfold State.emptyTest
  (repeat' split) <;> simp
@[simp] theorem State.emptyTest_credit (s : State) :
    (s.emptyTest).credit = s.credit := by
  unfold State.emptyTest
  (repeat' split) <;> simp
@[simp] theorem State.emptyTest_dist (s : State) :
    (s.emptyTest).dist = s.dist := by
  unfold State.emptyTest
  (repeat' split) <;> simp
@[simp] theorem State.emptyTest_transfer (s : State) :
    (s.emptyTest).transfer = s.transfer := by
  unfold State.emptyTest
  (repeat' split) <;> simp
@[simp] theorem State.emptyTest_comm (s : State) :
    (s.emptyTest).comm = s.comm := by
  unfold State.emptyTest
  (repeat' split) <;> simp
@[simp] theorem State.emptyTest_store (s : State) :
    (s.emptyTest).store = s.store := by
  unfold State.emptyTest
  (repeat' split) <;> simp
@[simp] theorem State.emptyTest_pins (s : State) :
    (s.emptyTest).pins = s.pins := by
  unfold State.emptyTest
  (repeat' split) <;> simp
@[simp] theorem State.emptyTest_draws (s : State) :
    (s.emptyTest).draws = s.draws := by
  unfold State.emptyTest
  (repeat' split) <;> simp
@[simp] theorem State.emptyTest_pending (s : State) :
    (s.emptyTest).pending = s.pending := by
  unfold State.emptyTest
  (repeat' split) <;> simp
/-- Everything `emptyTest` can change. -/
theorem State.emptyTest_frame (s : State) :
    s.emptyTest = { s with line := (s.emptyTest).line, time := (s.emptyTest).time, track := (s.emptyTest).track, link := (s.emptyTest).link } := by
  apply State.ext_fields <;> simp

@[simp] theorem State.setLatch_powered (s : State) (x : TripSource) (b : Bool) :
    (s.setLatch x b).powered = s.powered := rfl
@[simp] theorem State.setLatch_pin (s : State) (x : TripSource) (b : Bool) :
    (s.setLatch x b).pin = s.pin := rfl
@[simp] theorem State.setLatch_line (s : State) (x : TripSource) (b : Bool) :
    (s.setLatch x b).line = s.line := rfl
@[simp] theorem State.setLatch_time (s : State) (x : TripSource) (b : Bool) :
    (s.setLatch x b).time = s.time := rfl
@[simp] theorem State.setLatch_track (s : State) (x : TripSource) (b : Bool) :
    (s.setLatch x b).track = s.track := rfl
@[simp] theorem State.setLatch_parcel (s : State) (x : TripSource) (b : Bool) :
    (s.setLatch x b).parcel = s.parcel := rfl
@[simp] theorem State.setLatch_credit (s : State) (x : TripSource) (b : Bool) :
    (s.setLatch x b).credit = s.credit := rfl
@[simp] theorem State.setLatch_dist (s : State) (x : TripSource) (b : Bool) :
    (s.setLatch x b).dist = s.dist := rfl
@[simp] theorem State.setLatch_transfer (s : State) (x : TripSource) (b : Bool) :
    (s.setLatch x b).transfer = s.transfer := rfl
@[simp] theorem State.setLatch_comm (s : State) (x : TripSource) (b : Bool) :
    (s.setLatch x b).comm = s.comm := rfl
@[simp] theorem State.setLatch_store (s : State) (x : TripSource) (b : Bool) :
    (s.setLatch x b).store = s.store := rfl
@[simp] theorem State.setLatch_link (s : State) (x : TripSource) (b : Bool) :
    (s.setLatch x b).link = s.link := rfl
@[simp] theorem State.setLatch_pins (s : State) (x : TripSource) (b : Bool) :
    (s.setLatch x b).pins = s.pins := rfl
@[simp] theorem State.setLatch_draws (s : State) (x : TripSource) (b : Bool) :
    (s.setLatch x b).draws = s.draws := rfl
@[simp] theorem State.setLatch_pending (s : State) (x : TripSource) (b : Bool) :
    (s.setLatch x b).pending = s.pending := rfl
/-- Everything `setLatch` can change. -/
theorem State.setLatch_frame (s : State) (x : TripSource) (b : Bool) :
    s.setLatch x b = { s with probe := (s.setLatch x b).probe } := rfl

@[simp] theorem State.markZone_powered (s : State) (x : TripSource) :
    (s.markZone x).powered = s.powered := by
  unfold State.markZone
  (repeat' split) <;> simp
@[simp] theorem State.markZone_pin (s : State) (x : TripSource) :
    (s.markZone x).pin = s.pin := by
  unfold State.markZone
  (repeat' split) <;> simp
@[simp] theorem State.markZone_line (s : State) (x : TripSource) :
    (s.markZone x).line = s.line := by
  unfold State.markZone
  (repeat' split) <;> simp
@[simp] theorem State.markZone_time (s : State) (x : TripSource) :
    (s.markZone x).time = s.time := by
  unfold State.markZone
  (repeat' split) <;> simp
@[simp] theorem State.markZone_track (s : State) (x : TripSource) :
    (s.markZone x).track = s.track := by
  unfold State.markZone
  (repeat' split) <;> simp
@[simp] theorem State.markZone_probe (s : State) (x : TripSource) :
    (s.markZone x).probe = s.probe := by
  unfold State.markZone
  (repeat' split) <;> simp
@[simp] theorem State.markZone_credit (s : State) (x : TripSource) :
    (s.markZone x).credit = s.credit := by
  unfold State.markZone
  (repeat' split) <;> simp
@[simp] theorem State.markZone_dist (s : State) (x : TripSource) :
    (s.markZone x).dist = s.dist := by
  unfold State.markZone
  (repeat' split) <;> simp
@[simp] theorem State.markZone_transfer (s : State) (x : TripSource) :
    (s.markZone x).transfer = s.transfer := by
  unfold State.markZone
  (repeat' split) <;> simp
@[simp] theorem State.markZone_comm (s : State) (x : TripSource) :
    (s.markZone x).comm = s.comm := by
  unfold State.markZone
  (repeat' split) <;> simp
@[simp] theorem State.markZone_store (s : State) (x : TripSource) :
    (s.markZone x).store = s.store := by
  unfold State.markZone
  (repeat' split) <;> simp
@[simp] theorem State.markZone_link (s : State) (x : TripSource) :
    (s.markZone x).link = s.link := by
  unfold State.markZone
  (repeat' split) <;> simp
@[simp] theorem State.markZone_pins (s : State) (x : TripSource) :
    (s.markZone x).pins = s.pins := by
  unfold State.markZone
  (repeat' split) <;> simp
@[simp] theorem State.markZone_draws (s : State) (x : TripSource) :
    (s.markZone x).draws = s.draws := by
  unfold State.markZone
  (repeat' split) <;> simp
@[simp] theorem State.markZone_pending (s : State) (x : TripSource) :
    (s.markZone x).pending = s.pending := by
  unfold State.markZone
  (repeat' split) <;> simp
/-- Everything `markZone` can change. -/
theorem State.markZone_frame (s : State) (x : TripSource) :
    s.markZone x = { s with parcel := (s.markZone x).parcel } := by
  apply State.ext_fields <;> simp

@[simp] theorem State.fire_powered (s : State) (x : TripSource) (cause : TripCause) (pallet time : Nat) :
    (s.fire x cause pallet time).powered = s.powered := by
  unfold State.fire
  dsimp only
  split_ifs <;> simp
@[simp] theorem State.fire_pin (s : State) (x : TripSource) (cause : TripCause) (pallet time : Nat) :
    (s.fire x cause pallet time).pin = s.pin := by
  unfold State.fire
  dsimp only
  split_ifs <;> simp
@[simp] theorem State.fire_track (s : State) (x : TripSource) (cause : TripCause) (pallet time : Nat) :
    (s.fire x cause pallet time).track = s.track := by
  unfold State.fire
  dsimp only
  split_ifs <;> simp
@[simp] theorem State.fire_credit (s : State) (x : TripSource) (cause : TripCause) (pallet time : Nat) :
    (s.fire x cause pallet time).credit = s.credit := by
  unfold State.fire
  dsimp only
  split_ifs <;> simp
@[simp] theorem State.fire_dist (s : State) (x : TripSource) (cause : TripCause) (pallet time : Nat) :
    (s.fire x cause pallet time).dist = s.dist := by
  unfold State.fire
  dsimp only
  split_ifs <;> simp
@[simp] theorem State.fire_transfer (s : State) (x : TripSource) (cause : TripCause) (pallet time : Nat) :
    (s.fire x cause pallet time).transfer = s.transfer := by
  unfold State.fire
  dsimp only
  split_ifs <;> simp
@[simp] theorem State.fire_store (s : State) (x : TripSource) (cause : TripCause) (pallet time : Nat) :
    (s.fire x cause pallet time).store = s.store := by
  unfold State.fire
  dsimp only
  split_ifs <;> simp
@[simp] theorem State.fire_pins (s : State) (x : TripSource) (cause : TripCause) (pallet time : Nat) :
    (s.fire x cause pallet time).pins = s.pins := by
  unfold State.fire
  dsimp only
  split_ifs <;> simp
@[simp] theorem State.fire_draws (s : State) (x : TripSource) (cause : TripCause) (pallet time : Nat) :
    (s.fire x cause pallet time).draws = s.draws := by
  unfold State.fire
  dsimp only
  split_ifs <;> simp
@[simp] theorem State.fire_pending (s : State) (x : TripSource) (cause : TripCause) (pallet time : Nat) :
    (s.fire x cause pallet time).pending = s.pending := by
  unfold State.fire
  dsimp only
  split_ifs <;> simp
/-- Everything `fire` can change. -/
theorem State.fire_frame (s : State) (x : TripSource) (cause : TripCause) (pallet time : Nat) :
    s.fire x cause pallet time = { s with line := (s.fire x cause pallet time).line, time := (s.fire x cause pallet time).time, parcel := (s.fire x cause pallet time).parcel, probe := (s.fire x cause pallet time).probe, comm := (s.fire x cause pallet time).comm, link := (s.fire x cause pallet time).link } := by
  apply State.ext_fields <;> simp

@[simp] theorem State.reform_powered (s : State) (c : Nat) (cause : TripCause) (time : Nat) :
    (s.reform c cause time).powered = s.powered := by
  unfold State.reform
  split
  · refine State.each_induct (fun t => t.powered = s.powered) _ _ _ rfl fun l _ t ht => ?_
    split <;> simpa using ht
  · rfl
@[simp] theorem State.reform_pin (s : State) (c : Nat) (cause : TripCause) (time : Nat) :
    (s.reform c cause time).pin = s.pin := by
  unfold State.reform
  split
  · refine State.each_induct (fun t => t.pin = s.pin) _ _ _ rfl fun l _ t ht => ?_
    split <;> simpa using ht
  · rfl
@[simp] theorem State.reform_track (s : State) (c : Nat) (cause : TripCause) (time : Nat) :
    (s.reform c cause time).track = s.track := by
  unfold State.reform
  split
  · refine State.each_induct (fun t => t.track = s.track) _ _ _ rfl fun l _ t ht => ?_
    split <;> simpa using ht
  · rfl
@[simp] theorem State.reform_credit (s : State) (c : Nat) (cause : TripCause) (time : Nat) :
    (s.reform c cause time).credit = s.credit := by
  unfold State.reform
  split
  · refine State.each_induct (fun t => t.credit = s.credit) _ _ _ rfl fun l _ t ht => ?_
    split <;> simpa using ht
  · rfl
@[simp] theorem State.reform_dist (s : State) (c : Nat) (cause : TripCause) (time : Nat) :
    (s.reform c cause time).dist = s.dist := by
  unfold State.reform
  split
  · refine State.each_induct (fun t => t.dist = s.dist) _ _ _ rfl fun l _ t ht => ?_
    split <;> simpa using ht
  · rfl
@[simp] theorem State.reform_transfer (s : State) (c : Nat) (cause : TripCause) (time : Nat) :
    (s.reform c cause time).transfer = s.transfer := by
  unfold State.reform
  split
  · refine State.each_induct (fun t => t.transfer = s.transfer) _ _ _ rfl fun l _ t ht => ?_
    split <;> simpa using ht
  · rfl
@[simp] theorem State.reform_store (s : State) (c : Nat) (cause : TripCause) (time : Nat) :
    (s.reform c cause time).store = s.store := by
  unfold State.reform
  split
  · refine State.each_induct (fun t => t.store = s.store) _ _ _ rfl fun l _ t ht => ?_
    split <;> simpa using ht
  · rfl
@[simp] theorem State.reform_pins (s : State) (c : Nat) (cause : TripCause) (time : Nat) :
    (s.reform c cause time).pins = s.pins := by
  unfold State.reform
  split
  · refine State.each_induct (fun t => t.pins = s.pins) _ _ _ rfl fun l _ t ht => ?_
    split <;> simpa using ht
  · rfl
@[simp] theorem State.reform_draws (s : State) (c : Nat) (cause : TripCause) (time : Nat) :
    (s.reform c cause time).draws = s.draws := by
  unfold State.reform
  split
  · refine State.each_induct (fun t => t.draws = s.draws) _ _ _ rfl fun l _ t ht => ?_
    split <;> simpa using ht
  · rfl
@[simp] theorem State.reform_pending (s : State) (c : Nat) (cause : TripCause) (time : Nat) :
    (s.reform c cause time).pending = s.pending := by
  unfold State.reform
  split
  · refine State.each_induct (fun t => t.pending = s.pending) _ _ _ rfl fun l _ t ht => ?_
    split <;> simpa using ht
  · rfl
/-- Everything `reform` can change. -/
theorem State.reform_frame (s : State) (c : Nat) (cause : TripCause) (time : Nat) :
    s.reform c cause time = { s with line := (s.reform c cause time).line, time := (s.reform c cause time).time, parcel := (s.reform c cause time).parcel, probe := (s.reform c cause time).probe, comm := (s.reform c cause time).comm, link := (s.reform c cause time).link } := by
  apply State.ext_fields <;> simp

@[simp] theorem State.finish_powered (s : State) :
    (s.finish).powered = s.powered := by
  unfold State.finish
  (repeat' split) <;> simp
@[simp] theorem State.finish_pin (s : State) :
    (s.finish).pin = s.pin := by
  unfold State.finish
  (repeat' split) <;> simp
@[simp] theorem State.finish_line (s : State) :
    (s.finish).line = s.line := by
  unfold State.finish
  (repeat' split) <;> simp
@[simp] theorem State.finish_time (s : State) :
    (s.finish).time = s.time := by
  unfold State.finish
  (repeat' split) <;> simp
@[simp] theorem State.finish_track (s : State) :
    (s.finish).track = s.track := by
  unfold State.finish
  (repeat' split) <;> simp
@[simp] theorem State.finish_parcel (s : State) :
    (s.finish).parcel = s.parcel := by
  unfold State.finish
  (repeat' split) <;> simp
@[simp] theorem State.finish_probe (s : State) :
    (s.finish).probe = s.probe := by
  unfold State.finish
  (repeat' split) <;> simp
@[simp] theorem State.finish_credit (s : State) :
    (s.finish).credit = s.credit := by
  unfold State.finish
  (repeat' split) <;> simp
@[simp] theorem State.finish_dist (s : State) :
    (s.finish).dist = s.dist := by
  unfold State.finish
  (repeat' split) <;> simp
@[simp] theorem State.finish_transfer (s : State) :
    (s.finish).transfer = s.transfer := by
  unfold State.finish
  (repeat' split) <;> simp
@[simp] theorem State.finish_comm (s : State) :
    (s.finish).comm = s.comm := by
  unfold State.finish
  (repeat' split) <;> simp
@[simp] theorem State.finish_store (s : State) :
    (s.finish).store = s.store := by
  unfold State.finish
  (repeat' split) <;> simp
@[simp] theorem State.finish_draws (s : State) :
    (s.finish).draws = s.draws := by
  unfold State.finish
  (repeat' split) <;> simp
@[simp] theorem State.finish_pending (s : State) :
    (s.finish).pending = s.pending := by
  unfold State.finish
  (repeat' split) <;> simp
/-- Everything `finish` can change. -/
theorem State.finish_frame (s : State) :
    s.finish = { s with link := (s.finish).link, pins := (s.finish).pins } := by
  apply State.ext_fields <;> simp

@[simp] theorem State.replied_powered (s : State) (f : Frame) (b : ReplyBody) :
    (s.replied f b).powered = s.powered := by simp [State.replied]
@[simp] theorem State.replied_pin (s : State) (f : Frame) (b : ReplyBody) :
    (s.replied f b).pin = s.pin := by simp [State.replied]
@[simp] theorem State.replied_line (s : State) (f : Frame) (b : ReplyBody) :
    (s.replied f b).line = s.line := by simp [State.replied]
@[simp] theorem State.replied_time (s : State) (f : Frame) (b : ReplyBody) :
    (s.replied f b).time = s.time := by simp [State.replied]
@[simp] theorem State.replied_track (s : State) (f : Frame) (b : ReplyBody) :
    (s.replied f b).track = s.track := by simp [State.replied]
@[simp] theorem State.replied_parcel (s : State) (f : Frame) (b : ReplyBody) :
    (s.replied f b).parcel = s.parcel := by simp [State.replied]
@[simp] theorem State.replied_probe (s : State) (f : Frame) (b : ReplyBody) :
    (s.replied f b).probe = s.probe := by simp [State.replied]
@[simp] theorem State.replied_credit (s : State) (f : Frame) (b : ReplyBody) :
    (s.replied f b).credit = s.credit := by simp [State.replied]
@[simp] theorem State.replied_dist (s : State) (f : Frame) (b : ReplyBody) :
    (s.replied f b).dist = s.dist := by simp [State.replied]
@[simp] theorem State.replied_transfer (s : State) (f : Frame) (b : ReplyBody) :
    (s.replied f b).transfer = s.transfer := by simp [State.replied]
@[simp] theorem State.replied_comm (s : State) (f : Frame) (b : ReplyBody) :
    (s.replied f b).comm = s.comm := by simp [State.replied]
@[simp] theorem State.replied_store (s : State) (f : Frame) (b : ReplyBody) :
    (s.replied f b).store = s.store := by simp [State.replied]
@[simp] theorem State.replied_draws (s : State) (f : Frame) (b : ReplyBody) :
    (s.replied f b).draws = s.draws := by simp [State.replied]
@[simp] theorem State.replied_pending (s : State) (f : Frame) (b : ReplyBody) :
    (s.replied f b).pending = s.pending := by simp [State.replied]
/-- Everything `replied` can change. -/
theorem State.replied_frame (s : State) (f : Frame) (b : ReplyBody) :
    s.replied f b = { s with link := (s.replied f b).link, pins := (s.replied f b).pins } := by
  apply State.ext_fields <;> simp

@[simp] theorem State.edited_powered (s : State) :
    (s.edited).powered = s.powered := rfl
@[simp] theorem State.edited_pin (s : State) :
    (s.edited).pin = s.pin := rfl
@[simp] theorem State.edited_line (s : State) :
    (s.edited).line = s.line := rfl
@[simp] theorem State.edited_time (s : State) :
    (s.edited).time = s.time := rfl
@[simp] theorem State.edited_track (s : State) :
    (s.edited).track = s.track := rfl
@[simp] theorem State.edited_parcel (s : State) :
    (s.edited).parcel = s.parcel := rfl
@[simp] theorem State.edited_probe (s : State) :
    (s.edited).probe = s.probe := rfl
@[simp] theorem State.edited_credit (s : State) :
    (s.edited).credit = s.credit := rfl
@[simp] theorem State.edited_dist (s : State) :
    (s.edited).dist = s.dist := rfl
@[simp] theorem State.edited_transfer (s : State) :
    (s.edited).transfer = s.transfer := rfl
@[simp] theorem State.edited_store (s : State) :
    (s.edited).store = s.store := rfl
@[simp] theorem State.edited_link (s : State) :
    (s.edited).link = s.link := rfl
@[simp] theorem State.edited_pins (s : State) :
    (s.edited).pins = s.pins := rfl
@[simp] theorem State.edited_draws (s : State) :
    (s.edited).draws = s.draws := rfl
@[simp] theorem State.edited_pending (s : State) :
    (s.edited).pending = s.pending := rfl
/-- Everything `edited` can change. -/
theorem State.edited_frame (s : State) :
    s.edited = { s with comm := (s.edited).comm } := rfl

end Sys2Proof.Machine
end

