-- ==== Sys2Proof/Laws/Effects.lean ====
section
/-! SUPPORT. What each shared operation makes of the fields it changes, case by case; the frames stand in Laws/Frames.lean. -/

namespace Sys2Proof.Machine

/-! ### A command of a powered part -/

theorem State.act_powered (s : State) (effect : State → State) (h : s.powered = true) :
    s.act effect = .next (effect s).finish := by simp [State.act, h]

theorem State.act_unpowered (s : State) (effect : State → State) (h : s.powered = false) : s.act effect = .next s := by
  simp [State.act, h]

/-- A command of the block always answers a next state. -/
theorem State.act_next (s : State) (effect : State → State) : ∃ t, s.act effect = .next t := ⟨_, rfl⟩

/-! ### The notice queue (R185) -/

theorem State.notify_link_room (s : State) (b : NoticeBody) (h : Room s 1) :
    (s.notify b).link = { s.link with notices := s.link.notices ++ [⟨s.time.lineTime, b⟩] } := by
  have h' : s.link.notices.length < Config.noticeDepth ∧ s.link.waiting = [] := ⟨h.1, h.2⟩
  simp [State.notify, h']

theorem State.notify_link_full (s : State) (b : NoticeBody) (h : ¬Room s 1) :
    (s.notify b).link = { s.link with overrun := true } := by
  have h' : ¬(s.link.notices.length < Config.noticeDepth ∧ s.link.waiting = []) := h
  simp only [State.notify, State.onLink_link, if_neg h']

@[simp] theorem State.enter_link (s : State) (b : NoticeBody) :
    (s.enter b).link = { s.link with notices := s.link.notices ++ [⟨s.time.lineTime, b⟩] } := rfl

@[simp] theorem State.await_link (s : State) (r : Retained) :
    (s.await r).link = { s.link with waiting := s.link.waiting ++ [r] } := rfl

/-- An ordinary notice touches nothing of the link but queue and overrun mark. -/
theorem State.notify_link (s : State) (b : NoticeBody) :
    (s.notify b).link = { s.link with notices := (s.notify b).link.notices, overrun := (s.notify b).link.overrun } := by
  simp only [State.notify, State.onLink_link]
  split <;> rfl

@[simp] theorem State.notify_receive (s : State) (b : NoticeBody) : (s.notify b).link.receive = s.link.receive := by
  rw [State.notify_link]
@[simp] theorem State.notify_busy (s : State) (b : NoticeBody) : (s.notify b).link.busy = s.link.busy := by
  rw [State.notify_link]
@[simp] theorem State.notify_waiting (s : State) (b : NoticeBody) : (s.notify b).link.waiting = s.link.waiting := by
  rw [State.notify_link]
@[simp] theorem State.notify_transmitter (s : State) (b : NoticeBody) : (s.notify b).link.transmitter = s.link.transmitter := by
  rw [State.notify_link]
@[simp] theorem State.notify_receiver (s : State) (b : NoticeBody) : (s.notify b).link.receiver = s.link.receiver := by
  rw [State.notify_link]

/-- With an ordinary notice the queue stays within its entries. -/
theorem State.notify_bound (s : State) (b : NoticeBody) (h : s.link.notices.length ≤ Config.noticeDepth) :
    (s.notify b).link.notices.length ≤ Config.noticeDepth := by
  simp only [State.notify, State.onLink_link]
  split
  · next h' => simpa using h'.1
  · exact h

/-! ### Timers (R24, R26) -/

@[simp] theorem State.arm_timers (s : State) (id : TimerId) (due : Nat) :
    (s.arm id due).time.timers = s.time.timers.put id.index (min due Config.lineTimeMax) := rfl
@[simp] theorem State.arm_lineTime (s : State) (id : TimerId) (due : Nat) : (s.arm id due).time.lineTime = s.time.lineTime := rfl
@[simp] theorem State.armFor_lineTime (s : State) (id : TimerId) (ms : Nat) :
    (s.armFor id ms).time.lineTime = s.time.lineTime := rfl
@[simp] theorem State.cancel_timers (s : State) (id : TimerId) : (s.cancel id).time.timers = s.time.timers.del id.index := rfl
@[simp] theorem State.cancel_lineTime (s : State) (id : TimerId) : (s.cancel id).time.lineTime = s.time.lineTime := rfl
@[simp] theorem State.cancelStalls_lineTime (s : State) : s.cancelStalls.time.lineTime = s.time.lineTime := rfl

/-- The due of a timer just armed. -/
theorem State.armFor_due (s : State) (id : TimerId) (ms : Nat) :
    (s.armFor id ms).time.timers.get? id.index = some (min (s.time.lineTime + ms) Config.lineTimeMax) := by
  simp [State.armFor]

/-- Arming the stall timers leaves line time. -/
@[simp] theorem State.armStalls_lineTime (s : State) : s.armStalls.time.lineTime = s.time.lineTime := by
  unfold State.armStalls
  refine State.each_induct (fun t => t.time.lineTime = s.time.lineTime) _ _ _ rfl fun e _ t ht => ?_
  split <;> simpa using ht

/-! ### Lots and parcels -/

@[simp] theorem State.onLot_lots (s : State) (slot : Nat) (f : Lot → Lot) :
    (s.onLot slot f).parcel.lots = s.parcel.lots.modify slot f := rfl
@[simp] theorem State.onLot_parcels (s : State) (slot : Nat) (f : Lot → Lot) :
    (s.onLot slot f).parcel.parcels = s.parcel.parcels := rfl
@[simp] theorem State.onLot_current (s : State) (slot : Nat) (f : Lot → Lot) :
    (s.onLot slot f).parcel.current = s.parcel.current := rfl
@[simp] theorem State.onLot_staged (s : State) (slot : Nat) (f : Lot → Lot) :
    (s.onLot slot f).parcel.staged = s.parcel.staged := rfl

/-- R73: a lot that may not retire is left as it is. -/
theorem State.retireTest_keep (s : State) (slot : Nat) (h : ∀ l, s.parcel.lots.get? slot = some l → s.parcel.mayRetire slot l = false) :
    s.retireTest slot = s := by
  unfold State.retireTest
  split
  · next l hl => simp [h l hl]
  · rfl

/-- R73: with a free entry a lot that may retire is reported and its slot becomes FREE in the same step. -/
theorem State.retireTest_enter (s : State) (slot : Nat) (l : Lot) (hl : s.parcel.lots.get? slot = some l)
    (hr : s.parcel.mayRetire slot l = true) (hq : s.link.hasRoom = true) :
    s.retireTest slot =
      (s.onLot slot fun l => { l with retired := some s.time.lineTime }).enterSummary slot := by
  simp [State.retireTest, hl, hr, State.offerSummary, hq]

/-- R73: a retirement test changes no live parcel and neither declaration. -/
theorem State.retireTest_parcels (s : State) (slot : Nat) :
    (s.retireTest slot).parcel.parcels = s.parcel.parcels ∧ (s.retireTest slot).parcel.current = s.parcel.current ∧
      (s.retireTest slot).parcel.staged = s.parcel.staged ∧ (s.retireTest slot).parcel.lastSeq = s.parcel.lastSeq := by
  unfold State.retireTest State.offerSummary State.enterSummary
  split
  · split
    · split
      · split <;> exact ⟨rfl, rfl, rfl, rfl⟩
      · exact ⟨rfl, rfl, rfl, rfl⟩
    · exact ⟨rfl, rfl, rfl, rfl⟩
  · exact ⟨rfl, rfl, rfl, rfl⟩

/-! ### The job's pallet at a fault (R155) -/

theorem TransferUnit.jobPallet_idle (u : TransferUnit) (h : u.shuttle.job = none) : u.jobPallet = none := by
  simp [TransferUnit.jobPallet, h]

/-- R155: after the door pass no pallet is the job's, whatever number a new one has taken. -/
theorem TransferUnit.jobPallet_passed (u : TransferUnit) (j : Job) (h : u.shuttle.job = some j) (hd : j.doorMade = true) :
    u.jobPallet = none := by simp [TransferUnit.jobPallet, h, hd]

theorem TransferUnit.jobPallet_carried (u : TransferUnit) (j : Job) (h : u.shuttle.job = some j) (hd : j.doorMade = false) :
    u.jobPallet = u.findPallet j.pallet := by simp [TransferUnit.jobPallet, h, hd]

/-! ### A sample and zone entries of the same moment (R110) -/

/-- R110: a parcel without a zone entry in the moment meets the sample as it stands, whatever the code. -/
theorem Parcel.meet_still (now code : Nat) (reached : Parcel → Bool) (f : Parcel → Parcel) (p : Parcel) (h : p.views now = []) :
    p.meet now code reached f = p.sampled reached f := by simp only [Parcel.meet, if_pos h]

/-- R110: what a sample can make of a parcel with zone entries in the moment: it comes after them all, or before those that
follow one of its views, and then leaves credit zone and arming as the last entry made them. -/
theorem Parcel.meet_cases (now code : Nat) (reached : Parcel → Bool) (f : Parcel → Parcel) (p : Parcel) (h : p.views now ≠ []) :
    p.meet now code reached f = { p.sampled reached f with past := [] } ∨
      ∃ before view after, p.views now = before ++ view :: after ∧ p.meet now code reached f =
        { (p.asOf view).sampled reached f with zone := p.zone, armed := p.armed, past := view :: after } := by
  simp only [Parcel.meet, if_neg h, Parcel.meetAt]
  split
  · next v rest hd => exact Or.inr ⟨_, v, rest, by rw [← hd, List.take_append_drop], rfl⟩
  · exact Or.inl rfl

/-- R110: where no parcel has a zone entry in the moment, a sample meets every one as it stands and draws nothing. -/
theorem State.meetParcels_still (s : State) (c : Nat) (f : Parcel → Parcel)
    (h : ∀ e ∈ s.parcel.parcels, e.2.views s.time.baseMs = []) : s.meetParcels c f = s.markParcels (s.track.reached c) f := by
  have hn : s.entriesMeet = false := by
    simp only [State.entriesMeet, List.any_eq_false, Bool.not_eq_true', decide_eq_false_iff_not, Classical.not_not]
    exact h
  have hm : (s.parcel.parcels.mapVals fun k p =>
        p.meet s.time.baseMs (Config.sampleOrder s.draws k) (s.track.reached c) f) =
      s.parcel.parcels.mapVals fun _ p => if s.track.reached c p then f p else p :=
    Table.mapVals_congr fun e he => Parcel.meet_still _ _ _ _ _ (h e he)
  simp only [State.meetParcels, hn, Bool.false_eq_true, if_false, State.markParcels, State.onParcel, hm]

/-- A sample at the parcels changes their records and the draw counter, nothing else. -/
theorem State.sampleParcels_frame (s : State) (c : Nat) (wasStale : Bool) (f : Parcel → Parcel) :
    s.sampleParcels c wasStale f =
      { s with parcel := { s.parcel with parcels := (s.sampleParcels c wasStale f).parcel.parcels }
               draws := (s.sampleParcels c wasStale f).draws } := by
  unfold State.sampleParcels State.meetParcels
  split
  · rfl
  · dsimp only
    split <;> rfl

/-- A sample at a channel changes its chain, the live parcels and the draw counter, nothing else. -/
theorem State.creditSample_frame (s : State) (c : Nat) (v : Int) (t : Nat) (wasStale : Bool) :
    s.creditSample c v t wasStale =
      { s with credit := { s.credit with chains := (s.creditSample c v t wasStale).credit.chains }
               parcel := { s.parcel with parcels := (s.creditSample c v t wasStale).parcel.parcels }
               draws := (s.creditSample c v t wasStale).draws } := by
  unfold State.creditSample
  dsimp only
  split <;> rw [State.sampleParcels_frame] <;> rfl

/-- R40: whatever the code, the tracks of a pulse are all taken, each once. -/
theorem permuteBy_perm (fuel code : Nat) (l : List Nat) : (permuteBy fuel code l).Perm l := by
  induction fuel generalizing code l with
  | zero =>
    match l with
    | [] | [_] | _ :: _ :: _ => exact .refl _
  | succ fuel ih =>
    match l with
    | [] | [_] => exact .refl _
    | a :: b :: l =>
      have hi : code % (a :: b :: l).length < (a :: b :: l).length := Nat.mod_lt _ (Nat.succ_pos _)
      rw [permuteBy, List.drop_eq_getElem_cons hi]
      · exact (List.Perm.append_left _ (ih _ _)).trans (List.getElem_cons_eraseIdx_perm hi)
      · exact fun h => nomatch h
      · exact fun _ h => nomatch h

/-! ### Line state -/

@[simp] theorem State.setLine_line (s : State) (state : LineState) (origin : Option LineState) (cause : Option HaltCause)
    (why : LineCause) (detail : CauseDetail) :
    (s.setLine state origin cause why detail).line = { s.line with state := state, origin := origin, cause := cause } := rfl

/-- R8: in SETUP, READY and HALTED a halt that is raised changes nothing. -/
theorem State.raiseHalt_rest (s : State) (cause : HaltCause) (h : s.line.state.runs = false) : s.raiseHalt cause = s := by
  simp [State.raiseHalt, h]

/-- R7, R8: the line record after a halt is entered. -/
@[simp] theorem State.enterHalted_line (s : State) (cause : HaltCause) :
    (s.enterHalted cause).line = { s.line with state := .halted, origin := some s.line.state, cause := some cause } := by
  unfold State.enterHalted
  dsimp only
  split <;> split <;> simp

/-- R5: a line that is not draining, or not empty, is left as it is. -/
theorem State.emptyTest_keep (s : State) (h : ¬(s.line.state = .draining ∧ s.lineEmpty = true)) : s.emptyTest = s := by
  simp only [State.emptyTest, if_neg h]

/-! ### Taking a request -/

/-- Without a waiting frame there is no oldest one. -/
theorem LinkUnit.oldest_none (u : LinkUnit) (h : u.receive = []) : u.oldest = none := by simp [LinkUnit.oldest, h]

/-- The oldest waiting frame comes after the replies made. -/
theorem LinkUnit.oldest_split (u : LinkUnit) (f : Frame) (h : u.oldest = some f) :
    ∃ (rs : List Reply) (rest : List Place), u.receive = rs.map Place.answered ++ .waiting f :: rest := by
  have key : ∀ l : List Place, ∀ f, (match l.find? fun p => match p with
      | .waiting _ => true
      | .answered _ => false with
    | some (.waiting f) => some f
    | _ => none) = some f → ∃ (rs : List Reply) (rest : List Place), l = rs.map Place.answered ++ .waiting f :: rest := by
    intro l
    induction l with
    | nil => intro f h; simp at h
    | cons p l ih =>
      intro f h
      cases p with
      | waiting g =>
        simp at h
        exact ⟨[], l, by simp [h]⟩
      | answered r =>
        obtain ⟨rs, rest, e⟩ := ih f (by simpa using h)
        exact ⟨r :: rs, rest, by simp [e]⟩
  exact key u.receive f h

/-- A reply takes the place of the oldest waiting frame, and of no other. -/
theorem answerOldest_split (r : Reply) (rs : List Reply) (f : Frame) (rest : List Place) :
    answerOldest r (rs.map Place.answered ++ .waiting f :: rest) = rs.map Place.answered ++ .answered r :: rest := by
  induction rs with
  | nil => rfl
  | cons q rs ih => simp [answerOldest, ih]

@[simp] theorem answerOldest_length (r : Reply) (l : List Place) : (answerOldest r l).length = l.length := by
  induction l with
  | nil => rfl
  | cons p l ih => cases p <;> simp [answerOldest, ih]

variable {α : Type}

theorem State.handOn_pin (s : State) (r : Request) (parse : List Byte → Option α) (owner : α → State → State × ReplyBody)
    (h : s.pin = true) : s.handOn r parse owner = s := by simp [State.handOn, h]

/-- R183: BAD_LENGTH comes first. -/
theorem State.handOn_badLength (s : State) (r : Request) (f : Frame) (parse : List Byte → Option α)
    (owner : α → State → State × ReplyBody) (h : AtHand s r f) (hp : parse f.payload = none) :
    s.handOn r parse owner = s.answer f (.status .badLength) := by
  obtain ⟨_, h1, h2, h3⟩ := h
  simp [State.handOn, h1, h2, h3, hp]

/-- R13: then the availability table. -/
theorem State.handOn_unavailable (s : State) (r : Request) (f : Frame) (parse : List Byte → Option α)
    (owner : α → State → State × ReplyBody) (h : AtHand s r f) (a : α) (hp : parse f.payload = some a) (st : Status)
    (hu : s.unavailable r = some st) : s.handOn r parse owner = s.answer f (.status st) := by
  obtain ⟨_, h1, h2, h3⟩ := h
  simp [State.handOn, h1, h2, h3, hp, hu]

/-- R183: then the owner. -/
theorem State.handOn_taken (s : State) (r : Request) (f : Frame) (parse : List Byte → Option α)
    (owner : α → State → State × ReplyBody) (h : Taken s r f) (a : α) (hp : parse f.payload = some a) :
    s.handOn r parse owner = (owner a s).1.answer f (owner a s).2 := by
  obtain ⟨⟨_, h1, h2, h3⟩, h4⟩ := h
  simp [State.handOn, h1, h2, h3, hp, h4]

/-- A request taken on a powered part: the owner acts, the reply is made, the command ends. -/
theorem State.act_handOn (s : State) (r : Request) (f : Frame) (parse : List Byte → Option α)
    (owner : α → State → State × ReplyBody) (h : Taken s r f) (a : α) (hp : parse f.payload = some a) :
    (s.act fun s => s.handOn r parse owner) = .next ((owner a s).1.replied f (owner a s).2) := by
  rw [State.act_powered _ _ h.1.1, State.handOn_taken s r f parse owner h a hp]
  rfl

/-- A powered part is powered after an answer. -/
theorem State.replied_eq (s : State) (f : Frame) (b : ReplyBody) : s.replied f b = (s.answer f b).finish := rfl

/-! ### Edges and expiries -/

theorem State.deliver_none (s : State) (i : FieldInput) (owner : Edge → State → State) (h : takeEdgeFrom i s.time.edges = none) :
    s.deliver i owner = s := by simp [State.deliver, h]

theorem State.deliver_some (s : State) (i : FieldInput) (owner : Edge → State → State) (e : Edge) (rest : List Edge)
    (h : takeEdgeFrom i s.time.edges = some (e, rest)) :
    s.deliver i owner = owner e (s.onTime fun u => { u with edges := rest }) := by simp [State.deliver, h]

theorem State.expire_none (s : State) (id : TimerId) (owner : State → State) (h : s.time.expired.contains id = false) :
    s.expire id owner = s := by simp only [State.expire, h]; rfl

theorem State.expire_some (s : State) (id : TimerId) (owner : State → State) (h : s.time.expired.contains id = true)
    (hp : s.pin = false) : s.expire id owner = owner (s.onTime fun u => { u with expired := u.expired.erase id }) := by
  simp only [State.expire, h, hp]; rfl

/-! ### The transmitter (R184) -/

theorem LinkUnit.choose_reply (u : LinkUnit) (r : Reply) (rest : List Place) (h : u.transmitter = .idle)
    (hr : u.receive = .answered r :: rest) : u.choose = { u with transmitter := .reply r, receive := rest } := by
  simp [LinkUnit.choose, h, hr]

theorem LinkUnit.choose_busy (u : LinkUnit) (h : u.transmitter ≠ .idle) : u.choose = u := by
  unfold LinkUnit.choose
  split
  · next h' => exact absurd h' h
  · rfl

/-- Choosing changes nothing but the transmitter and the place the reply leaves. -/
theorem LinkUnit.choose_frame (u : LinkUnit) :
    u.choose = { u with transmitter := u.choose.transmitter, receive := u.choose.receive, busy := u.choose.busy } := by
  unfold LinkUnit.choose
  split
  · split
    · rfl
    · split
      · rfl
      · split <;> rfl
  · rfl

end Sys2Proof.Machine
end

