-- ==== Sys2Proof/Laws/PerInstr.lean ====
section
/-! SUPPORT. Statements made for every command, one lemma per constructor. -/

namespace Sys2Proof.Laws.RequestKinds

/-- R188: a command that hands on a request names a kind of the table of requests, in 0x01..0x5F, and names no line or timer. -/
def Statement (i : Instr) : Prop :=
  ∀ r, Machine.requestOf i = some r →
    Machine.isRequestKind r.kind = true ∧ 0x01 ≤ r.kind ∧ r.kind ≤ 0x5F ∧ i.wellFormed = true

theorem start : Statement .start := by intro r h; cases h; decide
theorem stop : Statement .stop := by intro r h; cases h; decide
theorem halt : Statement .halt := by intro r h; cases h; decide
theorem resume : Statement .resume := by intro r h; cases h; decide
theorem clear : Statement .clear := by intro r h; cases h; decide
theorem resetLine : Statement .resetLine := by intro r h; cases h; decide
theorem statusRead : Statement .statusRead := by intro r h; cases h; decide
theorem timeRead : Statement .timeRead := by intro r h; cases h; decide
theorem timeSet : Statement .timeSet := by intro r h; cases h; decide
theorem timeTrim : Statement .timeTrim := by intro r h; cases h; decide
theorem trackDefine : Statement .trackDefine := by intro r h; cases h; decide
theorem zoneDefine : Statement .zoneDefine := by intro r h; cases h; decide
theorem trackRead : Statement .trackRead := by intro r h; cases h; decide
theorem dividerReset : Statement .dividerReset := by intro r h; cases h; decide
theorem noticeModeSet : Statement .noticeModeSet := by intro r h; cases h; decide
theorem infeedDeclare : Statement .infeedDeclare := by intro r h; cases h; decide
theorem parcelRead : Statement .parcelRead := by intro r h; cases h; decide
theorem lotRead : Statement .lotRead := by intro r h; cases h; decide
theorem holdRange : Statement .holdRange := by intro r h; cases h; decide
theorem clearHoldRange : Statement .clearHoldRange := by intro r h; cases h; decide
theorem channelSet : Statement .channelSet := by intro r h; cases h; decide
theorem offsetStep : Statement .offsetStep := by intro r h; cases h; decide
theorem levelsSet : Statement .levelsSet := by intro r h; cases h; decide
theorem routeSet : Statement .routeSet := by intro r h; cases h; decide
theorem externalTripSet : Statement .externalTripSet := by intro r h; cases h; decide
theorem samplingSet : Statement .samplingSet := by intro r h; cases h; decide
theorem tripAck : Statement .tripAck := by intro r h; cases h; decide
theorem channelRead : Statement .channelRead := by intro r h; cases h; decide
theorem rateTableSet : Statement .rateTableSet := by intro r h; cases h; decide
theorem recipeThermalSet : Statement .recipeThermalSet := by intro r h; cases h; decide
theorem recipePackingSet : Statement .recipePackingSet := by intro r h; cases h; decide
theorem classMapSet : Statement .classMapSet := by intro r h; cases h; decide
theorem deadTimeSet : Statement .deadTimeSet := by intro r h; cases h; decide
theorem laneOpen : Statement .laneOpen := by intro r h; cases h; decide
theorem laneClose : Statement .laneClose := by intro r h; cases h; decide
theorem bagRead : Statement .bagRead := by intro r h; cases h; decide
theorem bagWeight : Statement .bagWeight := by intro r h; cases h; decide
theorem palletClose : Statement .palletClose := by intro r h; cases h; decide
theorem palletRead : Statement .palletRead := by intro r h; cases h; decide
theorem shuttleReset : Statement .shuttleReset := by intro r h; cases h; decide
theorem jobLimitSet : Statement .jobLimitSet := by intro r h; cases h; decide
theorem proveStart : Statement .proveStart := by intro r h; cases h; decide
theorem proveAbort : Statement .proveAbort := by intro r h; cases h; decide
theorem provingRead : Statement .provingRead := by intro r h; cases h; decide
theorem commission : Statement .commission := by intro r h; cases h; decide
theorem unlock : Statement .unlock := by intro r h; cases h; decide
theorem storeSave : Statement .storeSave := by intro r h; cases h; decide
theorem unknownKind : Statement .unknownKind := by intro r h; cases h
theorem frameReceived (bytes : List Byte) : Statement (.frameReceived bytes) := by intro r h; cases h
theorem interByteGapTimeout : Statement .interByteGapTimeout := by intro r h; cases h
theorem frameSent : Statement .frameSent := by intro r h; cases h
theorem baseMillisecond (seen : List FieldInput) : Statement (.baseMillisecond seen) := by intro r h; cases h
theorem encoderPulse (input : Nat) (presence : Bool) : Statement (.encoderPulse input presence) := by intro r h; cases h
theorem pollRoundStart : Statement .pollRoundStart := by intro r h; cases h
theorem sampleFrame (bytes : List Byte) : Statement (.sampleFrame bytes) := by intro r h; cases h
theorem answerWindowClose : Statement .answerWindowClose := by intro r h; cases h
theorem externalTripEdge (input : Nat) : Statement (.externalTripEdge input) := by intro r h; cases h
theorem stallTimerExpiry (track : Nat) : Statement (.stallTimerExpiry track) := by intro r h; cases h
theorem drainTimerExpiry : Statement .drainTimerExpiry := by intro r h; cases h
theorem gateTimerExpiry : Statement .gateTimerExpiry := by intro r h; cases h
theorem exposureTimerExpiry (record : Nat) : Statement (.exposureTimerExpiry record) := by intro r h; cases h
theorem shuttleJobTimerExpiry : Statement .shuttleJobTimerExpiry := by intro r h; cases h
theorem acceptEdge : Statement .acceptEdge := by intro r h; cases h
theorem loadedEdge : Statement .loadedEdge := by intro r h; cases h
theorem doneEdge : Statement .doneEdge := by intro r h; cases h
theorem faultEdge : Statement .faultEdge := by intro r h; cases h
theorem doorEyeEdge : Statement .doorEyeEdge := by intro r h; cases h
theorem sealEdge (lane : Nat) : Statement (.sealEdge lane) := by intro r h; cases h
theorem readyEdge (lane : Nat) : Statement (.readyEdge lane) := by intro r h; cases h
theorem commissionKeyEdge : Statement .commissionKeyEdge := by intro r h; cases h
theorem saveEnd (ok : Bool) : Statement (.saveEnd ok) := by intro r h; cases h
theorem lineResetPinAssert : Statement .lineResetPinAssert := by intro r h; cases h
theorem lineResetPinRelease : Statement .lineResetPinRelease := by intro r h; cases h
theorem powerOn (seen : List FieldInput) (strap1 : Bool) (strap2 : Bool) : Statement (.powerOn seen strap1 strap2) := by intro r h; cases h
theorem powerLoss : Statement .powerLoss := by intro r h; cases h
theorem brokenCharacter : Statement .brokenCharacter := by intro r h; cases h

end Sys2Proof.Laws.RequestKinds
end

