-- ==== Sys2Proof/Laws/Predicates.lean ====
section
/-! SUPPORT. What the model's own checks decide: each Bool function of Flags.lean against the predicate Safety.lean states. -/

namespace Sys2Proof.Machine

theorem unlocking_iff (s : State) : s.store.unlocking = true ↔ UnlockInFlight s := by
  cases h : s.store.save with
  | none => simp [StoreUnit.unlocking, UnlockInFlight, h]
  | some v =>
    obtain ⟨kind, image⟩ := v
    simp [StoreUnit.unlocking, UnlockInFlight, h]

theorem commissioning_iff (s : State) : s.store.commissioning = true ↔ CommissionInFlight s := by
  cases h : s.store.save with
  | none => simp [StoreUnit.commissioning, CommissionInFlight, h]
  | some v =>
    obtain ⟨kind, image⟩ := v
    simp [StoreUnit.commissioning, CommissionInFlight, h]

theorem stopLatched_iff (s : State) : s.stopLatched = true ↔ StopLatched s := by
  simp [State.stopLatched, StopLatched]

theorem isLive_iff (u : ProbeUnit) (c : Nat) : u.isLive c = true ↔ ∃ ch, u.channels.get? c = some ch ∧ ch.state = .live := by
  cases h : u.channels.get? c <;> simp [ProbeUnit.isLive, h]

theorem probesLive_iff (s : State) : s.probesLive = true ↔ ProbesLive s := by
  rw [State.probesLive, Bool.and_eq_true, List.all_eq_true]
  refine and_congr (forall_congr' fun z => imp_congr_right fun _ => ?_) (by cases s.probe.exitChannel <;> simp)
  cases hz : z.channel with
  | none => simp
  | some c =>
    rw [Bool.or_eq_true, isLive_iff]
    by_cases hk : z.kind = .blanch <;> simp [hk]

theorem declared_iff (s : State) : s.parcel.declared = true ↔ Declared s := by
  cases hc : s.parcel.current <;> cases hs : s.parcel.staged <;> simp [ParcelUnit.declared, Declared, hc, hs]

/-! ### Zone entry (R44, R92, R106) -/

theorem mem_ofChannel_iff (c : Nat) (x : TripSource) : x ∈ TripSource.ofChannel c ↔ x.channel = some c := by
  cases x with
  | level k l => cases l <;> simp [TripSource.ofChannel, LevelName.all, TripSource.channel]
  | stale k => simp [TripSource.ofChannel, LevelName.all, TripSource.channel]
  | exposure => simp [TripSource.ofChannel, LevelName.all, TripSource.channel]
  | shuttleFault => simp [TripSource.ofChannel, LevelName.all, TripSource.channel]

theorem markHolds_iff (s : State) (c : Nat) : s.markHolds c = true ↔
    ∃ x, TripSource.channel x = some c ∧ s.condition x = true ∧ (s.route x).markZone = true := by
  simp [State.markHolds, mem_ofChannel_iff]

theorem isStale_iff (u : ProbeUnit) (c : Nat) : u.isStale c = true ↔ ∃ ch, u.channels.get? c = some ch ∧ ch.state = .stale := by
  cases h : u.channels.get? c <;> simp [ProbeUnit.isStale, h]

/-- R44, R106: the entry of a zone is what `EnteredZone` says. -/
theorem State.entering_entered (s : State) (z : ZoneInfo) (p : Parcel) : EnteredZone s z p (s.entering z s.time.lineTime p) := by
  unfold EnteredZone State.entering
  cases hz : z.channel with
  | none =>
    cases hk : z.kind <;> cases hf : p.freezerEntry <;>
      simp_all [Parcel.enterZone, Parcel.creditZone, Parcel.freezer, Parcel.remember, Parcel.views]
  | some c =>
    have hm := markHolds_iff s c
    have hs := isStale_iff s.probe c
    cases hk : z.kind <;> cases hf : p.freezerEntry <;>
      cases hM : s.markHolds c <;> cases hS : s.probe.isStale c <;>
      simp_all [Parcel.enterZone, Parcel.creditZone, Parcel.freezer, Parcel.remember, Parcel.views, Parcel.addGap, Parcel.addTrip]

end Sys2Proof.Machine
end

