-- ==== Sys2Proof/Tests/Slice0.lean ====
section
/-! SUPPORT. The model's own tests: ill-formed commands, figures the guide works out, one step of each command on a small state,
and, for every statement with hypotheses, states that meet them, each clause at a boundary of its range. -/

namespace Sys2Proof.Tests

-- Each test waits for the kernel; checked one after the other they need one thread and not one each.
set_option Elab.async false

open Sys2Proof.Machine

/-! ### Small states -/

/-- The state a command answers; the reset state where it stops. -/
def after (o : Outcome) : State :=
  match o with
  | .next t => t
  | _ => State.reset

/-- The command stops with the fault of a line that does not exist. -/
def faults (o : Outcome) : Bool :=
  match o with
  | .fault .noSuchLine => true
  | _ => false

/-- The reset state with the link at rest. -/
def base : State := { State.reset with link := .fresh 115200 }

/-- A request frame, tag 7. -/
def frame (r : Request) (bs : List Byte) : Frame := ⟨r.kind, 7, bs⟩

/-- `s` with one request waiting. -/
def ask (s : State) (r : Request) (bs : List Byte) : State :=
  { s with link := { s.link with receive := [.waiting (frame r bs)] } }

/-- The status a request on `s` is answered with, if its reply is a status alone. -/
def statusOf (c : Instr) (r : Request) (s : State) (bs : List Byte) : Option Status :=
  match (after (exec c (ask s r bs))).link.transmitter with
  | .reply ⟨_, _, .status st⟩ => some st
  | _ => none

def at_ (s : State) (l : LineState) : State := { s with line := { s.line with state := l } }

def halted (s : State) (origin : LineState) : State :=
  { s with line := { s.line with state := .halted, origin := some origin, cause := some .request } }

/-- A channel that has answered. -/
def liveChannel (n : Nat) (role : Role) (v : Int) : Channel :=
  { (ChannelSetting.factory n).load with enabled := true, role := role, state := .live, lastValue := some v, lastSample := some 5 }

def trackOf (zones : List Zone) : Track :=
  { segments := 16, pulses := 2, group := 0, stallLimit := 5000, mode := .off, staged := none, head := 3, counter := 0
    backedUp := false, stalled := false, zones := zones, queue := [] }

def code : List Byte := [0x50, 0x32, 0x34, 0x2D, 0x30, 0x31, 0x20, 0x20, 0x20, 0x20, 0x20, 0x20]

def lotOf (cls : Nat) : Lot := Lot.new code 1 cls false

/-- Five bands, as in chapter 6.8. -/
def bands : List Band := [⟨850, 180⟩, ⟨880, 450⟩, ⟨900, 1000⟩, ⟨920, 2150⟩, ⟨950, 4640⟩]

def peas : Recipe :=
  { requiredCredit := 2000, minDwell := 2100, maxExit := -180, exposureLimit := 900, bagMin := 100, bagMax := 200
    bagsPerPallet := 3 }

/-- Two tracks, three channels, one recipe: a line ready to be proved. -/
def plant : State :=
  { base with
    track := { tracks := [(1, trackOf [⟨8, .blanch, some 1⟩, ⟨8, .cool, none⟩]), (2, trackOf [⟨4, .plain, none⟩, ⟨12, .freeze, some 5⟩])]
               cells := [] }
    probe := { base.probe with
      channels := ((base.probe.channels.put 1 (liveChannel 1 .zone 913)).put 5 (liveChannel 5 .zone (-300))).put 9
        (liveChannel 9 .exit (-196)) }
    credit := { base.credit with rates := bands, recipes := base.credit.recipes.put 1 peas } }

/-- The plant with the lock LOCKED, in READY, with a lot current. -/
def ready : State :=
  { plant with
    line := { plant.line with state := .ready }
    comm := { plant.comm with locked := true, generation := 5 }
    parcel := { plant.parcel with lots := [(0, { lotOf 2 with created := 4, live := 1, released := 3 })], current := some 0 } }

/-- A live parcel of lot slot 0. -/
def parcelOf (q : Seq) (loc : Location) : Parcel :=
  { seq := q, slot := 0, recipe := 1, cls := 2, loc := loc, created := 0, freezerEntry := some 95000, credit := 2251, zone := none
    armed := false, deviation := ⟨false, false, false⟩, proving := false, movedAt := 0, past := [] }

/-- RUNNING, with a parcel on the last cell of track 1, and a class map that sends class 2 to lanes 1 and 2. -/
def running : State :=
  { ready with
    line := { ready.line with state := .running }
    parcel := { ready.parcel with parcels := [(0, parcelOf 452 (.track 1 15))], lastSeq := 452 }
    track := { ready.track with cells := [(4, 0)] }
    dist := { ready.dist with live := ready.dist.live.put 2 ⟨[1, 2], 3⟩
                              lanes := (ready.dist.lanes.put 1 ⟨.accepting, none, false, true⟩).put 2 ⟨.accepting, none, false, true⟩ } }

def bagOf (state : BagState) : Bag :=
  { number := 1, lane := 1, slot := 0, recipe := 1, state := state, parcels := 40, firstSeq := 400, lastSeq := 451, minCredit := 2100
    openTime := 10, sealTime := some 20, grams := none }

def palletOf (state : PalletState) : Pallet :=
  { number := 3, lane := 1, slot := 0, state := state, exposed := false, stranded := false, target := 3
    bags := [⟨7, 150, 41, 2200⟩], total := 150, exposureStart := 30, exposureDue := 900030, readyOrder := 0, doorTime := none }

/-- The running line with a bag and a pallet. -/
def packing (bag : BagState) (pallet : PalletState) : State :=
  { running with
    dist := { running.dist with bags := [(0, bagOf bag)] }
    transfer := { running.transfer with pallets := [(1, palletOf pallet)], lastPallet := 3 }
    time := { running.time with timers := [(0, 5000), (6, 900030)] }
    parcel := { running.parcel with
      lots := [(0, { lotOf 2 with created := 4, live := 1, released := 3, bagRefs := 1, palletRefs := 1 })] } }

/-- A shuttle in `state`, with the job of pallet 3 where the state has one. -/
def shuttling (s : State) (state : ShuttleState) (door : Bool) : State :=
  { s with
    transfer := { s.transfer with
      shuttle := { s.transfer.shuttle with
        state := state, job := if state = .assigned ∨ state = .carrying then some ⟨3, 1, 40, door⟩ else none
        jobValid := decide (state = .assigned) } }
    time := { s.time with timers := s.time.timers.put 14 180040 } }

/-- An edge waiting to be delivered. -/
def edge (s : State) (i : FieldInput) (rising : Bool) : State := { s with time := { s.time with edges := [⟨i, rising, 20⟩] } }

/-- An expiry waiting to be delivered. -/
def expired (s : State) (id : TimerId) : State := { s with time := { s.time with expired := [id] } }

def saving (s : State) (k : SaveKind) : State := { s with store := { s.store with save := some ⟨k, StoredSet.factory⟩ } }

/-- A proving run of recipe 1 with two parcels and margin 10. -/
def runOf (entries : List ProvingEntry) : ProvingRun :=
  { recipe := 1, count := 2, margin := 10, required := 2000, noted := 5, started := 0, ended := none, entries := entries }

def proving : State :=
  { plant with
    line := { plant.line with state := .proving }
    comm := { plant.comm with generation := 5, record := ⟨.running, some (runOf [])⟩ }
    parcel := { plant.parcel with lots := [(0, { lotOf 0 with proving := true })], current := some 0 } }

/-- A poll of channel 1 whose window has just opened. -/
def polling (s : State) : State :=
  { s with probe := { s.probe with exchange := some ⟨1, 1, s.time.baseMs, false, []⟩, remaining := [5] } }

/-- A pallet of two transfer parts. -/
def bigPallet (state : PalletState) : Pallet := { palletOf state with bags := (List.range 61).map fun k => ⟨k + 1, 150, 41, 2200⟩ }

/-- Both tracks in link group 1. -/
def grouped (s : State) : State := { s with track := { s.track with tracks := s.track.tracks.mapVals fun _ t => { t with group := 1 } } }

/-- Every pulse counter one short of a segment. -/
def primed (s : State) : State := { s with track := { s.track with tracks := s.track.tracks.mapVals fun _ t => { t with counter := 1 } } }

/-- A parcel alone on the line, on the last cell of the last track, one pulse before it leaves. -/
def leaving (s : State) (p : Parcel) : State :=
  primed { s with time := { s.time with lineTime := 2495000 }
                  parcel := { s.parcel with parcels := [(0, p)] }, track := { s.track with cells := [(20, 0)] } }

/-- The proving run one entry before its end, its last parcel about to leave under INDEX notices. -/
def lastProof : State :=
  let s := leaving { proving with comm := { proving.comm with record := ⟨.running, some { runOf [] with count := 1 }⟩ } }
    { parcelOf 0 (.track 2 15) with proving := true }
  { s with track := { s.track with tracks := s.track.tracks.modify 2 fun t => { t with staged := some .every } } }

def afterMs (s : State) (n : Nat) : State := { s with time := { s.time with baseMs := s.time.baseMs + n } }

/-- One pulse before an index of either track: parcels about to enter COOL (0), to stay in BLANCH (1) and to enter FREEZE (4), and
two in the queue of track 1, which is BACKED_UP; no parcel stands on a last cell. -/
def moving : State :=
  let s := primed { running with
    parcel := { running.parcel with
      parcels := [(0, parcelOf 452 (.track 1 7)), (1, parcelOf 453 (.track 1 3)), (2, parcelOf 454 (.queue 1 1)),
        (3, parcelOf 455 (.queue 1 2)), (4, { parcelOf 456 (.track 2 3) with freezerEntry := none })] }
    track := { running.track with cells := [] } }
  { s with track := { s.track with tracks := s.track.tracks.modify 1 fun t => { t with queue := [2, 3], backedUp := true } } }

/-- `s` with this notice mode live on track 1. -/
def inMode (s : State) (m : NoticeMode) : State :=
  { s with track := { s.track with tracks := s.track.tracks.modify 1 fun t => { t with mode := m } } }

/-- The running line with channel 1 one miss short of STALE and a parcel armed in its zone. -/
def failing : State :=
  let s := afterMs (polling running) 25
  { s with
    probe := { s.probe with channels := s.probe.channels.modify 1 fun ch => { ch with misses := 2 } }
    parcel := { s.parcel with parcels := [(0, { parcelOf 452 (.track 1 2) with zone := some 0, armed := true })] } }

/-- The running line with a second lot, not current, whose one parcel is its only reference. -/
def twoLots : State :=
  { running with
    parcel := { running.parcel with
      parcels := [(0, parcelOf 452 (.track 1 15)), (1, { parcelOf 451 (.track 2 4) with slot := 1 })]
      lots := running.parcel.lots.put 1 { lotOf 2 with code := code.reverse, created := 1, live := 1 } } }

/-- The running line with lanes 1 and 2, the bags and the run pointer of class 2 as given. -/
def laning (one two : Lane) (bags : Table Bag) (x : RunPointer) : State :=
  { running with
    dist := { running.dist with
      lanes := (running.dist.lanes.put 1 one).put 2 two, bags := bags, pointers := running.dist.pointers.put 2 x } }

/-- What the lane choice answers for the released parcel 452 on `s`. -/
def choice (s : State) : State × LaneResult :=
  s.distribute (parcelOf 452 (.track 2 15)) (running.verdict (parcelOf 452 (.track 2 15)) 2495000)

def withNotices (s : State) (n : Nat) : State :=
  { s with link := { s.link with notices := (List.range n).map fun k => ⟨k, .lost 0 0 1 k⟩ } }

/-- The sample frame of a transmitter. -/
def sampleOf (address : Byte) (t : Int) (st : Byte) : List Byte :=
  let body := address :: leSigned 2 t ++ [st]
  0xC3 :: body ++ [(crc body).setWidth 8, ((crc body) >>> 8).setWidth 8]

/-! ### Ill-formed commands -/

theorem test_illFormed_baseMillisecond : (Instr.baseMillisecond [.sealIn 5]).wellFormed = false ∧
    faults (exec (.baseMillisecond [.sealIn 5]) base) = true := by decide
theorem test_illFormed_encoderPulse : (Instr.encoderPulse 5 true).wellFormed = false ∧ (Instr.encoderPulse 0 true).wellFormed = false ∧
    faults (exec (.encoderPulse 5 true) base) = true := by decide
theorem test_illFormed_externalTripEdge : (Instr.externalTripEdge 3).wellFormed = false ∧
    (Instr.externalTripEdge 0).wellFormed = false ∧ faults (exec (.externalTripEdge 3) base) = true := by decide
theorem test_illFormed_stallTimerExpiry : (Instr.stallTimerExpiry 5).wellFormed = false ∧
    (Instr.stallTimerExpiry 0).wellFormed = false ∧ faults (exec (.stallTimerExpiry 5) base) = true := by decide
theorem test_illFormed_exposureTimerExpiry : (Instr.exposureTimerExpiry 9).wellFormed = false ∧
    (Instr.exposureTimerExpiry 0).wellFormed = false ∧ faults (exec (.exposureTimerExpiry 9) base) = true := by decide
theorem test_illFormed_sealEdge : (Instr.sealEdge 5).wellFormed = false ∧ (Instr.sealEdge 0).wellFormed = false ∧
    faults (exec (.sealEdge 5) base) = true := by decide
theorem test_illFormed_readyEdge : (Instr.readyEdge 5).wellFormed = false ∧ (Instr.readyEdge 0).wellFormed = false ∧
    faults (exec (.readyEdge 5) base) = true := by decide
theorem test_illFormed_powerOn : (Instr.powerOn [.externalTrip 3] false false).wellFormed = false ∧
    faults (exec (.powerOn [.externalTrip 3] false false) base) = true := by decide

/-! ### Figures the guide works out -/

/-- R180: the CRC of the nine bytes "123456789". -/
theorem test_crc : crc [0x31, 0x32, 0x33, 0x34, 0x35, 0x36, 0x37, 0x38, 0x39] = 0x29B1 := by decide +kernel
/-- Chapter 6.8: the weights of 91.3, 90.6, 89.4, 92.4 and 84.9 degrees. -/
theorem test_weights : [913, 906, 894, 924, 849].map (weightOf bands) = [1000, 1000, 450, 2150, 0] := by decide
/-- Chapter 6.8: the sample at 12,451 credits 1,105 and leaves a residue of 750. -/
theorem test_credit : (({ running with
      parcel := { running.parcel with parcels := [(0, { parcelOf 452 (.track 1 2) with zone := some 0, armed := true, credit := 1146 })] }
      credit := { running.credit with chains := running.credit.chains.put 1 ⟨some (924, 11937), 650⟩ } } : State).creditSample 1 921
        12451 false).parcel.parcels.map (fun e => e.2.credit) = [2251] := by decide +kernel
/-- Chapter 6.9: 0x01C4 is RELEASED, 0x0311 is short of credit, 0x0312 too warm. -/
theorem test_verdicts : (running.verdict (parcelOf 452 (.track 2 15)) 2495000).reasons.isHeld = false ∧
    (running.verdict { parcelOf 0x311 (.track 2 15) with credit := 1980 } 2495000).reasons =
      ⟨false, false, false, true, false, false, false⟩ := by decide +kernel
/-- R168: with required credit 2,000 and margin 10, a parcel at 2,251 passes and one at 2,190 does not. -/
theorem test_margin : [2251, 2200, 2199, 2190].map (fun c => entryPasses (runOf [])
      ⟨0, 0, ⟨false, false, false, true, false, false, false⟩, c, none, none, 0⟩) = [true, true, false, false] := by decide
/-- R22: at +500 ppm the 2,000th base millisecond after TIME TRIM steps line time by 2; at -500 ppm it steps it by 0. -/
theorem test_trim : [500, -500, 0].map (fun (r : Int) =>
      (after (exec (.baseMillisecond []) { base with time := { base.time with lineTime := 1999, trim := r, accumulator := 999500 } })).time.lineTime) =
    [2001, 1999, 2000] := by decide +kernel
/-- R180: the bytes of a frame: sync, length, kind, tag, payload, CRC low byte first. -/
theorem test_frameBytes : (frameBytes 0x12 7 [0xF4, 0x01]).take 7 = [0xA5, 2, 0, 0x12, 7, 0xF4, 0x01] := by decide

/-- R110: a sample meets a parcel that left zone 1 in the same moment in zone 1 where it comes first, else outside every zone. -/
theorem test_sampleMeetsEntry :
    (let p := { parcelOf 452 (.track 1 8) with zone := none, armed := false, credit := 100, past := [⟨some 0, true⟩] }
     [0, 1].map (fun i => (p.meetAt p.past i (fun q => q.zone = some 0) (Parcel.gain 50)).credit) = [150, 100] ∧
     (p.meetAt p.past 0 (fun q => q.zone = some 0) (Parcel.gain 50)).armed = false) := by decide

/-! ### Requests: one step each -/

theorem test_start : (after (exec .start (ask ready .start []))).line.state = .running ∧
    (after (exec .start (ask ready .start []))).pins.trackRun = [true, true, false, false] ∧
    (after (exec .start (ask ready .start []))).time.timers = [(0, 5000), (1, 5000)] := by decide +kernel
theorem test_stop : (after (exec .stop (ask running .stop [10, 0]))).line.state = .draining ∧
    (after (exec .stop (ask running .stop [10, 0]))).time.timers = [(4, 10000)] ∧
    (after (exec .stop (ask ready .stop []))).line.state = .ready := by decide +kernel
theorem test_halt : (after (exec .halt (ask running .halt []))).line.state = .halted ∧
    (after (exec .halt (ask running .halt []))).line.origin = some .running ∧
    (after (exec .halt (ask running .halt []))).pins.trackRun = [false, false, false, false] := by decide +kernel
theorem test_resume : (after (exec .resume (ask (halted running .running) .resume []))).line.state = .running ∧
    statusOf .resume .resume (halted plant .proving) [] = some .wrongState := by decide +kernel
theorem test_clear : (after (exec .clear (ask (halted running .running) .clear []))).line.state = .ready ∧
    (after (exec .clear (ask (halted running .running) .clear []))).parcel.parcels = [] ∧
    (after (exec .clear (ask (halted running .running) .clear []))).parcel.lots.map (fun e => e.2.lost) = [1] := by decide +kernel
theorem test_resetLine : (after (exec .resetLine (ask ready .resetLine []))).parcel.lots = [] ∧
    (after (exec .resetLine (ask ready .resetLine []))).line.state = .ready ∧
    (after (exec .resetLine (ask ready .resetLine []))).credit.rates = bands := by decide +kernel
theorem test_statusRead : (after (exec .statusRead { ask ready .statusRead [] with link := { (ask ready .statusRead []).link with overrun := true } })).link.overrun =
    false := by decide +kernel
theorem test_timeRead : (match (after (exec .timeRead (ask running .timeRead []))).link.transmitter with
    | .reply ⟨0x90, 7, .timeRead r⟩ => r.timers.length
    | _ => 0) = 15 := by decide +kernel
theorem test_timeSet : (after (exec .timeSet (ask ready .timeSet [0xFF, 0xFF, 0xFF, 0xFF, 0xFF, 0x7F]))).time.lineTime = 140737488355327 ∧
    statusOf .timeSet .timeSet ready [0, 0, 0, 0, 0, 0x80] = some .badValue := by decide +kernel
theorem test_timeTrim : (after (exec .timeTrim (ask base .timeTrim [0x0C, 0xFE]))).time.trim = -500 ∧
    statusOf .timeTrim .timeTrim base [0x0B, 0xFE] = some .badValue := by decide +kernel
theorem test_trackDefine : (after (exec .trackDefine (ask plant .trackDefine [3, 16, 0, 1, 0, 2, 100, 0, 2]))).track.tracks.map (fun e => e.1) =
      [1, 2, 3] ∧ statusOf .trackDefine .trackDefine plant [4, 16, 0, 1, 0, 2, 100, 0, 2] = some .badValue := by decide +kernel
theorem test_zoneDefine : ((after (exec .zoneDefine (ask plant .zoneDefine [1, 1, 16, 0, 3, 0, 0]))).track.tracks.get? 1).map
      (fun t => t.zones) = some [⟨16, .plain, none⟩] ∧
    ((after (exec .zoneDefine (ask plant .zoneDefine [1, 1, 16, 0, 3, 0, 5]))).track.tracks.get? 1).map (fun t => t.zones) =
      some [⟨16, .plain, none⟩] ∧
    statusOf .zoneDefine .zoneDefine plant [1, 1, 15, 0, 3, 0, 0] = some .badValue := by decide +kernel
theorem test_trackRead : (match (after (exec .trackRead (ask running .trackRead [1, 14, 0, 2, 0]))).link.transmitter with
    | .reply ⟨_, _, .trackRead r⟩ => r.positions
    | _ => []) = [none, some 452] := by decide +kernel
theorem test_dividerReset : (after (exec .dividerReset (ask (halted { running with track := { running.track with
      tracks := running.track.tracks.mapVals fun _ t => { t with counter := 1 } } } .running) .dividerReset [0]))).track.tracks.map
        (fun e => e.2.counter) = [0, 0] ∧ statusOf .dividerReset .dividerReset ready [1] = some .notFound := by decide +kernel
theorem test_noticeModeSet : ((after (exec .noticeModeSet (ask running .noticeModeSet [2, 1, 0]))).track.tracks.get? 2).map
      (fun t => t.staged) = some (some .every) ∧
    (after (exec .noticeModeSet (ask running .noticeModeSet [2, 1, 0]))).credit.outfeedNotices = true := by decide +kernel
theorem test_infeedDeclare : (after (exec .infeedDeclare (ask ready .infeedDeclare (code ++ [1, 2])))).parcel.staged =
      some ⟨code, 1, 2, false⟩ ∧ statusOf .infeedDeclare .infeedDeclare ready (code ++ [1, 3]) = some .badValue := by decide +kernel
theorem test_parcelRead : (match (after (exec .parcelRead (ask running .parcelRead [0xC4, 0x01]))).link.transmitter with
    | .reply ⟨_, _, .parcelRead r⟩ => (r.index, r.code, r.parcel.credit)
    | _ => (9, [], 0)) = (0, code, 2251) := by decide +kernel
theorem test_lotRead : (match (after (exec .lotRead (ask running .lotRead [0]))).link.transmitter with
    | .reply ⟨_, _, .lotRead r⟩ => r.state
    | _ => .free) = .active ∧ statusOf .lotRead .lotRead running [16] = some .badValue := by decide +kernel
theorem test_holdRange : (after (exec .holdRange (ask running .holdRange [0xFF, 0xFF, 0xC4, 0x01]))).parcel.parcels.map
    (fun e => e.2.deviation.manual) = [true] := by decide +kernel
theorem test_clearHoldRange : (after (exec .clearHoldRange (ask { running with parcel := { running.parcel with
      parcels := [(0, { parcelOf 452 (.track 1 15) with deviation := ⟨true, false, true⟩ })] } } .clearHoldRange [0xC4, 0x01, 0xC4, 0x01]))).parcel.parcels.map
    (fun e => e.2.deviation) = [⟨true, false, false⟩] := by decide +kernel
theorem test_channelSet : ((after (exec .channelSet (ask plant .channelSet [1, 16, 1, 0]))).probe.channels.get? 1).map
      (fun c => (c.address, c.state)) = some (16, .waiting) ∧
    statusOf .channelSet .channelSet plant [2, 5, 1, 0] = some .badValue := by decide +kernel
theorem test_offsetStep : ((after (exec .offsetStep (ask plant .offsetStep [1, 0xFF]))).probe.channels.get? 1).map (fun c => c.offset) =
    some (-1) := by decide +kernel
theorem test_levelsSet : ((after (exec .levelsSet (ask plant .levelsSet [1, 0x52, 3, 0x84, 3, 0xB6, 3, 0xDC, 5, 100]))).probe.channels.get? 1).map
    (fun c => (c.levels, c.hysteresis)) = some (⟨850, 900, 950, 1500⟩, 100) := by decide +kernel
theorem test_routeSet : (after (exec .routeSet (ask plant .routeSet [1, 2, 15]))).route (.level 1 .high) = ⟨true, true, true, true⟩ ∧
    statusOf .routeSet .routeSet plant [0, 0, 2] = some .badValue := by decide +kernel
theorem test_externalTripSet : ((after (exec .externalTripSet (ask plant .externalTripSet [2, 1, 1, 1]))).probe.external.get? 2).map
    (fun x => x.binding) = some (some (1, .highCrit)) := by decide +kernel
theorem test_samplingSet : (after (exec .samplingSet (ask plant .samplingSet [200, 0]))).probe.period = 200 ∧
    statusOf .samplingSet .samplingSet plant [250, 0] = some .badValue := by decide +kernel
theorem test_tripAck : (after (exec .tripAck (ask { plant with probe := { plant.probe with exposure := ⟨true, .empty⟩ } } .tripAck
    [0, 0]))).probe.exposure.latch = false := by decide +kernel
theorem test_channelRead : (match (after (exec .channelRead (ask plant .channelRead [5]))).link.transmitter with
    | .reply ⟨_, _, .channelRead r⟩ => (r.channel.lastValue, r.zones)
    | _ => (none, [])) = (some (-300), [3]) := by decide +kernel
theorem test_rateTableSet : (after (exec .rateTableSet (ask plant .rateTableSet [1, 0x52, 3, 180, 0]))).credit.rates = [⟨850, 180⟩] ∧
    statusOf .rateTableSet .rateTableSet plant [0] = some .badValue := by decide +kernel
theorem test_recipeThermalSet : ((after (exec .recipeThermalSet (ask plant .recipeThermalSet
      [15, 0xD0, 7, 0, 0x34, 8, 0x4C, 0xFF, 60, 0]))).credit.recipes.get? 15).map (fun r => (r.requiredCredit, r.minDwell, r.maxExit)) =
    some (2000, 2100, -180) := by decide +kernel
theorem test_recipePackingSet : ((after (exec .recipePackingSet (ask ready .recipePackingSet [1, 100, 0, 100, 0, 120]))).credit.recipes.get? 1).map
    (fun r => (r.bagMin, r.bagMax, r.bagsPerPallet)) = some (100, 100, 120) := by decide +kernel
theorem test_classMapSet : ((after (exec .classMapSet (ask ready .classMapSet [7, 0, 1, 3, 2, 15, 16, 0, 1, 0, 1, 0, 1, 0, 1]))).dist.staged.bind
    fun m => m.get? 3) = some ⟨[1, 2, 3, 4], 16⟩ := by decide +kernel
theorem test_deadTimeSet : (after (exec .deadTimeSet (ask ready .deadTimeSet [0xD0, 7]))).dist.deadTime = 2000 ∧
    statusOf .deadTimeSet .deadTimeSet ready [0xD1, 7] = some .badValue := by decide +kernel
theorem test_laneOpen : ((after (exec .laneOpen (ask ready .laneOpen [4]))).dist.lanes.get? 4).map (fun l => l.state) = some .pending ∧
    statusOf .laneOpen .laneOpen ready [5] = some .badValue := by decide +kernel
theorem test_laneClose : ((after (exec .laneClose (ask running .laneClose [1]))).dist.lanes.get? 1).map (fun l => l.state) = some .closed := by
  decide +kernel
theorem test_bagRead : (match (after (exec .bagRead (ask (packing .opened .building) .bagRead [1, 0, 0]))).link.transmitter with
    | .reply ⟨_, _, .bagRead k b⟩ => (k, b.parcels)
    | _ => (9, 0)) = (0, 40) := by decide +kernel
theorem test_bagWeight : (after (exec .bagWeight (ask (packing .sealed .building) .bagWeight [1, 0, 0, 150, 0]))).transfer.pallets.map
      (fun e => (e.2.total, e.2.exposureDue)) = [(300, 900020)] ∧
    (after (exec .bagWeight (ask (packing .sealed .building) .bagWeight [1, 0, 0, 99, 0]))).dist.bags = [] := by decide +kernel
theorem test_palletClose : (after (exec .palletClose (ask (packing .opened .building) .palletClose [3, 0]))).transfer.shuttle.job =
    some ⟨3, 1, 0, false⟩ := by decide +kernel
theorem test_palletRead : (match (after (exec .palletRead (ask (packing .opened .building) .palletRead [3, 0]))).link.transmitter with
    | .reply ⟨_, _, .palletRead r⟩ => (r.record, r.bagCount)
    | _ => (0, 0)) = (1, 1) := by decide +kernel
theorem test_shuttleReset : (after (exec .shuttleReset (ask (shuttling running .faulted false) .shuttleReset []))).transfer.shuttle.state =
    .idle := by decide +kernel
theorem test_jobLimitSet : (after (exec .jobLimitSet (ask base .jobLimitSet [0x58, 2]))).transfer.jobLimit = 600 ∧
    statusOf .jobLimitSet .jobLimitSet base [9, 0] = some .badValue := by decide +kernel
theorem test_proveStart : (after (exec .proveStart (ask plant .proveStart [1, 2, 10]))).line.state = .proving ∧
    (after (exec .proveStart (ask plant .proveStart [1, 2, 10]))).comm.record.result = .running ∧
    statusOf .proveStart .proveStart base [1, 2, 10] = some .incomplete := by decide +kernel
theorem test_proveAbort : (after (exec .proveAbort (ask proving .proveAbort []))).line.state = .halted ∧
    (after (exec .proveAbort (ask proving .proveAbort []))).comm.record.result = .aborted := by decide +kernel
theorem test_provingRead : (match (after (exec .provingRead (ask proving .provingRead []))).link.transmitter with
    | .reply ⟨_, _, .provingRead r⟩ => r.record.result
    | _ => .none) = .running := by decide +kernel
theorem test_commission : statusOf .commission .commission plant [] = some .notProven ∧
    (after (exec .commission (ask { plant with comm := { plant.comm with key := true, record := ⟨.pass, some { runOf [] with noted := 0 }⟩ } }
      .commission []))).store.save.map (fun v => (v.kind, v.image.locked)) = some (.commission, true) := by decide +kernel
theorem test_unlock : statusOf .unlock .unlock ready [] = some .keyAbsent ∧
    (after (exec .unlock (ask { ready with comm := { ready.comm with key := true } } .unlock []))).store.save.map
      (fun v => (v.kind, v.image.locked)) = some (.unlock, false) := by decide +kernel
theorem test_storeSave : (after (exec .storeSave (ask running .storeSave []))).store.save.map (fun v => (v.kind, v.image.rates.length)) =
    some (.store, 5) := by decide +kernel
theorem test_unknownKind : (after (exec .unknownKind { base with link := { base.link with receive := [.waiting ⟨0x60, 9, []⟩] } })).link.transmitter =
    .reply ⟨0x80, 9, .status .unknownKind⟩ := by decide +kernel

/-! ### Events: one step each -/

theorem test_frameReceived : (after (exec (.frameReceived (0x00 :: frameBytes 0x12 7 [0xF4, 0x01])) base)).link.receive =
    [.waiting (frame .timeTrim [0xF4, 0x01])] := by decide +kernel
theorem test_interByteGapTimeout : (after (exec .interByteGapTimeout (afterMs { base with link := { base.link with receiver := some [2] } } 11))).link.receiver =
      none ∧ (after (exec .interByteGapTimeout (afterMs { base with link := { base.link with receiver := some [2] } } 10))).link.receiver =
      some [2] := by decide +kernel
theorem test_frameSent : (after (exec .frameSent State.reset)).link.transmitter = .idle ∧
    (after (exec .frameSent State.reset)).link.notices = [] := by decide +kernel
theorem test_baseMillisecond : (after (exec (.baseMillisecond []) running)).time.lineTime = 1 ∧
    (after (exec (.baseMillisecond []) { running with time := { running.time with timers := [(4, 1), (5, 2)] } })).time.expired =
      [.drain] := by decide +kernel
theorem test_encoderPulse : (after (exec (.encoderPulse 1 true) running)).track.tracks.map (fun e => e.2.counter) = [1, 0] ∧
    (after (exec (.encoderPulse 1 true) (after (exec (.encoderPulse 1 true) running)))).track.tracks.map (fun e => (e.2.head, e.2.queue)) =
      [(4, [0]), (3, [])] := by decide +kernel
/-- R43, R68, R119: the parcel that leaves the last track RELEASED is diverted to lane 1 and taken into its lot's account. -/
theorem test_outfeed : (let t := after (exec (.encoderPulse 2 false) (leaving running (parcelOf 452 (.track 2 15))))
    (t.parcel.parcels, t.parcel.lots.map (fun e => (e.2.live, e.2.released)), t.dist.openGate) = ([], [(0, 4)], some 1)) := by
  decide +kernel
/-- R169: the run is complete at the end of the index: its notices follow INDEX. -/
theorem test_provingEnds : (after (exec (.encoderPulse 2 false) lastProof)).line.state = .setup ∧
    ((after (exec (.encoderPulse 2 false) lastProof)).link.notices.map fun n => match n.body with
      | .index .. => 1
      | .provingResult _ => 2
      | .lineState .. => 3
      | _ => 0) = [1, 2, 3] := by decide +kernel
theorem test_pollRoundStart : (after (exec .pollRoundStart (afterMs plant 1))).probe.exchange = some ⟨1, 1, 1, false, []⟩ ∧
    (after (exec .pollRoundStart (afterMs plant 1))).probe.remaining = [5, 9] := by decide +kernel
theorem test_sampleFrame : ((after (exec (.sampleFrame (sampleOf 1 921 0)) (polling running))).probe.channels.get? 1).map
    (fun c => (c.lastValue, c.misses)) = some (some 921, 0) := by decide +kernel
theorem test_answerWindowClose : ((after (exec .answerWindowClose (afterMs (polling running) 25))).probe.channels.get? 1).map
    (fun c => (c.misses, c.lastMiss)) = some (1, some .noAnswer) := by decide +kernel
theorem test_externalTripEdge : ((after (exec (.externalTripEdge 2) (edge { plant with probe := { plant.probe with
      external := plant.probe.external.put 2 ⟨some (1, .high), false⟩ } } (.externalTrip 2) true))).latch (.level 1 .high)) = true := by
  decide +kernel
theorem test_stallTimerExpiry : (after (exec (.stallTimerExpiry 2) (expired running (.stall 2)))).line.cause = some (.stall 2) := by
  decide +kernel
theorem test_drainTimerExpiry : (after (exec .drainTimerExpiry (expired (at_ running .draining) .drain))).line.cause = some .drainTimeout := by
  decide +kernel
theorem test_gateTimerExpiry : (after (exec .gateTimerExpiry (expired { running with dist := { running.dist with pendingGate := some 2 } }
    .gate))).pins.gates = [false, true, false, false] := by decide +kernel
theorem test_exposureTimerExpiry : (after (exec (.exposureTimerExpiry 1) (expired (packing .opened .loaded) (.exposure 1)))).transfer.pallets.map
    (fun e => (e.2.state, e.2.exposed)) = [(.loaded, true)] := by decide +kernel
theorem test_shuttleJobTimerExpiry : (after (exec .shuttleJobTimerExpiry (expired (shuttling (packing .opened .loaded) .carrying false)
      .shuttleJob))).transfer.shuttle.stranded = some 3 := by decide +kernel
theorem test_acceptEdge : (after (exec .acceptEdge (edge (shuttling (packing .opened .granted) .assigned false) .acceptIn true))).pins.jobValid =
    false := by decide +kernel
theorem test_loadedEdge : (after (exec .loadedEdge (edge (shuttling (packing .opened .granted) .assigned false) .loadedIn true))).transfer.shuttle.state =
    .carrying := by decide +kernel
theorem test_doneEdge : (after (exec .doneEdge (edge (shuttling running .carrying true) .doneIn true))).transfer.shuttle.state = .idle := by
  decide +kernel
theorem test_faultEdge : (after (exec .faultEdge (edge running .faultIn true))).transfer.shuttle.state = .faulted ∧
    (after (exec .faultEdge (edge running .faultIn true))).latch .shuttleFault = true := by decide +kernel
theorem test_doorEyeEdge : (after (exec .doorEyeEdge (edge (shuttling (packing .opened .loaded) .carrying false) .doorEye true))).transfer.pallets =
      [] ∧ (after (exec .doorEyeEdge (edge (shuttling (packing .opened .loaded) .carrying false) .doorEye true))).parcel.lots.map
      (fun e => e.2.palletsStored) = [1] := by decide +kernel
theorem test_sealEdge : (after (exec (.sealEdge 1) (edge { packing .opened .building with dist := { (packing .opened .building).dist with
      lanes := (packing .opened .building).dist.lanes.put 1 ⟨.sealing, some 1, true, true⟩ } } (.sealIn 1) true))).dist.bags.map
      (fun e => (e.2.state, e.2.sealTime)) = [(.sealed, some 20)] := by decide +kernel
theorem test_readyEdge : ((after (exec (.readyEdge 1) (edge running (.readyIn 1) false))).dist.lanes.get? 1).map (fun l => l.state) =
    some .pending := by decide +kernel
theorem test_commissionKeyEdge : (after (exec .commissionKeyEdge (edge plant .commissionKey true))).comm.key = true := by decide +kernel
theorem test_saveEnd : (after (exec (.saveEnd true) (saving plant .commission))).line.state = .ready ∧
    (after (exec (.saveEnd false) (saving ready .unlock))).comm.locked = true ∧
    (after (exec (.saveEnd false) (saving ready .unlock))).store.image = none := by decide +kernel
theorem test_lineResetPinAssert : (after (exec .lineResetPinAssert proving)).comm.record.result = .aborted ∧
    (after (exec .lineResetPinAssert proving)).line.state = .proving := by decide +kernel
theorem test_lineResetPinRelease : (after (exec .lineResetPinRelease { running with pin := true })).line.state = .ready ∧
    (after (exec .lineResetPinRelease { running with pin := true })).parcel.parcels = [] := by decide +kernel
theorem test_powerOn : after (exec (.powerOn [] false false) base) = State.reset ∧
    (after (exec (.powerOn [] true true) { base with store := ⟨some { StoredSet.factory with locked := true }, none, none⟩ })).line.state =
      .ready := by decide +kernel
theorem test_powerLoss : (after (exec .powerLoss (saving ready .store))).powered = false ∧
    (after (exec .powerLoss (saving { ready with store := ⟨some StoredSet.factory, none, none⟩ } .store))).store.image = none := by
  decide +kernel
theorem test_brokenCharacter : (after (exec .brokenCharacter { base with link := { base.link with receiver := some [2, 0] } })).link.receiver =
    none := by decide +kernel

/-! ### Witnesses: states that meet the hypotheses of the statements, clause by clause -/

/-- The frame of request `r` is at hand in `ask s r bs` on a powered part with the pin released. -/
theorem test_witness_atHand : AtHand (ask base .timeTrim [0, 0]) .timeTrim (frame .timeTrim [0, 0]) ∧
    Taken (ask plant .trackDefine [1]) .trackDefine (frame .trackDefine [1]) ∧
    ¬AtHand base .timeTrim (frame .timeTrim []) := by decide +kernel

theorem test_witness_StepTakesFrontCommand : ({ base with pending := [.start, .stop] } : State).pending = .start :: [.stop] ∧
    base.pending = [] := by decide
theorem test_witness_CommandsCompleteOrFault : (Instr.sealEdge 1).wellFormed = true ∧ (Instr.sealEdge 4).wellFormed = true ∧
    (Instr.sealEdge 0).wellFormed = false ∧ (Instr.sealEdge 5).wellFormed = false ∧ ({ base with powered := false } : State).powered = false ∧
    ∀ seen a b, Instr.start ≠ .powerOn seen a b := by
  refine ⟨by decide, by decide, by decide, by decide, rfl, ?_⟩
  intro seen a b h
  cases h
theorem test_witness_RequestChecksComeFirst :
    (requestOf .timeTrim = some .timeTrim ∧ AtHand (ask base .timeTrim [1]) .timeTrim (frame .timeTrim [1]) ∧
      payloadFits .timeTrim [1] = false ∧ payloadFits .timeTrim [1, 2] = true ∧ payloadFits .timeTrim [1, 2, 3] = false) ∧
    base.powered = true ∧ (∀ f, ¬AtHand base .timeTrim f) ∧
    (({ base with link := { base.link with receive := [.waiting ⟨0x60, 9, []⟩] } } : State).link.oldest = some ⟨0x60, 9, []⟩ ∧
      ∀ r : Request, r.kind ≠ 0x60) := by
  refine ⟨by decide +kernel, rfl, ?_, rfl, ?_⟩
  · intro f h
    exact absurd h.2.2.1 (by simp [base, LinkUnit.fresh, LinkUnit.oldest])
  · intro r
    cases r <;> decide
theorem test_witness_AvailabilityTable :
    (requestOf .start = some .start ∧ AtHand (ask plant .start []) .start (frame .start []) ∧ payloadFits .start [] = true ∧
      (ask plant .start []).line.state ∉ admittedIn .start ∧ lockedRow .start = false) ∧
    (AtHand (ask ready .zoneDefine [1, 0]) .zoneDefine (frame .zoneDefine [1, 0]) ∧ payloadFits .zoneDefine [1, 0] = true ∧
      ready.line.state ∉ admittedIn .zoneDefine ∧ lockedRow .zoneDefine = true ∧ ready.comm.locked = true) ∧
    (proving.line.state ∉ admittedIn .zoneDefine ∧ proving.comm.locked = false) := by decide +kernel
theorem test_witness_ReplyTakesTheRequestsPlace :
    (ask base .start []).link.receive = ([] : List Reply).map Place.answered ++ .waiting (frame .start []) :: [] ∧
    base.link.transmitter = .idle ∧ (ask State.reset .start []).link.transmitter ≠ .idle ∧
    ({ base with link := { base.link with receive := [.answered ⟨0x81, 7, .status .ok⟩, .waiting (frame .start [])] } } : State).link.receive =
      [⟨0x81, 7, .status .ok⟩].map Place.answered ++ .waiting (frame .start []) :: [] := by decide +kernel
theorem test_witness_FrameSentChoosesNext :
    (∀ p ∈ (ask base .start []).link.receive, ∃ f, p = .waiting f) ∧
    ({ base with link := { base.link with receive := [.answered ⟨0x81, 7, .status .ok⟩], transmitter := .reply ⟨0x81, 6, .status .ok⟩ } } :
      State).link.receive = .answered ⟨0x81, 7, .status .ok⟩ :: [] ∧
    (State.reset.link.transmitter = .notice powerOnNotice true ∧ State.reset.link.notices = powerOnNotice :: [] ∧
      State.reset.link.waiting = [] ∧ State.reset.link.receive = [] ∧ State.reset.link.busy = []) ∧
    (let s : State := { State.reset with link := { State.reset.link with waiting := [.lotSummary 15] }
                                         parcel := { State.reset.parcel with lots := [(15, lotOf 2)] } }
     s.link.waiting = .lotSummary 15 :: [] ∧ s.parcel.lots.get? 15 = some (lotOf 2)) ∧
    ({ base with link := { base.link with transmitter := .notice powerOnNotice false } } : State).link.transmitter =
      .notice powerOnNotice false ∧
    (let s : State := { State.reset with link := { State.reset.link with receive := [.answered ⟨0x81, 7, .status .ok⟩] } }
     s.link.transmitter = .notice powerOnNotice true ∧ s.link.notices = powerOnNotice :: [] ∧ s.link.waiting = [] ∧
      s.link.receive = .answered ⟨0x81, 7, .status .ok⟩ :: []) ∧
    ({ State.reset with link := { State.reset.link with busy := [⟨0x81, 7, .status .busy⟩] } } : State).link.busy =
      ⟨0x81, 7, .status .busy⟩ :: [] ∧
    (let s : State := { State.reset with link := { State.reset.link with waiting := [.palletPart 8 2] }
                                         transfer := { State.reset.transfer with pallets := [(8, bigPallet .stored)] } }
     s.link.waiting = .palletPart 8 2 :: [] ∧ s.transfer.pallets.get? 8 = some (bigPallet .stored) ∧
      60 < (bigPallet .stored).bags.length ∧ s.transfer.waiting = []) := by
  refine ⟨?_, by decide +kernel, by decide +kernel, by decide +kernel, by decide +kernel, by decide +kernel, by decide +kernel,
    by decide +kernel⟩
  intro p h
  exact ⟨frame .start [], by simpa [ask] using h⟩
theorem test_witness_FrameRoundTrip : base.link.receiver = none ∧ base.powered = true ∧ (List.replicate 1000 (0 : Byte)).length ≤ 1000 ∧
    ([] : List Byte).length ≤ 1000 := by
  refine ⟨rfl, rfl, ?_, by decide⟩
  rw [List.length_replicate]
theorem test_witness_FramesAreDiscarded :
    (let s : State := afterMs { base with link := { base.link with receiver := some [2] } } 11
     s.link.receiver = some [2] ∧ s.link.lastByte + 10 < s.time.baseMs) ∧
    (let s : State := afterMs { base with link := { base.link with receiver := some ([0, 0, 7, 7] ++ [0]) } } 10
     s.link.receiver = some ([0, 0, 7, 7] ++ [0]) ∧ s.time.baseMs ≤ s.link.lastByte + 10 ∧ leNat (([0, 0, 7, 7] : List Byte).take 2) ≤ 1000 ∧
      ([0, 0, 7, 7] : List Byte).length = 4 + leNat (([0, 0, 7, 7] : List Byte).take 2) ∧ crc [0, 0, 7, 7] ≤ 0xFFFF ∧
      crc [0, 0, 7, 7] ≠ (0 : Byte) ++ (0 : Byte)) ∧
    leNat [0xE8, 3] = 1000 ∧ 1000 < leNat [0xE9, 3] := by decide +kernel
theorem test_witness_OrdinaryNoticeRule : (withNotices base 31).link.notices.length < 32 ∧ base.link.waiting = [] ∧
    ¬(withNotices base 32).link.notices.length < 32 ∧ AtHand (ask base .statusRead []) .statusRead (frame .statusRead []) := by decide +kernel

/-! #### The line controller -/

theorem test_witness_StartRunsTheLine :
    AtHand (ask ready .start []) .start (frame .start []) ∧ ready.line.state = .ready ∧ running.line.state ≠ .ready ∧
    UnlockInFlight (saving ready .unlock) ∧ ¬UnlockInFlight ready ∧
    StopLatched { ready with probe := { ready.probe with exposure := ⟨true, ⟨false, false, false, true⟩⟩ } } ∧ ¬StopLatched ready ∧
    ProbesLive ready ∧ ¬ProbesLive base ∧ Declared ready ∧ ¬Declared base ∧ TracksInOrder ready ∧ Room (withNotices ready 31) 1 := by
  refine ⟨by decide +kernel, rfl, by decide, ⟨_, rfl⟩, ?_, ?_, ?_, ?_, ?_, by decide +kernel, by decide +kernel, ?_, by decide +kernel⟩
  · exact mt (unlocking_iff _).2 (by decide +kernel)
  · exact (stopLatched_iff _).1 (by decide +kernel)
  · exact mt (stopLatched_iff _).2 (by decide +kernel)
  · exact (probesLive_iff _).1 (by decide +kernel)
  · exact mt (probesLive_iff _).2 (by decide +kernel)
  · refine ⟨?_, ?_, ?_⟩ <;> decide +kernel
theorem test_witness_StopDrainsTheLine :
    AtHand (ask running .stop []) .stop (frame .stop []) ∧ AtHand (ask running .stop [9, 0]) .stop (frame .stop [9, 0]) ∧
    ¬(10 ≤ leNat [9, 0] ∧ leNat [9, 0] ≤ 3600) ∧ ¬(10 ≤ leNat [0x11, 0x0E] ∧ leNat [0x11, 0x0E] ≤ 3600) ∧
    (10 ≤ leNat [10, 0] ∧ leNat [0x10, 0x0E] = 3600) ∧ running.lineEmpty = false ∧ (at_ ready .running).lineEmpty = true ∧
    running.time.timers.wf = true ∧ (at_ running .draining).line.state = .draining ∧ Room (withNotices running 30) 2 := by decide +kernel
theorem test_witness_HaltsAreEntered :
    AtHand (ask running .halt []) .halt (frame .halt []) ∧ running.line.state.runs = true ∧ (halted running .running).line.state = .halted ∧
    AtHand (ask proving .proveAbort []) .proveAbort (frame .proveAbort []) ∧ proving.line.state = .proving ∧
    proving.comm.record = ⟨.running, some (runOf [])⟩ ∧ Room proving 3 ∧ running.time.timers.wf = true ∧
    TimerId.drain ∈ (expired (at_ running .draining) .drain).time.expired ∧ (expired running .drain).line.state ≠ .draining ∧
    (expired ready (.stall 1)).line.state.runs = false ∧ (expired plant (.stall 1)).line.state.runs = false ∧
    TimerId.stall 1 ∈ (expired running (.stall 1)).time.expired ∧ TimerId.stall 4 ∈ (expired running (.stall 4)).time.expired := by
  decide +kernel
theorem test_witness_ResumeReturns :
    AtHand (ask (halted running .running) .resume []) .resume (frame .resume []) ∧ (halted running .running).line.origin = some .running ∧
    (halted proving .proving).line.origin = some .proving ∧ (halted running .draining).line.origin = some .draining ∧
    (halted ready .draining).lineEmpty = true ∧ (halted running .draining).lineEmpty = false ∧ ProbesLive (halted running .running) ∧
    ¬StopLatched (halted running .running) ∧ ¬Declared (halted plant .running) ∧ Declared (halted running .running) ∧
    TracksInOrder (halted running .running) := by
  refine ⟨by decide +kernel, rfl, rfl, rfl, by decide +kernel, by decide +kernel, ?_, ?_, by decide +kernel, by decide +kernel, ?_⟩
  · exact (probesLive_iff _).1 (by decide +kernel)
  · exact mt (stopLatched_iff _).2 (by decide +kernel)
  · refine ⟨?_, ?_, ?_⟩ <;> decide +kernel
theorem test_witness_ClearEndsTheHalt :
    AtHand (ask (halted running .running) .clear []) .clear (frame .clear []) ∧ running.parcel.current = some 0 ∧
    running.parcel.lots.get? 0 = some { lotOf 2 with created := 4, live := 1, released := 3 } ∧
    (twoLots.parcel.lots.get? 1).isSome = true ∧ twoLots.parcel.current ≠ some 1 ∧ twoLots.liveOf 1 = 1 ∧ twoLots.parcel.lots.wf = true ∧
    (after (exec .clear (ask (halted twoLots .running) .clear []))).parcel.lots.get? 1 = none := by decide +kernel
theorem test_witness_PinAndLineReset :
    base.powered = true ∧ base.pin = false ∧ ({ running with pin := true } : State).pin = true ∧
    proving.comm.record = ⟨.running, some (runOf [])⟩ ∧ running.comm.record.result ≠ .running ∧
    Taken (ask ready .resetLine []) .resetLine (frame .resetLine []) ∧ (ready.probe.channels.get? 16).isSome = true ∧
    (ask ready .resetLine []).link.receive = [] ++ .waiting (frame .resetLine []) :: [] ∧ ready.link.transmitter = .idle ∧
    (after (exec .resetLine (ask ready .resetLine []))).link.notices.length < 32 ∧
    ready.parcel.lots.length ≤ 8 ∧ ((List.range 16).map fun k => (k, lotOf 2)).length = 16 := by decide +kernel
theorem test_witness_PowerOnAndLoss :
    [FieldInput.sealIn 4, .externalTrip 2].all FieldInput.ok = true ∧
    (if (saving ready .store).store.save.isSome then none else (saving ready .store).store.image) = none ∧
    (StoredSet.factory.channels.get? 1).isSome = true ∧ (StoredSet.factory.channels.get? 16).isSome = true ∧
    base.powered = true := by decide +kernel

/-! #### The time base, settings and reads -/

theorem test_witness_BaseMillisecondSteps : (∀ i ∈ [FieldInput.sealIn 1, .externalTrip 2], i.ok = true) ∧ base.powered = true := by decide
theorem test_witness_TimeSetReplacesLineTime :
    AtHand (ask ready .timeSet [0, 0, 0, 0, 0, 0x80]) .timeSet (frame .timeSet [0, 0, 0, 0, 0, 0x80]) ∧
    leNat [0xFF, 0xFF, 0xFF, 0xFF, 0xFF, 0x7F] = 140737488355327 ∧ 140737488355327 < leNat [0, 0, 0, 0, 0, 0x80] ∧
    plant.line.state = .setup ∧ ready.line.state = .ready ∧ running.line.state ≠ .setup ∧ running.line.state ≠ .ready := by decide +kernel
theorem test_witness_TimeTrimReplacesTrim :
    AtHand (ask running .timeTrim [0xF4, 1]) .timeTrim (frame .timeTrim [0xF4, 1]) ∧ leInt [0xF4, 1] = 500 ∧ leInt [0x0C, 0xFE] = -500 ∧
    leInt [0xF5, 1] = 501 ∧ leInt [0x0B, 0xFE] = -501 := by decide +kernel
theorem test_witness_WorkingSettingsAreReplaced :
    AtHand (ask running .samplingSet [200, 0]) .samplingSet (frame .samplingSet [200, 0]) ∧
    Taken (ask running .deadTimeSet [0xD0, 7]) .deadTimeSet (frame .deadTimeSet [0xD0, 7]) ∧
    AtHand (ask running .jobLimitSet [10, 0]) .jobLimitSet (frame .jobLimitSet [10, 0]) := by decide +kernel
theorem test_witness_RecordsAreRead :
    AtHand (ask running .timeRead []) .timeRead (frame .timeRead []) ∧ AtHand (ask running .provingRead []) .provingRead (frame .provingRead []) ∧
    AtHand (ask running .trackRead [1, 0, 0, 16, 0]) .trackRead (frame .trackRead [1, 0, 0, 16, 0]) ∧
    (running.track.tracks.get? 1).isSome = true ∧ running.track.tracks.get? 3 = none ∧
    (1 ≤ leNat [16, 0] ∧ leNat [16, 0] ≤ 400 ∧ leNat [0, 0] + leNat [16, 0] ≤ 16 ∧ ¬leNat [1, 0] + leNat [16, 0] ≤ 16) ∧
    AtHand (ask running .channelRead [0]) .channelRead (frame .channelRead [0]) ∧ (running.probe.channels.get? 16).isSome = true ∧
    running.probe.channels.get? 17 = none ∧
    AtHand (ask running .parcelRead [0xC4, 1]) .parcelRead (frame .parcelRead [0xC4, 1]) ∧
    running.parcel.parcels.first? (fun _ q => decide (q.seq = ((1 : Byte) ++ (0xC4 : Byte) : Seq))) = some (0, parcelOf 452 (.track 1 15)) ∧
    (∀ e ∈ running.parcel.parcels, e.2.seq ≠ ((0 : Byte) ++ (0 : Byte) : Seq)) ∧
    AtHand (ask running .lotRead [15]) .lotRead (frame .lotRead [15]) ∧ running.parcel.lots.get? 15 = none ∧
    (running.parcel.lots.get? 0).isSome = true ∧
    AtHand (ask running .bagRead [0, 0, 0]) .bagRead (frame .bagRead [0, 0, 0]) ∧
    (packing .opened .building).dist.findBag (leNat [1, 0, 0]) = some (0, bagOf .opened) ∧
    (∀ e ∈ (packing .opened .building).dist.bags, e.2.number ≠ leNat [2, 0, 0]) ∧
    AtHand (ask running .palletRead [3, 0, 2]) .palletRead (frame .palletRead [3, 0, 2]) ∧
    (packing .opened .building).transfer.findPallet (leNat [3, 0]) = some (1, palletOf .building) ∧
    (∀ e ∈ (packing .opened .building).transfer.pallets, e.2.number ≠ leNat [2, 0]) := by decide +kernel

/-! #### The track and parcel units -/

theorem test_witness_TrackDefineDefines :
    Taken (ask plant .trackDefine [3, 16, 0, 1, 0, 2, 100, 0, 2]) .trackDefine (frame .trackDefine [3, 16, 0, 1, 0, 2, 100, 0, 2]) ∧
    plant.track.tracks.length + 1 = 3 ∧ plant.track.tracks.get? 3 = none ∧ plant.track.zoneMap.length < 16 ∧ plant.track.tracks.wf = true ∧
    (16 ≤ leNat [16, 0] ∧ leNat [0, 2] = 512 ∧ leNat [1, 2] = 513) ∧ ((plant.track.tracks.filter fun e => decide (e.1 ≠ 3)).map fun e =>
      e.2.segments).sum = 32 ∧ CommissionInFlight (saving plant .commission) ∧ ¬CommissionInFlight plant ∧
    16 ≤ ({ plant with track := { plant.track with tracks := [(1, trackOf (List.replicate 16 ⟨1, .plain, none⟩))] } } : State).track.zoneMap.length := by
  refine ⟨by decide +kernel, rfl, by decide +kernel, by decide +kernel, by decide +kernel, by decide +kernel, by decide +kernel, ⟨_, rfl⟩, ?_,
    by decide +kernel⟩
  exact mt (commissioning_iff _).2 (by decide +kernel)
theorem test_witness_ZonesAndModesAreSet :
    Taken (ask plant .zoneDefine [1, 1, 16, 0, 3, 0, 0]) .zoneDefine (frame .zoneDefine [1, 1, 16, 0, 3, 0, 0]) ∧
    (plant.track.tracks.get? 1).isSome = true ∧ plant.track.tracks.get? 3 = none ∧
    zoneEntries [16, 0, 3, 0, 5] = [⟨16, 3, 0, 5⟩] ∧ (⟨16, .plain, none⟩ : Zone).kind.number = 3 ∧
    zoneEntries [16, 0, 0, 1, 16] = [⟨16, 0, 1, 16⟩] ∧ (⟨16, .blanch, some 16⟩ : Zone).kind.number = 0 ∧
    List.Forall₂ (fun (e : ZoneEntry) (z : Zone) => e.length = z.length ∧ e.kind = z.kind.number ∧ (z.channel = none → e.flag = 0) ∧
      ∀ c, z.channel = some c → e.flag = 1 ∧ e.channel = c) [⟨16, 3, 0, 5⟩, ⟨16, 0, 1, 16⟩]
        [⟨16, .plain, none⟩, ⟨16, .blanch, some 16⟩] ∧
    (∃ e ∈ zoneEntries [16, 0, 3, 2, 0], 1 < e.flag) ∧
    (∃ e ∈ zoneEntries [16, 0, 0, 1, 17], (e.kind = 0 ∨ e.kind = 2) ∧ (e.flag = 0 ∨ e.channel = 0 ∨ 16 < e.channel)) ∧
    (∃ e ∈ zoneEntries [0, 0, 3, 0, 0], e.length = 0) ∧
    AtHand (ask running .noticeModeSet [4, 2]) .noticeModeSet (frame .noticeModeSet [4, 2]) ∧
    AtHand (ask running .noticeModeSet [1, 2, 1]) .noticeModeSet (frame .noticeModeSet [1, 2, 1]) := by
  refine ⟨by decide +kernel, by decide +kernel, by decide +kernel, by decide +kernel, by decide, by decide +kernel, by decide, ?_,
    by decide +kernel, by decide +kernel, by decide +kernel, by decide +kernel, by decide +kernel⟩
  exact .cons (by simp [ZoneKind.number]) (.cons (by simp [ZoneKind.number]) .nil)
theorem test_witness_DividerResetClearsCounters :
    AtHand (ask ready .dividerReset [2]) .dividerReset (frame .dividerReset [2]) ∧ (∃ e ∈ ready.track.tracks, e.2.group = 0) ∧
    (∀ e ∈ ready.track.tracks, e.2.group ≠ 2) ∧ ready.track.counted 1 = [1] ∧ (ready.track.tracks.get? 1).map (fun t => t.counter) = some 0 ∧
    (grouped ready).track.counted 1 = [1, 2] ∧ ((grouped ready).track.tracks.get? 2).map (fun t => t.counter) = some 0 := by
  decide +kernel
theorem test_witness_PulsesCountAndIndex :
    (grouped running).track.counted 1 = [1, 2] ∧ (grouped running).track.tracks.all (fun e => e.2.counter + 1 < e.2.pulses) = true ∧
    TracksInOrder (grouped running) ∧ running.track.counted 1 = [1] ∧ running.track.counted 4 = [] ∧ (running.track.tracks.get? 1).map (fun t => t.counter + 1 < t.pulses) = some True ∧
    TracksInOrder running ∧ (({ running with track := { running.track with tracks := running.track.tracks.mapVals fun _ t => { t with counter := 1 } } } :
      State).track.tracks.get? 1).map (fun t => t.pulses ≤ t.counter + 1) = some True := by
  refine ⟨by decide +kernel, by decide +kernel, ?_, by decide +kernel, by decide +kernel, ?_, ?_, ?_⟩
  · refine ⟨?_, ?_, ?_⟩ <;> decide +kernel
  · exact congrArg some (eq_true (by decide))
  · refine ⟨?_, ?_, ?_⟩ <;> decide +kernel
  · exact congrArg some (eq_true (by decide))
/-- R47: the three modes, with and without a parcel that enters a zone within track 1. -/
theorem test_witness_indexNotices :
    (Indexes moving 1 1 { trackOf [⟨8, .blanch, some 1⟩, ⟨8, .cool, none⟩] with counter := 1, queue := [2, 3], backedUp := true }) ∧
    moving.parcel.parcels.wf = true ∧ Room moving 8 ∧ moving.track.zoneId 1 7 = some 0 ∧
    (moving.track.zoneAt 1 8).map (fun z => (z.id, z.kind)) = some (1, .cool) ∧
    ([NoticeMode.off, .every, .zone].map fun m =>
      (after (exec (.encoderPulse 1 false) (inMode moving m))).link.notices.length) = [0, 1, 1] ∧
    (let still := { moving with parcel := { moving.parcel with parcels := [(1, parcelOf 453 (.track 1 3))] } }
     ([NoticeMode.off, .every, .zone].map fun m =>
      (after (exec (.encoderPulse 1 false) (inMode still m))).link.notices.length) = [0, 1, 0]) := by decide +kernel
theorem test_witness_RingCellsFollowTheHead : (trackOf []).head < (trackOf []).segments ∧ 15 + 1 = (trackOf []).segments ∧
    (running.track.tracks.get? 2).isSome = true ∧ inOrder running.track.tracks = true ∧
    (running.track.zoneAt 2 4).map (fun z => (z.id, z.start)) = some (3, 4) ∧ running.track.zoneAt 2 16 = none ∧
    moving.track.cells = [] ∧ (moving.track.tracks.all fun e => decide (0 ∉ e.2.queue ∧ 1 ∉ e.2.queue ∧ 4 ∉ e.2.queue)) = true ∧
    (let t := after (exec (.encoderPulse 1 false) moving)
     (t.parcel.parcels.get? 0).map (fun p => (p.loc, p.zone, p.freezerEntry)) = some (.track 1 8, none, some 95000) ∧
      t.parcel.parcels.get? 1 = some (parcelOf 453 (.track 1 4)) ∧ t.parcel.parcels.get? 4 = moving.parcel.parcels.get? 4) ∧
    ((after (exec (.encoderPulse 2 false) moving)).parcel.parcels.get? 4).map (fun p => (p.loc, p.freezerEntry)) =
      some (.track 2 4, some moving.time.lineTime) := by decide +kernel
/-- R45, R51: an index of track 2 takes the oldest entry of queue 1, and track 1 regains RUN. -/
theorem test_witness_takeQueue :
    (∃ tr, Indexes moving 2 2 tr ∧ tr.head < tr.segments ∧ moving.track.cells.get? (moving.track.cellOf 2 tr (tr.segments - 1)) = none) ∧
    (moving.track.tracks.get? 1).map (fun t => (t.queue, t.backedUp)) = some ([2, 3], true) ∧ moving.track.cells.wf = true ∧
    moving.comm.record.result ≠ .running ∧ (moving.track.zoneAt 2 0).isSome = true ∧
    (let t := after (exec (.encoderPulse 2 false) moving)
     (t.parcel.parcels.get? 2).map (fun p => p.loc) = some (.track 2 0) ∧ (t.parcel.parcels.get? 3).map (fun p => p.loc) = some (.queue 1 1) ∧
      (t.track.tracks.get? 1).map (fun t => (t.queue, t.backedUp)) = some ([3], false) ∧ t.pins.trackRun[0]? = some true) := by
  refine ⟨⟨{ trackOf [⟨4, .plain, none⟩, ⟨12, .freeze, some 5⟩] with counter := 1 }, ?_, ?_, ?_⟩, ?_⟩ <;> decide +kernel
theorem test_witness_DepartureJoinsTheQueue :
    1 < running.track.tracks.length ∧
    running.track.tracks.get? 1 = some (trackOf [⟨8, .blanch, some 1⟩, ⟨8, .cool, none⟩]) ∧
    running.track.cells.get? (running.track.cellOf 1 (trackOf []) 15) = some 0 ∧
    running.parcel.parcels.get? 0 = some (parcelOf 452 (.track 1 15)) ∧ running.line.state ≠ .draining ∧
    ready.track.cells.get? (ready.track.cellOf 1 (trackOf []) 15) = none ∧
    ({ trackOf [] with queue := [1, 2, 3, 4, 5, 6, 7, 8] } : Track).queue.length = 8 ∧ running.time.timers.wf = true ∧
    running.link.notices.length + 2 ≤ 32 ∧
    (let full := at_ { running with track := { running.track with
        tracks := running.track.tracks.modify 1 fun t => { t with queue := [1, 2, 3, 4, 5, 6, 7, 8] } } } .draining
     (full.track.tracks.get? 1).map (fun t => t.queue.length) = some 8 ∧ full.line.state = .draining ∧
      ((full.track.tracks.get? 1).map fun t => (full.depart 1 t 0).line.state) = some .draining ∧
      ((full.track.tracks.get? 1).map fun t => (full.depart 1 t 0).parcel.parcels) = some []) := by decide +kernel
/-- R9, R61: an index of track 1 with an occupied last cell creates in RUNNING, and not in DRAINING, when coasting in HALTED or
without a current lot. -/
theorem test_witness_creation :
    Indexes (primed running) 1 1 { trackOf [⟨8, .blanch, some 1⟩, ⟨8, .cool, none⟩] with counter := 1 } ∧
    Indexes (primed (halted running .running)) 1 1 { trackOf [⟨8, .blanch, some 1⟩, ⟨8, .cool, none⟩] with counter := 1 } ∧
    running.track.cells.wf = true ∧ running.parcel.parcels.wf = true ∧ running.comm.record.result ≠ .running ∧
    (let after1 := fun s : State => (after (exec (.encoderPulse 1 true) (primed s))).parcel.parcels.length
     after1 running = 2 ∧ after1 (at_ running .draining) = 1 ∧ after1 (halted running .running) = 1 ∧
      after1 { running with parcel := { running.parcel with current := none } } = 1) := by decide +kernel
theorem test_witness_IndexOfTrackOneCreates :
    (let s := primed (at_ ready .running)
     s.powered = true ∧ s.pin = false ∧ s.track.counted 1 = [1] ∧ (s.track.tracks.get? 1).isSome = true ∧ s.line.state = .running ∧
      s.track.cells.get? (s.track.cellOf 1 (trackOf []) 15) = none ∧ s.parcel.staged = none ∧ s.parcel.current = some 0 ∧
      (s.parcel.lots.get? 0).isSome = true ∧ s.parcel.parcels.freeKey 0 1024 = some 0 ∧ s.infeedHold = false) ∧
    ((primed proving).line.state = .proving ∧ (primed proving).parcel.current = some 0 ∧ (primed proving).track.cells = [] ∧
      (primed proving).comm.record.run.map (fun r => (r.entries.length, r.count)) = some (0, 2) ∧
      (proving.parcel.lots.get? 0).map (fun l => l.created.toNat) = some 0) ∧
    (let d : Staged := ⟨code, 1, 2, false⟩
     (ready.parcel.lots.first? (fun _ x => decide (x.code = d.code) && !x.proving) =
         some (0, { lotOf 2 with created := 4, live := 1, released := 3 }) ∧ ready.parcel.lots.wf = true) ∧
      (proving.parcel.lots.all fun e => decide (e.2.code = d.code → e.2.proving = true)) = true ∧
      proving.parcel.lots.freeKey 0 16 = some 1 ∧
      Table.freeKey ((List.range 16).map fun k => (k, { lotOf 2 with proving := true })) 0 16 = none) := by decide +kernel
theorem test_witness_SequenceNumbersAreFresh : running.parcel.parcels.length ≤ 1024 ∧
    freeSeq running.parcel.parcels 1024 452 = 453 ∧ freeSeq [(0, parcelOf 65535 (.queue 1 1)), (1, parcelOf 0 (.queue 1 2))] 1024 65535 = 1 := by
  decide +kernel
theorem test_witness_InfeedDeclareStages :
    AtHand (ask ready .infeedDeclare (code ++ [15, 7])) .infeedDeclare (frame .infeedDeclare (code ++ [15, 7])) ∧ code.length = 12 ∧
    (∀ x ∈ code, 0x20 ≤ x ∧ x ≤ 0x7E) ∧ (∃ x ∈ code, x ≠ 0x20) ∧
    (∀ e ∈ ready.parcel.lots, e.2.code = code → e.2.recipe = 1 ∧ e.2.cls = 2) ∧ proving.line.state = .proving := by decide +kernel
theorem test_witness_HoldRangesMarkParcels :
    AtHand (ask running .holdRange [0xFF, 0xFF, 0, 0]) .holdRange (frame .holdRange [0xFF, 0xFF, 0, 0]) ∧
    AtHand (ask running .clearHoldRange [0, 0, 0xFF, 0xFF]) .clearHoldRange (frame .clearHoldRange [0, 0, 0xFF, 0xFF]) ∧
    (∀ p : Parcel, inRange 65535 0 p.seq = true ↔ (if (65535 : Seq) ≤ 0 then 65535 ≤ p.seq ∧ p.seq ≤ 0 else 65535 ≤ p.seq ∨ p.seq ≤ 0)) := by
  refine ⟨by decide +kernel, by decide +kernel, fun p => ?_⟩
  simp [inRange]

/-! #### The probe unit -/

theorem test_witness_ChannelSetWritesTheChannel :
    Taken (ask plant .channelSet [16, 16, 1, 0]) .channelSet (frame .channelSet [16, 16, 1, 0]) ∧
    (¬∃ x ∈ plant.probe.channels, x.1 ≠ 16 ∧ x.2.enabled = true ∧ x.2.address = 16) ∧
    (∃ x ∈ plant.probe.channels, x.1 ≠ 16 ∧ x.2.role = .exit) ∧ (plant.probe.channels.get? 16).isSome = true ∧
    (polling plant).probe.exchange = some ⟨1, 1, 0, false, []⟩ := by decide +kernel
theorem test_witness_OffsetAndLevelsAreSet :
    Taken (ask plant .offsetStep [16, 0xFF]) .offsetStep (frame .offsetStep [16, 0xFF]) ∧ (0xFF : Byte).toInt = -1 ∧ (1 : Byte).toInt = 1 ∧
    max (-50) (min 50 ((-50 : Int) + (0xFF : Byte).toInt)) = -50 ∧
    Taken (ask plant .levelsSet [1, 0x0C, 0xFE, 0x0C, 0xFE, 0xDC, 5, 0xDC, 5, 100]) .levelsSet
      (frame .levelsSet [1, 0x0C, 0xFE, 0x0C, 0xFE, 0xDC, 5, 0xDC, 5, 100]) ∧ leInt [0x0C, 0xFE] = -500 ∧ leInt [0xDC, 5] = 1500 := by
  decide +kernel
theorem test_witness_TripEditsAndAck :
    Taken (ask plant .routeSet [16, 4, 15]) .routeSet (frame .routeSet [16, 4, 15]) ∧ TripSource.ofBytes? 16 4 = some (.stale 16) ∧
    TripSource.ofBytes? 17 0 = none ∧ TripSource.ofBytes? 0 1 = some .shuttleFault ∧ TripSource.ofBytes? 0 2 = none ∧
    Taken (ask plant .externalTripSet [2, 1, 16, 1]) .externalTripSet (frame .externalTripSet [2, 1, 16, 1]) ∧
    (plant.probe.external.get? 2).isSome = true ∧ (plant.probe.channels.get? 16).isSome = true ∧
    (({ plant with probe := { plant.probe with external := plant.probe.external.put 2 ⟨some (5, .high), true⟩ } } :
      State).probe.external.get? 2).bind (fun x => x.binding.map fun b => b.1) = some 5 ∧ AtHand (ask running .tripAck [0, 1]) .tripAck (frame .tripAck [0, 1]) ∧
    (after (exec .faultEdge (edge running .faultIn true))).latch .shuttleFault = true ∧
    (after (exec .faultEdge (edge running .faultIn true))).condition .shuttleFault = true ∧ running.latch .shuttleFault = false ∧
    ({ plant with probe := { plant.probe with exposure := ⟨true, .empty⟩ } } : State).condition .exposure = false := by decide +kernel
theorem test_witness_PollingRoundsAndMisses :
    (afterMs plant 1).probe.exchange = none ∧ (afterMs plant 1).probe.nextRound ≤ (afterMs plant 1).time.baseMs ∧
    plant.time.baseMs < plant.probe.nextRound ∧ UnitsNumbered (afterMs plant 1) ∧
    (polling running).probe.exchange = some ⟨1, 1, 0, false, []⟩ ∧ (afterMs (polling running) 24).time.baseMs < 0 + 25 ∧
    0 + 25 ≤ (afterMs (polling running) 25).time.baseMs ∧ (polling running).probe.remaining = 5 :: [] ∧
    (running.probe.channels.get? 5).map (fun c => c.enabled) = some true := by
  refine ⟨rfl, by decide +kernel, by decide +kernel, ?_, rfl, by decide +kernel, by decide +kernel, rfl, by decide +kernel⟩
  refine ⟨?_, ?_, ?_, ?_, ?_, ?_⟩ <;> decide +kernel
/-- R83, R111: the third miss disarms the parcel in the channel's zone and gives it GAP. -/
theorem test_witness_thirdMiss :
    failing.probe.exchange = some ⟨1, 1, 0, false, []⟩ ∧ 0 + 25 ≤ failing.time.baseMs ∧
    (failing.probe.channels.get? 1).map (fun ch => (ch.misses, ch.state)) = some (2, .live) ∧
    (let t := after (exec .answerWindowClose failing)
     (t.parcel.parcels.get? 0).map (fun p => (p.armed, p.deviation.gap)) = some (false, true) ∧
      (t.probe.channels.get? 1).map (fun ch => ch.state) = some .stale) := by decide +kernel
/-- R82: a good sample of the BLANCH zone's channel reaches the credit unit, that of a FREEZE zone's channel does not. -/
theorem test_witness_sampleReachesCredit :
    running.track.watchesBlanch 1 = true ∧ running.track.watchesBlanch 5 = false ∧
    ((after (exec (.sampleFrame (sampleOf 1 913 0)) (polling running))).credit.chains.get? 1).map (fun ch => ch.previous) =
      some (some (913, running.time.lineTime)) := by decide +kernel
theorem test_witness_SampleFramesAreTaken :
    (polling running).probe.exchange = some ⟨1, 1, 0, false, []⟩ ∧ (afterMs (polling running) 24).time.baseMs < 0 + 25 ∧
    sampleOf 1 913 0 = [0xC3, 1, 0x91, 3, 0, (crc [1, 0x91, 3, 0]).setWidth 8, ((crc [1, 0x91, 3, 0]) >>> 8).setWidth 8] ∧
    crc [1, 0x91, 3, 0] = (((crc [1, 0x91, 3, 0]) >>> 8).setWidth 8 : Byte) ++ ((crc [1, 0x91, 3, 0]).setWidth 8 : Byte) ∧
    (0 : Byte).getLsbD 0 = false ∧ (1 : Byte).getLsbD 0 = true := by decide +kernel
theorem test_witness_EventsPerformTheirRoute :
    (∀ k, (TripSource.level 16 .high).channel = some k → plant.probe.channels.get? k ≠ none) ∧
    (let s : State := { running with probe := { running.probe with exposure := ⟨false, ⟨true, false, false, true⟩⟩ } }
     (s.route .exposure).notify = true ∧ (s.route .exposure).stopLine = true ∧ s.line.state.runs = true ∧ s.pin = false ∧ Room s 1) ∧
    (let s : State := { running with probe := { running.probe with exposure := ⟨true, ⟨false, false, true, false⟩⟩ } }
     (s.route .exposure).holdInfeed = true ∧ s.infeedHold = true ∧ running.infeedHold = false) := by
  refine ⟨?_, by decide +kernel⟩
  intro k h
  obtain rfl : k = 16 := by simpa [TripSource.channel] using h.symm
  decide +kernel
theorem test_witness_TripAndKeyEdges :
    (edge plant (.externalTrip 2) true).time.edges = ⟨.externalTrip 2, true, 20⟩ :: [] ∧
    (plant.probe.external.get? 2).map (fun x => x.binding) = some none ∧ (plant.probe.channels.get? 1).isSome = true ∧
    ({ plant with probe := { plant.probe with external := plant.probe.external.put 2 ⟨some (1, .high), false⟩ } } : State).probe.external.get? 2 =
      some ⟨some (1, .high), false⟩ ∧ Room plant 8 ∧
    ({ liveChannel 1 .zone 913 with routes := LevelMap.const ⟨true, false, false, false⟩ } : Channel).conditions.look .high = false ∧
    ((LevelMap.const (⟨true, false, false, false⟩ : Route)).look .high).notify = true ∧ (edge plant .commissionKey false).time.edges = ⟨.commissionKey, false, 20⟩ :: [] := by decide +kernel

/-! #### The credit unit, distribution and bagging -/

theorem test_witness_RatesAndRecipesAreSet :
    Taken (ask plant .rateTableSet [1, 0xDC, 5, 0, 0]) .rateTableSet (frame .rateTableSet [1, 0xDC, 5, 0, 0]) ∧
    bandEntries [0xDC, 5, 0, 0] = [⟨1500, 0⟩] ∧ bandEntries [0x0C, 0xFE, 0, 0] = [⟨-500, 0⟩] ∧
    (bands.Pairwise fun b b' => b.floor < b'.floor ∧ b.weight ≤ b'.weight) ∧ bands.length ≤ 24 ∧
    Taken (ask plant .recipeThermalSet [15, 0, 0x24, 0xF4, 0x40, 0x38, 0xDC, 5, 0x20, 0x1C]) .recipeThermalSet
      (frame .recipeThermalSet [15, 0, 0x24, 0xF4, 0x40, 0x38, 0xDC, 5, 0x20, 0x1C]) ∧
    leNat [0, 0x24, 0xF4] = 16000000 ∧ leNat [0x40, 0x38] = 14400 ∧ leNat [0x20, 0x1C] = 7200 ∧ (plant.credit.recipes.get? 15).isSome = true ∧
    Taken (ask ready .recipePackingSet [15, 0, 0, 0, 0, 120]) .recipePackingSet (frame .recipePackingSet [15, 0, 0, 0, 0, 120]) := by
  decide +kernel
theorem test_witness_CreditOfASample :
    (bands.Pairwise fun b b' => b.floor < b'.floor ∧ b.weight ≤ b'.weight) ∧ (∀ b ∈ bands, (849 : Int) < b.floor) ∧
    (running.credit.chains.get? 1).map (fun c => c.previous) = some none ∧
    ({ running with credit := { running.credit with chains := running.credit.chains.put 1 ⟨some (924, 11937), 650⟩ } } : State).credit.chains.get? 1 =
      some ⟨some (924, 11937), 650⟩ ∧ 17937 ≤ 6000 + 11937 ∧ 6000 + 11937 < 17938 ∧ (parcelOf 452 (.track 1 2)).credit ≤ 16000000 ∧
    (running.parcel.parcels.all fun e => decide (e.2.past = [])) = true ∧
    (let p := { parcelOf 452 (.track 1 8) with movedAt := running.time.baseMs, past := [⟨some 0, true⟩] }
     p.movedAt = running.time.baseMs ∧ p.past ≠ []) := by
  decide +kernel
theorem test_witness_VerdictHasExactlyItsReasons : running.credit.recipes.get? 1 = some peas := by decide +kernel
theorem test_witness_OnlyReleasedParcelsAreDiverted : UnitsNumbered running ∧
    (running.verdict (parcelOf 452 (.track 2 15)) 2495000).reasons.isHeld = false ∧
    (running.distribute (parcelOf 452 (.track 2 15)) (running.verdict (parcelOf 452 (.track 2 15)) 2495000)).2 = ⟨1, none, some 1⟩ ∧
    (let s := leaving running (parcelOf 452 (.track 2 15))
     s.powered = true ∧ s.pin = false ∧ s.track.counted 2 = [2] ∧ s.track.tracks.length = 2 ∧ s.line.state.runs = true ∧
      s.track.cells.get? (s.track.cellOf 2 (trackOf []) 15) = some 0 ∧ s.parcel.current = some 0 ∧
      (s.parcel.lots.get? 0).isSome = true ∧ s.parcel.parcels.wf = true ∧ s.comm.record.result ≠ .running ∧ Room s 1) := by
  refine ⟨⟨?_, ?_, ?_, ?_, ?_, ?_⟩, ?_, ?_, ?_⟩ <;> decide +kernel
/-- The lane choice's clauses, each on lanes 1 and 2 of class 2 (run length 3). -/
theorem test_witness_laneChoice :
    (let free : Lane := ⟨.accepting, none, false, true⟩
     let out := choice (laning ⟨.accepting, some 1, true, true⟩ free [(0, { bagOf .opened with slot := 1 })] ⟨none, 0⟩)
     let full : Table Bag := (List.range 32).map fun k => (k, { bagOf .opened with number := k + 1 })
     out.2.lane = 2 ∧ out.1.dist.lanes.get? 1 = some ⟨.sealing, some 1, false, true⟩ ∧
      (choice (laning free free [] ⟨some 2, 2⟩)).2.lane = 2 ∧ (choice (laning free free [] ⟨some 2, 3⟩)).2.lane = 1 ∧
      (choice (laning { free with state := .pending } { free with state := .closed } [] ⟨none, 0⟩)).2 = ⟨0, some .noLane, none⟩ ∧
      (full.freeKey 0 32 = none ∧ (choice (laning free free full ⟨none, 0⟩)).2 = ⟨0, some .noBag, none⟩) ∧
      ((choice (laning free free [] ⟨none, 0⟩)).1.dist.bags.get? 0).map (fun b => (b.number, b.lane, b.parcels)) = some (1, 1, 1) ∧
      (let last := choice (laning ⟨.accepting, some 1, true, true⟩ free [(0, { bagOf .opened with parcels := 254 })] ⟨none, 0⟩)
       last.2.bag = some 1 ∧ last.1.dist.lanes.get? 1 = some ⟨.sealing, some 1, false, true⟩) ∧
      (choice { laning free free [] ⟨none, 0⟩ with time := { running.time with timers := [(5, 150)] } }).2 = ⟨0, some .gateBusy, none⟩) := by
  decide +kernel
theorem test_witness_GateRule :
    ({ running with dist := { running.dist with openGate := some 1 } } : State).dist.openGate = some 1 ∧ running.dist.openGate = none ∧
    ({ running with time := { running.time with timers := [(5, 150)] } } : State).time.timers.get? 5 ≠ none ∧
    running.time.timers.get? 5 = none ∧ TimerId.gate ∉ running.time.expired ∧
    TimerId.gate ∈ (expired running .gate).time.expired := by decide +kernel
theorem test_witness_ClassMapIsStagedThenLive :
    Taken (ask ready .classMapSet [7, 15, 16, 0, 1, 0, 1, 0, 1, 0, 1, 0, 1, 0, 1]) .classMapSet
      (frame .classMapSet [7, 15, 16, 0, 1, 0, 1, 0, 1, 0, 1, 0, 1, 0, 1]) ∧
    (∀ e ∈ classEntries [15, 16, 0, 1, 0, 1, 0, 1, 0, 1, 0, 1, 0, 1], e.1 < 16 ∧ 1 ≤ e.2 ∧ e.2 ≤ 16) ∧
    (∃ e ∈ classEntries [16, 1, 0, 1, 0, 1, 0, 1, 0, 1, 0, 1, 0, 1], 16 ≤ e.1 ∨ e.2 < 1 ∨ 16 < e.2) ∧
    (after (exec .classMapSet (ask ready .classMapSet [7, 15, 16, 0, 1, 0, 1, 0, 1, 0, 1, 0, 1, 0, 1]))).dist.staged ≠ none ∧
    (let s := primed running
     s.track.counted 1 = [1] ∧ 1 ≠ s.track.tracks.length ∧ s.track.counted 2 = [2] ∧ s.track.tracks.length = 2 ∧
      s.track.cells.get? (s.track.cellOf 2 (trackOf []) 15) = none ∧ s.line.state.runs = true) := by decide +kernel
theorem test_witness_LanesAreMoved :
    Taken (ask ready .laneOpen [4]) .laneOpen (frame .laneOpen [4]) ∧ Taken (ask ready .laneClose [1]) .laneClose (frame .laneClose [1]) ∧
    Taken (ask ready .laneOpen [5]) .laneOpen (frame .laneOpen [5]) ∧ (ready.dist.lanes.get? 4).map (fun l => l.state) = some .closed ∧
    (edge running (.readyIn 4) true).time.edges = ⟨.readyIn 4, true, 20⟩ :: [] ∧
    (edge running (.sealIn 1) true).time.edges = ⟨.sealIn 1, true, 20⟩ :: [] ∧ running.dist.lanes.get? 1 = some ⟨.accepting, none, false, true⟩ ∧
    ({ running with dist := { running.dist with lanes := running.dist.lanes.put 1 ⟨.sealing, some 1, true, true⟩ } } : State).dist.lanes.get? 1 =
      some ⟨.sealing, some 1, true, true⟩ ∧ (∃ k, k < 32 ∧ running.dist.bags.get? k = none) := by
  refine ⟨by decide +kernel, by decide +kernel, by decide +kernel, by decide +kernel, rfl, rfl, by decide +kernel, by decide +kernel, 31, by decide, rfl⟩
theorem test_witness_BagWeightJudgesTheBag :
    AtHand (ask (packing .sealed .building) .bagWeight [1, 0, 0, 100, 0]) .bagWeight (frame .bagWeight [1, 0, 0, 100, 0]) ∧
    (packing .sealed .building).dist.findBag 1 = some (0, bagOf .sealed) ∧ (packing .sealed .building).dist.bags.get? 0 = some (bagOf .sealed) ∧
    (packing .opened .building).dist.findBag 1 = some (0, bagOf .opened) ∧ (packing .sealed .building).credit.recipes.get? 1 = some peas ∧
    ((packing .sealed .building).parcel.lots.get? 0).isSome = true ∧ (packing .sealed .building).parcel.current = some 0 ∧
    (packing .sealed .building).transfer.building 1 = some (1, palletOf .building) ∧ (packing .sealed .building).transfer.waiting = [] ∧
    (palletOf .building).bags.length + 1 < (palletOf .building).target ∧ (lotOf 2).recipe = (bagOf .sealed).recipe ∧
    (packing .sealed .building).dist.bags.wf = true ∧ (peas.bagMin = 100 ∧ peas.bagMax = 200) ∧ (99 < peas.bagMin ∧ peas.bagMax < 201) ∧
    (let s : State := { packing .sealed .building with dist := { (packing .sealed .building).dist with
        lanes := (packing .sealed .building).dist.lanes.put 3 ⟨.blocked, none, false, true⟩ } }
     s.dist.lanes.first? (fun _ x => decide (x.state = .blocked)) = some (3, ⟨.blocked, none, false, true⟩)) ∧
    ({ palletOf .building with target := 2 } : Pallet).target = (palletOf .building).bags.length + 1 ∧
    ((packing .sealed .ready).transfer.building 1 = none ∧ (packing .sealed .ready).transfer.pallets.freeKey 1 8 = some 2 ∧
      (packing .sealed .ready).transfer.pallets.length ≤ 8 ∧ 2 ≤ peas.bagsPerPallet ∧
      (packing .sealed .ready).transfer.pallets.all (fun e => e.2.number ≠ 4) = true) ∧
    (let s : State := { packing .sealed .building with
        parcel := { (packing .sealed .building).parcel with current := some 1, lots := (packing .sealed .building).parcel.lots.put 1 (lotOf 2) }
        dist := { (packing .sealed .building).dist with bags := [(0, { bagOf .sealed with slot := 1 })] } }
     s.laneWaits 1 = false ∧ s.transfer.building 1 = some (1, palletOf .building) ∧ (palletOf .building).slot ≠ 1 ∧
      s.transfer.pallets.freeKey 1 8 = some 2 ∧ s.parcel.lots.get? 1 = some (lotOf 2) ∧ s.transfer.shuttle.state = .idle) ∧
    Table.freeKey ((List.range 8).map fun k => (k + 1, palletOf .ready)) 1 8 = none ∧
    ({ packing .sealed .building with transfer := { (packing .sealed .building).transfer with waiting := [1] } } :
      State).laneWaits 1 = true := by decide +kernel

/-! #### Pallets, the shuttle, commissioning and the store -/

theorem test_witness_PalletsAreClosedAndGranted :
    AtHand (ask (packing .opened .building) .palletClose [3, 0]) .palletClose (frame .palletClose [3, 0]) ∧
    (packing .opened .building).transfer.findPallet 3 = some (1, palletOf .building) ∧
    (shuttling (packing .opened .building) .faulted false).transfer.shuttle.state ≠ .idle ∧ (palletOf .ready).state ≠ .building ∧
    (packing .opened .ready).transfer.shuttle.state = .idle ∧ (∃ e ∈ (packing .opened .ready).transfer.pallets, e.2.state = .ready) ∧
    (∀ e ∈ (packing .opened .building).transfer.pallets, e.2.state ≠ .ready) := by decide +kernel
theorem test_witness_ShuttleHandshake :
    (edge (shuttling (packing .opened .granted) .assigned false) .acceptIn true).time.edges = ⟨.acceptIn, true, 20⟩ :: [] ∧
    (shuttling (packing .opened .granted) .assigned false).transfer.shuttle.job = some ⟨3, 1, 40, false⟩ ∧
    (packing .opened .granted).transfer.findPallet 3 = some (1, palletOf .granted) ∧
    (edge running .loadedIn true).transfer.shuttle.state ≠ .assigned ∧
    (shuttling running .carrying true).transfer.shuttle.job = some ⟨3, 1, 40, true⟩ ∧
    (edge (shuttling running .faulted false) .doneIn true).time.edges = ⟨.doneIn, true, 20⟩ :: [] ∧
    (shuttling running .faulted false).transfer.shuttle.state ≠ .carrying ∧ running.transfer.shuttle.state = .idle := by decide +kernel
theorem test_witness_DoorPassStoresThePallet :
    (let s := edge (shuttling (packing .opened .loaded) .carrying false) .doorEye true
     s.time.edges = ⟨.doorEye, true, 20⟩ :: [] ∧ s.transfer.shuttle.job = some ⟨3, 1, 40, false⟩ ∧
      s.transfer.findPallet 3 = some (1, palletOf .loaded) ∧ s.transfer.pallets.get? 1 = some (palletOf .loaded) ∧ s.transfer.pallets.wf = true ∧
      s.time.timers.wf = true ∧ (s.parcel.lots.get? 0).isSome = true ∧ s.parcel.current = some 0 ∧ s.transfer.waiting = [] ∧
      (palletOf .loaded).bags.length ≤ 60 ∧ 20 ≤ (palletOf .loaded).exposureDue ∧ Room s 1) ∧
    (edge running .doorEye true).transfer.shuttle.state ≠ .carrying ∧
    (({ palletOf .loaded with exposureDue := 19 } : Pallet).exposureDue < 20 ∧ (palletOf .loaded).exposed = false ∧
      (shuttling (packing .opened .loaded) .carrying false).line.state ≠ .proving ∧
      Room (shuttling (packing .opened .loaded) .carrying false) 4) ∧
    (60 < (bigPallet .loaded).bags.length ∧ (withNotices running 31).link.notices.length = 31) ∧
    (let s := { packing .sealed .loaded with transfer := { (packing .sealed .loaded).transfer with waiting := [1] } }
     s.dist.findBag 1 = some (0, bagOf .sealed) ∧ s.dist.bags.get? 0 = some (bagOf .sealed) ∧ s.transfer.building 1 = none) := by
  decide +kernel
theorem test_witness_FaultsExposureAndRecovery :
    (edge (shuttling (packing .opened .loaded) .carrying false) .faultIn true).time.edges = ⟨.faultIn, true, 20⟩ :: [] ∧
    (shuttling (packing .opened .loaded) .carrying false).time.timers.wf = true ∧
    TimerId.shuttleJob ∈ (expired (shuttling (packing .opened .granted) .assigned false) .shuttleJob).time.expired ∧
    TimerId.exposure 1 ∈ (expired (packing .opened .building) (.exposure 1)).time.expired ∧
    TimerId.exposure 8 ∈ (expired (packing .opened .building) (.exposure 8)).time.expired ∧
    (packing .opened .building).transfer.pallets.get? 1 = some (palletOf .building) ∧ (palletOf .stored).state = .stored ∧
    running.probe.exposure.route.notify = false ∧
    AtHand (ask (shuttling running .faulted false) .shuttleReset []) .shuttleReset (frame .shuttleReset []) ∧
    (after (exec .faultEdge (edge running .faultIn true))).transfer.shuttle.faultLevel = true ∧
    (after (exec .shuttleJobTimerExpiry (expired (shuttling (packing .opened .loaded) .carrying false) .shuttleJob))).transfer.shuttle.stranded =
      some 3 ∧
    (let s := shuttling (packing .opened .loaded) .carrying true
     s.transfer.shuttle.job = some ⟨3, 1, 40, true⟩ ∧ s.transfer.findPallet 3 = some (1, palletOf .loaded) ∧ Room s 1 ∧
      (after (exec .faultEdge (edge s .faultIn true))).transfer.pallets = s.transfer.pallets ∧
      (after (exec .faultEdge (edge s .faultIn true))).transfer.shuttle.stranded = none) ∧
    (let s := shuttling (packing .opened .granted) .assigned false
     let armed : State := { s with probe := { s.probe with shuttleFault := ⟨false, ⟨true, false, false, false⟩⟩ } }
     (after (exec .faultEdge (edge armed .faultIn true))).link.notices.map (fun n => n.body) =
      [.trip .shuttleFault .transfer none 3 ⟨true, false, false, false⟩ 0]) := by decide +kernel
theorem test_witness_ProveStartBeginsARun :
    Taken (ask plant .proveStart [15, 32, 100]) .proveStart (frame .proveStart [15, 32, 100]) ∧ ProbesLive plant ∧ ¬StopLatched plant ∧
    plant.track.tracks ≠ [] ∧ (∃ z ∈ plant.track.zoneMap, z.kind = .blanch) ∧ plant.probe.exitChannel ≠ none ∧ plant.credit.rates ≠ [] ∧
    plant.parcel.lots.freeKey 0 16 = some 0 ∧ (plant.credit.recipes.get? 15).isSome = true ∧ plant.parcel.current = none ∧
    (({ plant with parcel := { plant.parcel with lots := (List.range 16).map fun k => (k, lotOf 2) } } : State).parcel.lots.freeKey 0 16 = none) ∧
    (inOrder plant.track.tracks = true ∧ plant.store.image = none ∧ plant.store.save = none) ∧
    (let s : State := { plant with parcel := { plant.parcel with lots := [(0, lotOf 2)], current := some 0 } }
     s.parcel.lots.freeKey 0 16 = some 1 ∧ s.parcel.lots.wf = true ∧ Room s 2 ∧ (lotOf 2).live = 0 ∧ (lotOf 2).retired = none ∧
      (withNotices s 32).link.notices.length = 32) := by
  refine ⟨by decide +kernel, ?_, ?_, by decide +kernel, by decide +kernel, by decide +kernel, by decide +kernel, by decide +kernel,
    by decide +kernel, rfl, by decide +kernel, by decide +kernel, by decide +kernel⟩
  · exact (probesLive_iff _).1 (by decide +kernel)
  · exact mt (stopLatched_iff _).2 (by decide +kernel)
theorem test_witness_ProvingRunsEndInAResult :
    proving.comm.record = ⟨.running, some (runOf [])⟩ ∧ (runOf []).entries.length < (runOf []).count ∧
    (let e : ProvingEntry := ⟨0, .judged, 2200, none, none, ⟨false, false, false, true, false, false, false⟩, true⟩
     (runOf [e, e]).count ≤ (runOf [e, e]).entries.length ∧ (runOf [e, e]).entries.all (fun x => x.passed) = true) ∧
    ({ parcelOf 0 (.track 2 15) with proving := true } : Parcel).proving = true ∧
    (lastProof.powered = true ∧ lastProof.pin = false ∧ lastProof.track.counted 2 = [2] ∧ lastProof.track.tracks.length = 2 ∧
      lastProof.line.state = .proving ∧ lastProof.track.cells.get? (lastProof.track.cellOf 2 (trackOf []) 15) = some 0 ∧
      (lastProof.parcel.parcels.get? 0).map (fun p => p.proving) = some true ∧
      lastProof.comm.record.run.map (fun r => (r.entries.length + 1, r.count)) = some (1, 1) ∧ Room lastProof 8) := by decide +kernel
theorem test_witness_SavesBegin :
    Taken (ask plant .commission []) .commission (frame .commission []) ∧ Taken (ask ready .unlock []) .unlock (frame .unlock []) ∧
    Taken (ask running .storeSave []) .storeSave (frame .storeSave []) ∧
    (∃ run, ({ ready with comm := { ready.comm with record := ⟨.pass, some (runOf [])⟩ } } : State).comm.record = ⟨.pass, some run⟩ ∧
      run.noted = ready.comm.generation) ∧ ready.store.save = none ∧ (saving ready .store).store.save ≠ none := by
  refine ⟨by decide +kernel, by decide +kernel, by decide +kernel, ⟨_, rfl, rfl⟩, rfl, by decide +kernel⟩
theorem test_witness_SavesEnd :
    (saving plant .commission).store.save = some ⟨.commission, StoredSet.factory⟩ ∧ LockFollowsLine (saving plant .commission) ∧
    LockFollowsLine (saving ready .unlock) ∧ LockFollowsLine (saving running .store) ∧
    LockFollowsLine { saving ready .unlock with pin := true } := by
  refine ⟨rfl, ⟨?_, ?_⟩, ⟨?_, ?_⟩, ⟨?_, ?_⟩, ⟨?_, ?_⟩⟩ <;> decide +kernel

/-! #### Invariants -/

/-- A command waiting on states that meet the invariants, and answered by a next state. -/
theorem test_witness_invariants :
    LotsBalanced running ∧ TimeInRange running ∧ LinkInBounds running ∧ TablesCanonical running ∧ LockFollowsLine running ∧
    ProvingFollowsLine running ∧ ProvingFollowsLine proving ∧ TracksInOrder running ∧ UnitsNumbered running ∧
    (∃ t, step { running with pending := [.halt] } = .next t) := by
  refine ⟨by unfold LotsBalanced; decide +kernel, by unfold TimeInRange; decide +kernel, by unfold LinkInBounds; decide +kernel,
    by unfold TablesCanonical; decide +kernel, by unfold LockFollowsLine; decide +kernel, by unfold ProvingFollowsLine; decide +kernel,
    by unfold ProvingFollowsLine; decide +kernel, by unfold TracksInOrder; decide +kernel, by unfold UnitsNumbered; decide +kernel, ⟨_, rfl⟩⟩
theorem test_witness_ResetState : ({ base with draws := 0, pending := [] } : State).store.image = none := by decide

end Sys2Proof.Tests
end

section
/-! ## What the operations of the other blocks leave of line, lock, proving record and store

`State.lineView` holds the blocks that the line's invariants read. One lemma for each operation that leaves all of them as they
were; the operations that move the line follow in the next file. -/

namespace Sys2Proof.Machine

/-- The line reset pin, the line controller, the commissioning unit and the settings store. -/
structure LineView where
  pin : Bool
  line : LineUnit
  comm : CommissionUnit
  store : StoreUnit

/-- What the line's invariants read of a state. -/
def State.lineView (s : State) : LineView := ⟨s.pin, s.line, s.comm, s.store⟩

/-- Two states have the same view exactly when the four blocks agree. -/
theorem lineView_eq_iff {s t : State} :
    t.lineView = s.lineView ↔ t.pin = s.pin ∧ t.line = s.line ∧ t.comm = s.comm ∧ t.store = s.store := by
  simp [State.lineView]

theorem pin_of_lineView {s : State} {v : LineView} (h : s.lineView = v) : s.pin = v.pin := by rw [← h]; rfl
theorem line_of_lineView {s : State} {v : LineView} (h : s.lineView = v) : s.line = v.line := by rw [← h]; rfl
theorem comm_of_lineView {s : State} {v : LineView} (h : s.lineView = v) : s.comm = v.comm := by rw [← h]; rfl
theorem store_of_lineView {s : State} {v : LineView} (h : s.lineView = v) : s.store = v.store := by rw [← h]; rfl

/-! ### Updates of one block -/

section Updates
variable (s : State)

@[simp] theorem lineView_onTime (f : TimeUnit → TimeUnit) : (s.onTime f).lineView = s.lineView := rfl
@[simp] theorem lineView_onTrack (f : TrackUnit → TrackUnit) : (s.onTrack f).lineView = s.lineView := rfl
@[simp] theorem lineView_onParcel (f : ParcelUnit → ParcelUnit) : (s.onParcel f).lineView = s.lineView := rfl
@[simp] theorem lineView_onProbe (f : ProbeUnit → ProbeUnit) : (s.onProbe f).lineView = s.lineView := rfl
@[simp] theorem lineView_onCredit (f : CreditUnit → CreditUnit) : (s.onCredit f).lineView = s.lineView := rfl
@[simp] theorem lineView_onDist (f : DistributionUnit → DistributionUnit) : (s.onDist f).lineView = s.lineView := rfl
@[simp] theorem lineView_onTransfer (f : TransferUnit → TransferUnit) : (s.onTransfer f).lineView = s.lineView := rfl
@[simp] theorem lineView_onLink (f : LinkUnit → LinkUnit) : (s.onLink f).lineView = s.lineView := rfl
@[simp] theorem lineView_onTrackRec (n : Nat) (f : Track → Track) : (s.onTrackRec n f).lineView = s.lineView := rfl
@[simp] theorem lineView_onLane (n : Nat) (f : Lane → Lane) : (s.onLane n f).lineView = s.lineView := rfl
@[simp] theorem lineView_onPallet (r : Nat) (f : Pallet → Pallet) : (s.onPallet r f).lineView = s.lineView := rfl
@[simp] theorem lineView_onShuttle (f : Shuttle → Shuttle) : (s.onShuttle f).lineView = s.lineView := rfl
@[simp] theorem lineView_onChannel (c : Nat) (f : Channel → Channel) : (s.onChannel c f).lineView = s.lineView := rfl
@[simp] theorem lineView_setChain (c : Nat) (ch : Chain) : (s.setChain c ch).lineView = s.lineView := rfl

end Updates

/-! ### The shared operations -/

section Shared
variable (s : State)

@[simp] theorem lineView_arm (id : TimerId) (due : Nat) : (s.arm id due).lineView = s.lineView := rfl
@[simp] theorem lineView_armFor (id : TimerId) (ms : Nat) : (s.armFor id ms).lineView = s.lineView := rfl
@[simp] theorem lineView_cancel (id : TimerId) : (s.cancel id).lineView = s.lineView := rfl
@[simp] theorem lineView_cancelStalls : s.cancelStalls.lineView = s.lineView := rfl
@[simp] theorem lineView_armStalls : s.armStalls.lineView = s.lineView := by simp [lineView_eq_iff]
@[simp] theorem lineView_notify (b : NoticeBody) : (s.notify b).lineView = s.lineView := rfl
@[simp] theorem lineView_enter (b : NoticeBody) : (s.enter b).lineView = s.lineView := rfl
@[simp] theorem lineView_await (r : Retained) : (s.await r).lineView = s.lineView := rfl
@[simp] theorem lineView_withdraw (r : Retained) : (s.withdraw r).lineView = s.lineView := rfl
@[simp] theorem lineView_answer (f : Frame) (b : ReplyBody) : (s.answer f b).lineView = s.lineView := rfl
@[simp] theorem lineView_onLot (slot : Nat) (f : Lot → Lot) : (s.onLot slot f).lineView = s.lineView := rfl
@[simp] theorem lineView_newLot (slot : Nat) (l : Lot) : (s.newLot slot l).lineView = s.lineView := rfl
@[simp] theorem lineView_markParcels (p : Parcel → Bool) (f : Parcel → Parcel) : (s.markParcels p f).lineView = s.lineView := rfl
@[simp] theorem lineView_enterSummary (slot : Nat) : (s.enterSummary slot).lineView = s.lineView := by simp [lineView_eq_iff]
@[simp] theorem lineView_retireTest (slot : Nat) : (s.retireTest slot).lineView = s.lineView := by simp [lineView_eq_iff]
@[simp] theorem lineView_makeCurrent (slot : Nat) : (s.makeCurrent slot).lineView = s.lineView := by simp [lineView_eq_iff]
@[simp] theorem lineView_dropCurrent : s.dropCurrent.lineView = s.lineView := by simp [lineView_eq_iff]
@[simp] theorem lineView_holdCounters : s.holdCounters.lineView = s.lineView := rfl
@[simp] theorem lineView_clearBacked : s.clearBacked.lineView = s.lineView := rfl
@[simp] theorem lineView_releaseSync : s.releaseSync.lineView = s.lineView := by simp [lineView_eq_iff]
@[simp] theorem lineView_setLatch (x : TripSource) (b : Bool) : (s.setLatch x b).lineView = s.lineView := rfl
@[simp] theorem lineView_markZone (x : TripSource) : (s.markZone x).lineView = s.lineView := by simp [lineView_eq_iff]
@[simp] theorem lineView_finish : s.finish.lineView = s.lineView := by simp [lineView_eq_iff]

end Shared

/-! ### Credit -/

section Credit
variable (s : State)

@[simp] theorem lineView_sampleParcels (c : Nat) (wasStale : Bool) (f : Parcel → Parcel) :
    (s.sampleParcels c wasStale f).lineView = s.lineView := by
  rw [State.sampleParcels_frame]; rfl

@[simp] theorem lineView_creditSample (c : Nat) (v : Int) (t : Nat) (wasStale : Bool) :
    (s.creditSample c v t wasStale).lineView = s.lineView := by
  rw [State.creditSample_frame]; rfl

@[simp] theorem lineView_creditStale (c : Nat) : (s.creditStale c).lineView = s.lineView := rfl

@[simp] theorem lineView_discardChains : s.discardChains.lineView = s.lineView := rfl

end Credit

/-! ### Lanes, gates and bags -/

section Lanes
variable (s : State)

@[simp] theorem lineView_applyClassMap : s.applyClassMap.lineView = s.lineView := rfl

@[simp] theorem lineView_sealLane (n stamp : Nat) : (s.sealLane n stamp).lineView = s.lineView := by
  unfold State.sealLane
  split <;> simp

@[simp] theorem lineView_closeGate (pending : Option Nat) : (s.closeGate pending).lineView = s.lineView := rfl

@[simp] theorem lineView_requestGate (b : Nat) : (s.requestGate b).lineView = s.lineView := by
  unfold State.requestGate
  (repeat' split) <;> simp

@[simp] theorem lineView_requestLaneZero : s.requestLaneZero.lineView = s.lineView := by
  unfold State.requestLaneZero
  split <;> simp

@[simp] theorem lineView_openPending : s.openPending.lineView = s.lineView := rfl

@[simp] theorem lineView_unblock : s.unblock.lineView = s.lineView := by
  unfold State.unblock
  split <;> simp

@[simp] theorem lineView_freeBag (k : Nat) : (s.freeBag k).lineView = s.lineView := by
  unfold State.freeBag
  split <;> simp

end Lanes

/-! ### Pallets and the shuttle -/

section Transfer
variable (s : State)

@[simp] theorem lineView_grant (r : Nat) (p : Pallet) : (s.grant r p).lineView = s.lineView := rfl

@[simp] theorem lineView_arbitrate : s.arbitrate.lineView = s.lineView := by
  unfold State.arbitrate
  (repeat' split) <;> simp

@[simp] theorem lineView_becomeReady (r : Nat) : (s.becomeReady r).lineView = s.lineView := by simp [State.becomeReady]

@[simp] theorem lineView_createPallet (r : Nat) (b : Bag) : (s.createPallet r b).lineView = s.lineView := rfl

@[simp] theorem lineView_countOnto (r k : Nat) : (s.countOnto r k).lineView = s.lineView := by
  unfold State.countOnto
  split
  · dsimp only
    split <;> simp
  · rfl

@[simp] theorem lineView_countNew (k : Nat) (b : Bag) : (s.countNew k b).1.lineView = s.lineView := by
  unfold State.countNew
  split <;> simp

@[simp] theorem lineView_tryCount (k : Nat) : (s.tryCount k).1.lineView = s.lineView := by
  unfold State.tryCount
  (repeat' split) <;> simp

@[simp] theorem lineView_waitBag (number : Nat) : (s.waitBag number).lineView = s.lineView := rfl

@[simp] theorem lineView_submitBag (k : Nat) (b : Bag) : (s.submitBag k b).lineView = s.lineView := by
  unfold State.submitBag
  split
  · rfl
  · dsimp only
    split <;> simp

@[simp] theorem lineView_walk (numbers lanes : List Nat) : (walk numbers lanes s).1.lineView = s.lineView := by
  induction numbers generalizing lanes s with
  | nil => rfl
  | cons number rest ih =>
    unfold walk
    split
    · exact ih ..
    · dsimp only
      split
      · exact ih ..
      · split <;> simp [ih]

@[simp] theorem lineView_walkWaiting : s.walkWaiting.lineView = s.lineView := by simp [State.walkWaiting]

@[simp] theorem lineView_freePallet (r : Nat) : (s.freePallet r).lineView = s.lineView := by
  unfold State.freePallet
  split <;> simp

@[simp] theorem lineView_enterTransfer (r part : Nat) : (s.enterTransfer r part).lineView = s.lineView := by
  unfold State.enterTransfer
  split <;> simp

@[simp] theorem lineView_enterLast (r part : Nat) : (s.enterLast r part).lineView = s.lineView := by simp [State.enterLast]

@[simp] theorem lineView_offerLast (r part : Nat) : (s.offerLast r part).lineView = s.lineView := by
  unfold State.offerLast
  split <;> simp

@[simp] theorem lineView_enterPart (r part : Nat) : (s.enterPart r part).lineView = s.lineView := by
  unfold State.enterPart
  (repeat' split) <;> simp

@[simp] theorem lineView_offerPart (r part : Nat) : (s.offerPart r part).lineView = s.lineView := by
  unfold State.offerPart
  split <;> simp

@[simp] theorem lineView_weigh (k : Nat) (b : Bag) (grams : Nat) : (s.weigh k b grams).1.lineView = s.lineView := by
  unfold State.weigh
  dsimp only
  split <;> simp

@[simp] theorem lineView_returnPallet (r : Nat) (p : Pallet) : (s.returnPallet r p).lineView = s.lineView := by
  unfold State.returnPallet
  (repeat' split) <;> simp

@[simp] theorem lineView_accepted : s.accepted.lineView = s.lineView := by
  unfold State.accepted State.unexpected
  split <;> simp

@[simp] theorem lineView_loaded : s.loaded.lineView = s.lineView := by
  unfold State.loaded State.unexpected
  (repeat' split) <;> simp

@[simp] theorem lineView_jobDone : s.jobDone.lineView = s.lineView := by
  unfold State.jobDone State.unexpected
  (repeat' split) <;> simp

@[simp] theorem lineView_storePallet (r : Nat) : (s.storePallet r).lineView = s.lineView := by
  unfold State.storePallet
  split <;> simp

@[simp] theorem lineView_recoverShuttle : s.recoverShuttle.lineView = s.lineView := by
  unfold State.recoverShuttle
  dsimp only
  split <;> simp

end Transfer

/-! ### The lane choice -/

section Distribution
variable (s : State)

@[simp] theorem lineView_toLaneZero (c : LaneZeroCause) : (s.toLaneZero c).1.lineView = s.lineView := by
  simp [State.toLaneZero, State.countLaneZero]

@[simp] theorem lineView_joinBag (k n : Nat) (p : Parcel) : (s.joinBag k n p).lineView = s.lineView := by
  unfold State.joinBag
  dsimp only
  (repeat' split) <;> simp

@[simp] theorem lineView_divert (n stamp : Nat) (p : Parcel) : (s.divert n stamp p).1.lineView = s.lineView := by
  unfold State.divert
  split
  · simp
  · split <;> simp [State.openBag]

@[simp] theorem lineView_passGate (n : Nat) (p : Parcel) (stamp : Nat) : (s.passGate n p stamp).1.lineView = s.lineView := by
  unfold State.passGate
  dsimp only
  split <;> simp [State.countRun, State.countLaneZero]

@[simp] theorem lineView_useLane (n : Nat) (p : Parcel) (stamp : Nat) : (s.useLane n p stamp).1.lineView = s.lineView := by
  unfold State.useLane
  dsimp only
  split <;> simp

@[simp] theorem lineView_chooseLane (e : ClassEntry) (p : Parcel) (stamp : Nat) :
    (s.chooseLane e p stamp).1.lineView = s.lineView := by
  unfold State.chooseLane
  dsimp only
  split <;> simp [State.lotBreak]

@[simp] theorem lineView_distribute (p : Parcel) (v : VerdictRecord) : (s.distribute p v).1.lineView = s.lineView := by
  unfold State.distribute
  (repeat' split) <;> simp

end Distribution

/-! ### Parcels, declarations and the index -/

section Index
variable (s : State)

@[simp] theorem lineView_retireParcel (k slot : Nat) (f : Lot → Lot) : (s.retireParcel k slot f).lineView = s.lineView := by
  simp [State.retireParcel]

@[simp] theorem lineView_createParcel (slot : Nat) (l : Lot) (k stamp : Nat) :
    (s.createParcel slot l k stamp).lineView = s.lineView := rfl

@[simp] theorem lineView_applyDeclaration (stamp : Nat) : (s.applyDeclaration stamp).lineView = s.lineView := by
  unfold State.applyDeclaration State.revive State.tableFull
  (repeat' split) <;> simp

@[simp] theorem lineView_joinQueue (k n place : Nat) : (s.joinQueue k n place).lineView = s.lineView := rfl

@[simp] theorem lineView_advance (n stamp : Nat) : (s.advance n stamp).lineView = s.lineView := rfl

@[simp] theorem lineView_place (k n stamp : Nat) : (s.place k n stamp).lineView = s.lineView := by
  unfold State.place
  split <;> simp

@[simp] theorem lineView_recover (n : Nat) : (s.recover n).lineView = s.lineView := by
  unfold State.recover
  (repeat' split) <;> simp

@[simp] theorem lineView_takeQueue (n stamp : Nat) : (s.takeQueue n stamp).lineView = s.lineView := by
  unfold State.takeQueue
  split <;> simp

@[simp] theorem lineView_fill (n : Nat) (presence : Bool) (stamp : Nat) : (s.fill n presence stamp).lineView = s.lineView := by
  unfold State.fill
  (repeat' split) <;> simp

@[simp] theorem lineView_applyStaged (n stamp : Nat) : (s.applyStaged n stamp).lineView = s.lineView := by
  unfold State.applyStaged
  dsimp only
  (repeat' split) <;> simp

@[simp] theorem lineView_indexNotice (n : Nat) (moved : Bool) (stamp : Nat) : (s.indexNotice n moved stamp).lineView = s.lineView := by
  unfold State.indexNotice
  (repeat' split) <;> simp

end Index

/-! ### Probes and the link -/

section Probes
variable (s : State)

@[simp] theorem lineView_restartChannel (c : Nat) (enabled : Bool) : (s.restartChannel c enabled).lineView = s.lineView := rfl

@[simp] theorem lineView_setChannel (c address : Nat) (enabled : Bool) (role : Role) :
    (s.setChannel c address enabled role).lineView = s.lineView := by
  unfold State.setChannel
  split
  · rfl
  · dsimp only
    split <;> simp

@[simp] theorem lineView_setRoute (x : TripSource) (r : Route) : (s.setRoute x r).lineView = s.lineView := rfl

@[simp] theorem lineView_beginRound : s.beginRound.lineView = s.lineView := rfl

@[simp] theorem lineView_enterOldest : s.enterOldest.lineView = s.lineView := by
  unfold State.enterOldest
  split <;> simp

@[simp] theorem lineView_frameSent : s.frameSent.lineView = s.lineView := by
  unfold State.frameSent
  (repeat' split) <;> simp

@[simp] theorem lineView_answerUnknown : s.answerUnknown.lineView = s.lineView := by
  unfold State.answerUnknown
  (repeat' split) <;> simp

@[simp] theorem lineView_removeTrack (n : Nat) : (s.removeTrack n).lineView = s.lineView := rfl

end Probes

end Sys2Proof.Machine
end

section
/-! ## The lock follows the line (chapter 1, R12, R15, R172, R173)

Inside a step a run may end between the indices of two tracks (R169), so the invariant that every part of a step keeps joins to
`LockFollowsLine` what `ProvingFollowsLine` says of a RUNNING record. -/

namespace Sys2Proof.Machine

/-! ### The invariant of the parts of a step -/

/-- A RUNNING record stands in PROVING alone, with the pin released, and holds a run (R166). -/
def RunningInProving (s : State) : Prop :=
  s.comm.record.result = .running → s.pin = false ∧ s.line.state = .proving ∧ s.comm.record.run.isSome = true

/-- What every part of a step keeps: the lock follows the line, and a RUNNING record stands in PROVING alone. -/
def LineInv (s : State) : Prop := LockFollowsLine s ∧ RunningInProving s

theorem LineInv.lock {s : State} (h : LineInv s) : LockFollowsLine s := h.1

/-- A save in flight fits lock and line. -/
theorem LineInv.saving {s : State} (h : LineInv s) : saveFits s = true := h.lock.2

/-- A RUNNING record holds a run. -/
theorem LineInv.hasRun {s : State} (h : LineInv s) (hr : s.comm.record.result = .running) : s.comm.record.run.isSome = true := by
  obtain ⟨-, -, hrun⟩ := h.2 hr
  exact hrun

/-- While the pin is released the line record fits the lock. -/
theorem LineInv.fits {s : State} (h : LineInv s) (hp : s.pin = false) : lockFits s.line s.comm.locked = true := by
  simpa [hp] using h.1.1

theorem LineInv.of_follows {s : State} (hl : LockFollowsLine s) (hp : ProvingFollowsLine s) : LineInv s := by
  refine ⟨hl, fun hr => ?_⟩
  obtain ⟨hstate, hrun, -, -⟩ := hp
  cases hpin : s.pin with
  | true => simp [hpin, hr] at hstate
  | false => exact ⟨rfl, by simpa [hpin, hr] using hstate, hrun hr⟩

/-- The invariant reads nothing but the view. -/
theorem lineInv_congr {s t : State} (h : t.lineView = s.lineView) : LineInv t ↔ LineInv s := by
  obtain ⟨hp, hl, hc, hs⟩ := lineView_eq_iff.mp h
  simp only [LineInv, LockFollowsLine, saveFits, RunningInProving, hp, hl, hc, hs]

/-- An operation that leaves the view keeps the invariant. -/
theorem LineInv.of_view {s t : State} (h : LineInv s) (hv : t.lineView = s.lineView) : LineInv t := (lineInv_congr hv).mpr h

/-- No COMMISSION and no UNLOCK save is in flight. -/
def NoLockSave (s : State) : Prop := ∀ v, s.store.save = some v → v.kind = .store

theorem NoLockSave.saveFits {s : State} (h : NoLockSave s) : saveFits s = true := by
  unfold Machine.saveFits
  split
  · next hs => exact absurd (h _ hs) (by simp)
  · next hs => exact absurd (h _ hs) (by simp)
  · rfl
  · rfl

/-- While the pin is released a COMMISSION save stands in SETUP and an UNLOCK save in READY alone (R172, R173). -/
theorem LineInv.noLockSave {s : State} (h : LineInv s) (hp : s.pin = false)
    (hc : s.line.state = .setup → s.store.commissioning = false) (hu : s.line.state = .ready → s.store.unlocking = false) :
    NoLockSave s := by
  intro v hv
  have hfit := h.saving
  obtain ⟨kind, image⟩ := v
  cases kind with
  | store => rfl
  | commission =>
    have hstate : s.line.state = .setup := by simp [saveFits, hv, hp] at hfit; exact hfit.2
    simp [StoreUnit.commissioning, hv] at hc
    exact absurd hstate hc
  | unlock =>
    have hstate : s.line.state = .ready := by simp [saveFits, hv, hp] at hfit; exact hfit.2
    simp [StoreUnit.unlocking, hv] at hu
    exact absurd hstate hu

/-- A line that is moving, or halted, has no COMMISSION and no UNLOCK save in flight. -/
theorem LineInv.noLockSave_of_away {s : State} (h : LineInv s) (hp : s.pin = false) (h1 : s.line.state ≠ .setup)
    (h2 : s.line.state ≠ .ready) : NoLockSave s :=
  h.noLockSave hp (fun e => absurd e h1) (fun e => absurd e h2)

/-- A new line record that fits the lock, with no save that moves the lock. -/
theorem LineInv.of_line {s t : State} (hn : NoLockSave s) (hs : t.store.save = s.store.save)
    (hf : lockFits t.line t.comm.locked = true) (hr : RunningInProving t) : LineInv t :=
  ⟨⟨by simp [hf], NoLockSave.saveFits (by simpa [NoLockSave, hs] using hn)⟩, hr⟩

/-- Outside PROVING no record is RUNNING. -/
theorem LineInv.notRunning {s : State} (h : LineInv s) (hs : s.line.state ≠ .proving) : s.comm.record.result ≠ .running :=
  fun hr => hs (h.2 hr).2.1

/-! ### Halts -/

/-- R170: a RUNNING record that holds a run ends ABORTED. -/
theorem State.endProving_record {s : State} (h : s.comm.record.result = .running → s.comm.record.run.isSome = true) :
    s.endProving.comm.record.result ≠ .running := by
  unfold State.endProving
  split
  · simp
  · next hne =>
    intro hr
    obtain ⟨r, he⟩ := Option.isSome_iff_exists.mp (h hr)
    exact hne r hr he

/-- R170: the end of a proving run leaves the lock. -/
@[simp] theorem State.endProving_locked (s : State) : s.endProving.comm.locked = s.comm.locked := by
  unfold State.endProving
  split <;> simp

theorem State.abortProving_record {s : State} (h : s.comm.record.result = .running → s.comm.record.run.isSome = true) :
    s.abortProving.comm.record.result ≠ .running := by
  unfold State.abortProving
  split
  · exact State.endProving_record h
  · assumption

@[simp] theorem State.abortProving_locked (s : State) : s.abortProving.comm.locked = s.comm.locked := by
  unfold State.abortProving
  split <;> simp

/-- R8: a halt leaves the lock. -/
@[simp] theorem State.enterHalted_locked (s : State) (cause : HaltCause) :
    (s.enterHalted cause).comm.locked = s.comm.locked := by
  unfold State.enterHalted
  dsimp only
  split <;> split <;> simp

/-- R170: after a halt no record is RUNNING. -/
theorem LineInv.enterHalted_notRunning {s : State} (h : LineInv s) (cause : HaltCause) :
    (s.enterHalted cause).comm.record.result ≠ .running := by
  unfold State.enterHalted
  dsimp only
  split
  · refine State.abortProving_record fun hr => ?_
    split at hr <;> split <;> exact h.hasRun (by simpa using hr)
  · next hs => split <;> simpa using h.notRunning hs

/-- R1: a halt keeps the lock of the state it leaves. -/
theorem lockFits_halted {u : LineUnit} {locked : Bool} (cause : Option HaltCause) (h : lockFits u locked = true)
    (hr : u.state.runs = true) :
    lockFits { u with state := .halted, origin := some u.state, cause := cause } locked = true := by
  obtain ⟨state, origin, c, d⟩ := u
  cases state <;> cases origin <;> simp_all [lockFits, LineState.runs]

theorem LineState.runs_away {l : LineState} (h : l.runs = true) : l ≠ .setup ∧ l ≠ .ready := by
  cases l <;> simp_all [LineState.runs]

/-- R7, R8: the entry to HALTED keeps the invariant. -/
theorem LineInv.enterHalted {s : State} (h : LineInv s) (hp : s.pin = false) (hr : s.line.state.runs = true) (cause : HaltCause) :
    LineInv (s.enterHalted cause) := by
  obtain ⟨h1, h2⟩ := LineState.runs_away hr
  refine .of_line (h.noLockSave_of_away hp h1 h2) (by simp) ?_ fun hx => absurd hx (h.enterHalted_notRunning cause)
  rw [State.enterHalted_line, State.enterHalted_locked]
  exact lockFits_halted _ (h.fits hp) hr

theorem LineInv.raiseHalt {s : State} (h : LineInv s) (cause : HaltCause) : LineInv (s.raiseHalt cause) := by
  unfold State.raiseHalt
  split
  · next hc => exact h.enterHalted hc.2 hc.1 cause
  · exact h

/-- R5: the end of a drain keeps the invariant. -/
theorem LineInv.emptyTest {s : State} (h : LineInv s) : LineInv s.emptyTest := by
  unfold State.emptyTest
  split
  · next hc =>
    have hstate := hc.1
    have hrun : s.comm.record.result ≠ .running := h.notRunning (by simp [hstate])
    have hrun' : RunningInProving (((s.cancel .drain).cancelStalls.holdCounters.clearBacked).setLine .ready none none .drained .absent) :=
      fun hx => absurd hx (by simpa using hrun)
    cases hp : s.pin with
    | true =>
      refine ⟨⟨by simp [hp], ?_⟩, hrun'⟩
      have hsave := h.saving
      simpa [saveFits, hp] using hsave
    | false =>
      refine .of_line (h.noLockSave_of_away hp (by simp [hstate]) (by simp [hstate])) (by simp) ?_ hrun'
      have hfit := h.fits hp
      cases ho : s.line.origin <;> simp_all [lockFits]
  · exact h

/-! ### Trip events -/

theorem LineInv.fire {s : State} (h : LineInv s) (x : TripSource) (cause : TripCause) (pallet time : Nat) :
    LineInv (s.fire x cause pallet time) := by
  have hmark : ∀ u : State, LineInv u → LineInv (if (s.route x).markZone then u.markZone x else u) := fun u hu =>
    hu.of_view (by split <;> simp)
  have hnote : LineInv (if (s.route x).notify then
      (s.setLatch x true).notify (.trip x cause (s.tripChannel x) pallet (s.route x) time) else s.setLatch x true) :=
    h.of_view (by split <;> simp)
  unfold State.fire
  dsimp only
  split
  · exact (hmark _ hnote).raiseHalt _
  · exact hmark _ hnote

theorem LineInv.reform {s : State} (h : LineInv s) (c : Nat) (cause : TripCause) (time : Nat) :
    LineInv (s.reform c cause time) := by
  unfold State.reform
  split
  · refine State.each_induct LineInv _ _ _ (h.of_view (by simp)) fun l _ t ht => ?_
    split
    · exact ht.fire ..
    · exact ht
  · exact h

/-- R8: at rest, an event fires without a halt. -/
theorem lineView_fire_rest {s : State} (h : s.line.state.runs = false) (x : TripSource) (cause : TripCause) (pallet time : Nat) :
    (s.fire x cause pallet time).lineView = s.lineView := by
  unfold State.fire
  dsimp only
  split
  · rw [State.raiseHalt_rest]
    · (repeat' split) <;> simp
    · (repeat' split) <;> simpa using h
  · (repeat' split) <;> simp

/-- R8: at rest, conditions are formed again without a halt. -/
theorem lineView_reform_rest {s : State} (h : s.line.state.runs = false) (c : Nat) (cause : TripCause) (time : Nat) :
    (s.reform c cause time).lineView = s.lineView := by
  unfold State.reform
  split
  · refine State.each_induct (fun t => t.lineView = s.lineView) _ _ _ (by simp) fun l _ t ht => ?_
    obtain ⟨-, hline, -⟩ := lineView_eq_iff.mp ht
    split
    · rw [lineView_fire_rest (by rw [hline]; exact h), ht]
    · exact ht
  · rfl

theorem LineInv.reformBound {s : State} (h : LineInv s) (time : Nat) (b : Option (Nat × LevelName)) :
    LineInv (s.reformBound time b) := by
  unfold State.reformBound
  split
  · exact h.reform ..
  · exact h

/-! ### The probe unit -/

theorem LineInv.bind {s : State} (h : LineInv s) (input : Nat) (b : Option (Nat × LevelName)) : LineInv (s.bind input b) := by
  unfold State.bind
  split
  · exact LineInv.reformBound (LineInv.reformBound (h.of_view (by simp)) ..) ..
  · exact h

theorem LineInv.goodSample {s : State} (h : LineInv s) (c : Nat) (raw : Int) (stamp : Nat) : LineInv (s.goodSample c raw stamp) := by
  unfold State.goodSample
  split
  · exact h
  · have hcredit : ∀ (t : State) (v : Int) (w : Bool), LineInv t →
        LineInv (if t.track.watchesBlanch c then t.creditSample c v stamp w else t) := fun t v w ht =>
      ht.of_view (by split <;> simp)
    refine hcredit _ _ _ (LineInv.reform ?_ ..)
    split <;> exact h.of_view (by simp)

theorem LineInv.missed {s : State} (h : LineInv s) (c : Nat) (cause : MissCause) : LineInv (s.missed c cause) := by
  unfold State.missed
  split
  · exact h
  · dsimp only
    split
    · exact LineInv.of_view (LineInv.fire (h.of_view (lineView_onChannel ..)) ..) (lineView_creditStale ..)
    · exact h.of_view (by simp)

theorem LineInv.judgeFrame {s : State} (h : LineInv s) (e : Exchange) (frame : List Byte) : LineInv (s.judgeFrame e frame) := by
  unfold State.judgeFrame
  split
  · split
    · split
      · exact LineInv.missed (h.of_view (by simp)) ..
      · exact h.goodSample ..
    · exact h.missed ..
  · exact h

theorem LineInv.endExchange {s : State} (h : LineInv s) (e : Exchange) (outcome : State → State)
    (ho : LineInv (outcome s)) : LineInv (s.endExchange e outcome) := by
  unfold State.endExchange
  dsimp only
  split
  · exact h.of_view (by simp)
  · exact ho.of_view (by simp)

theorem LineInv.sampleBytes {s : State} (h : LineInv s) (bytes : List Byte) : LineInv (s.sampleBytes bytes) := by
  unfold State.sampleBytes
  split
  · exact h
  · split
    · dsimp only
      split
      · exact h.endExchange _ _ (h.judgeFrame ..)
      · exact h.of_view (by simp)
    · exact h

theorem LineInv.closeWindow {s : State} (h : LineInv s) : LineInv s.closeWindow := by
  unfold State.closeWindow
  split
  · exact h
  · split
    · exact h
    · exact h.endExchange _ _ (h.missed ..)

theorem LineInv.externalEdge {s : State} (h : LineInv s) (i : Nat) (rising : Bool) (stamp : Nat) :
    LineInv (s.externalEdge i rising stamp) := by
  unfold State.externalEdge
  split
  · exact LineInv.reformBound (h.of_view (by simp)) ..
  · exact h

/-! ### The transfer unit -/

theorem LineInv.expose {s : State} (h : LineInv s) (r : Nat) (p : Pallet) : LineInv (s.expose r p) :=
  LineInv.of_view (LineInv.fire (h.of_view (lineView_onPallet ..)) ..) (lineView_notify ..)

theorem LineInv.exposureExpired {s : State} (h : LineInv s) (r : Nat) : LineInv (s.exposureExpired r) := by
  unfold State.exposureExpired
  split
  · exact h
  · split
    · exact h
    · split
      · exact (h.expose ..).of_view (lineView_becomeReady ..)
      · exact h.expose ..

theorem LineInv.faultShuttle {s : State} (h : LineInv s) (cause : ShuttleCause) : LineInv (s.faultShuttle cause) := by
  unfold State.faultShuttle
  dsimp only
  split
  all_goals exact LineInv.fire (h.of_view (by simp)) ..

theorem LineInv.doorPass {s : State} (h : LineInv s) (r stamp : Nat) : LineInv (s.doorPass r stamp) := by
  unfold State.doorPass State.judgeDoor
  dsimp only
  refine LineInv.of_view ?_ (lineView_storePallet ..)
  split
  · split
    · exact LineInv.expose (h.of_view (by simp)) ..
    · exact h.of_view (by simp)
  · exact h.of_view (by simp)

theorem LineInv.doorEdge {s : State} (h : LineInv s) (stamp : Nat) : LineInv (s.doorEdge stamp) := by
  unfold State.doorEdge
  split
  · split
    · exact h.of_view (by simp)
    · split
      · exact h.doorPass ..
      · exact h
  · exact h.of_view (by simp)

/-! ### The index -/

/-- R164, R168: an update of the commissioning unit that keeps lock, result and the presence of a run. -/
theorem LineInv.of_comm {s t : State} (h : LineInv s) (hp : t.pin = s.pin) (hl : t.line = s.line) (hs : t.store = s.store)
    (hk : t.comm.locked = s.comm.locked)
    (hr : t.comm.record.result = .running → s.comm.record.result = .running ∧ t.comm.record.run.isSome = true) : LineInv t := by
  refine ⟨?_, fun hx => ?_⟩
  · simpa only [LockFollowsLine, saveFits, hp, hl, hs, hk] using h.1
  · obtain ⟨h1, h2, -⟩ := h.2 (hr hx).1
    exact ⟨hp.trans h1, (congrArg LineUnit.state hl).trans h2, (hr hx).2⟩

theorem LineInv.edited {s : State} (h : LineInv s) : LineInv s.edited := by
  refine h.of_comm rfl rfl rfl rfl fun hr => ?_
  by_cases hpass : s.comm.record.result = .pass
  · simp [State.edited, hpass, ProvingRecord.blank] at hr
  · simp only [State.edited, State.onComm_comm, if_neg hpass] at hr ⊢
    exact ⟨hr, h.hasRun hr⟩

theorem LineInv.takeEntry {s : State} (h : LineInv s) (p : Parcel) (entry : ProvingRun → ProvingEntry) :
    LineInv (s.takeEntry p entry) := by
  unfold State.takeEntry
  split
  · next hr _ => exact h.of_comm rfl rfl rfl rfl fun _ => ⟨hr, rfl⟩
  · exact h

theorem LineInv.outfeed {s : State} (h : LineInv s) (k : Nat) (p : Parcel) (stamp : Nat) : LineInv (s.outfeed k p stamp) := by
  unfold State.outfeed
  dsimp only
  refine LineInv.emptyTest (LineInv.of_view (LineInv.takeEntry (h.of_view ?_) ..) (lineView_retireParcel ..))
  split <;> simp

theorem LineInv.backpressure {s : State} (h : LineInv s) (k n : Nat) (p : Parcel) (stamp : Nat) :
    LineInv (s.backpressure k n p stamp) :=
  LineInv.emptyTest ((h.takeEntry p fun _ => lostEntry p).of_view (by simp))

theorem LineInv.depart {s : State} (h : LineInv s) (n : Nat) (t : Track) (stamp : Nat) : LineInv (s.depart n t stamp) := by
  have hcell : ∀ cell, LineInv (s.onTrack fun u => { u with cells := u.cells.del cell }) := fun cell => h.of_view (by simp)
  unfold State.depart
  dsimp only
  split
  · exact h
  · split
    · exact hcell _
    · split
      · exact (hcell _).outfeed ..
      · split
        · exact (hcell _).of_view (lineView_joinQueue ..)
        · exact (hcell _).backpressure ..

/-- R12, R169: the completion of a run takes the line from PROVING, which is UNLOCKED, to SETUP. -/
theorem LineInv.completeProving {s : State} (h : LineInv s) : LineInv s.completeProving := by
  unfold State.completeProving
  split
  · next hr _ =>
    split
    · obtain ⟨hp, hstate, -⟩ := h.2 hr
      have hfit := h.fits hp
      refine .of_line (h.noLockSave_of_away hp (by simp [hstate]) (by simp [hstate])) (by simp [State.endProvingLine]) ?_ ?_
      · cases ho : s.line.origin <;> simp_all [lockFits, State.endProvingLine]
      · intro hx
        refine absurd hx ?_
        simp only [State.endProvingLine, State.setLine_comm, State.holdCounters_comm, State.cancelStalls_comm,
          State.notify_comm, State.dropCurrent_comm, State.onComm_comm]
        split <;> simp
    · exact h
  · exact h

theorem LineInv.index {s : State} (h : LineInv s) (n : Nat) (t : Track) (presence : Bool) (stamp : Nat) :
    LineInv (s.index n t presence stamp) :=
  LineInv.completeProving ((h.depart n t stamp).of_view (by simp))

theorem LineInv.pulse {s : State} (h : LineInv s) (presence : Bool) (n : Nat) : LineInv (s.pulse presence n) := by
  unfold State.pulse
  split
  · exact h
  · split
    · dsimp only
      split
      · exact h.of_view (by split <;> simp)
      · exact LineInv.index (h.of_view (by split <;> simp)) ..
    · exact h

theorem LineInv.encoder {s : State} (h : LineInv s) (input : Nat) (presence : Bool) : LineInv (s.encoder input presence) := by
  unfold State.encoder
  dsimp only
  split
  · exact State.each_induct LineInv _ _ _ (h.of_view rfl) fun n _ t ht => ht.pulse presence n
  · exact State.each_induct LineInv _ _ _ h fun n _ t ht => ht.pulse presence n

end Sys2Proof.Machine
end

section
/-! ## The lock follows the line: every command

The availability table (R13), the owners of the requests and the events, each with the part of `LineInv` it has to keep; then the
step. -/

namespace Sys2Proof.Machine

/-! ### The availability table (R13) -/

/-- R13: the cells 'Yes'. -/
theorem cell_yes_iff (r : Request) (l : LineState) : r.cell l = .yes ↔ l ∈ admittedIn r := by
  cases r <;> cases l <;> decide

/-- R13: the cells 'Lock' are those of the nine edits outside SETUP. -/
theorem cell_lock_iff (r : Request) (l : LineState) : r.cell l = .lock ↔ lockedRow r = true ∧ l ∉ admittedIn r := by
  cases r <;> cases l <;> decide

/-- R13: a request passes to its own checks exactly in the cells 'Yes'. -/
theorem unavailable_none_iff (s : State) (r : Request) : s.unavailable r = none ↔ s.line.state ∈ admittedIn r := by
  rw [← cell_yes_iff, State.unavailable]
  cases r.cell s.line.state with
  | yes => simp
  | no => simp
  | lock => cases s.comm.locked <;> simp

/-- R13: what the table answers outside the cells 'Yes'. -/
theorem unavailable_some (s : State) (r : Request) (h : s.line.state ∉ admittedIn r) :
    s.unavailable r = some (if lockedRow r = true ∧ s.comm.locked = true then .locked else .wrongState) := by
  have hlock := cell_lock_iff r s.line.state
  have hyes := cell_yes_iff r s.line.state
  rw [State.unavailable]
  cases hc : r.cell s.line.state with
  | yes => exact absurd (hyes.mp hc) h
  | no =>
    have hrow : lockedRow r ≠ true := fun e => by simp [hc, e, h] at hlock
    simp [hrow]
  | lock =>
    have hrow : lockedRow r = true := (hlock.mp hc).1
    cases s.comm.locked <;> simp [hrow]

/-! ### Taking a command -/

theorem LineInv.act {s t : State} {effect : State → State} (h : LineInv s) (hc : s.act effect = .next t)
    (he : LineInv (effect s)) : LineInv t := by
  cases hp : s.powered with
  | true =>
    rw [State.act_powered _ _ hp] at hc
    cases hc
    exact he.of_view (lineView_finish _)
  | false =>
    rw [State.act_unpowered _ _ hp] at hc
    cases hc
    exact h

/-- A request keeps the invariant when its owner does, with the pin released and in the line states of its row. -/
theorem LineInv.handOn {α : Type} {s : State} (h : LineInv s) {r : Request} {parse : List Byte → Option α}
    {owner : α → State → State × ReplyBody}
    (ho : s.pin = false → s.line.state ∈ admittedIn r → ∀ a, LineInv (owner a s).1) : LineInv (s.handOn r parse owner) := by
  unfold State.handOn
  split
  · exact h
  · next hp =>
    split
    · exact h
    · split
      · split
        · exact h.of_view (by simp)
        · split
          · exact h.of_view (by simp)
          · next a _ _ hu =>
            exact (ho (by simpa using hp) ((unavailable_none_iff _ _).mp hu) a).of_view (lineView_answer ..)
      · exact h

/-- A request whose owner leaves the view. -/
theorem LineInv.handOn_view {α : Type} {s : State} (h : LineInv s) {r : Request} {parse : List Byte → Option α}
    {owner : α → State → State × ReplyBody} (ho : ∀ a, (owner a s).1.lineView = s.lineView) : LineInv (s.handOn r parse owner) :=
  h.handOn fun _ _ a => h.of_view (ho a)

theorem LineInv.deliver {s : State} (h : LineInv s) {i : FieldInput} {owner : Edge → State → State}
    (ho : ∀ e t, LineInv t → LineInv (owner e t)) : LineInv (s.deliver i owner) := by
  unfold State.deliver
  split
  · exact ho _ _ (h.of_view (by simp))
  · exact h

theorem LineInv.expire {s : State} (h : LineInv s) {id : TimerId} {owner : State → State}
    (ho : ∀ t, LineInv t → t.pin = false → LineInv (owner t)) : LineInv (s.expire id owner) := by
  have ht : LineInv (s.onTime fun u => { u with expired := u.expired.erase id }) := h.of_view (by simp)
  unfold State.expire
  split
  · dsimp only
    split
    · exact ht
    · next hp => exact ho _ ht (by simpa using hp)
  · exact h

/-! ### START to CLEAR -/

/-- The owner refuses: nothing changes. -/
theorem LineInv.refuse {s : State} (h : LineInv s) (st : Status) : LineInv (s.refuse st).1 := h

theorem LineInv.doStart {s : State} (h : LineInv s) (hp : s.pin = false) (hstate : s.line.state = .ready) :
    LineInv (doStart () s).1 := by
  unfold Machine.doStart
  split
  · exact h
  · next hu =>
    (repeat' split) <;> try exact h
    have hfit := h.fits hp
    refine .of_line (h.noLockSave hp (by simp [hstate]) (fun _ => by simpa using hu)) (by simp) ?_
      fun hx => absurd hx (by simpa using h.notRunning (by simp [hstate]))
    cases ho : s.line.origin <;> simp_all [lockFits]

/-- R4: the working drain limit is none of the invariant's business. -/
theorem LineInv.of_drainLimit {s : State} (h : LineInv s) (l : Nat) : LineInv (s.onLine fun u => { u with drainLimit := l }) := h

theorem LineInv.stop {s : State} (h : LineInv s) (hp : s.pin = false) (limit : Option Nat) : LineInv (s.stop limit) := by
  have hdrain : ∀ t : State, LineInv t → t.pin = false → t.line.state = .running →
      LineInv (t.armDrain.setLine .draining none none .stop .absent).emptyTest := fun t ht htp hts => by
    have hfit := ht.fits htp
    refine LineInv.emptyTest (.of_line (ht.noLockSave_of_away htp (by simp [hts]) (by simp [hts])) rfl ?_
      fun hx => absurd hx (ht.notRunning (by simp [hts])))
    cases ho : t.line.origin <;> simp_all [lockFits, State.armDrain]
  unfold State.stop
  cases limit with
  | none =>
    dsimp only
    split
    · next hs => exact hdrain s h hp hs
    · exact h
  | some l =>
    dsimp only
    split
    · next hs => exact hdrain _ (h.of_drainLimit l) hp hs
    · exact (h.of_drainLimit l).of_view rfl

theorem LineInv.doStop {s : State} (h : LineInv s) (hp : s.pin = false) (limit : Option Nat) : LineInv (doStop limit s).1 := by
  unfold Machine.doStop
  split
  · exact h.stop hp _
  · split
    · exact h.stop hp _
    · exact h

theorem LineInv.doHalt {s : State} (h : LineInv s) (hp : s.pin = false) (hstate : s.line.state ∈ admittedIn .halt) :
    LineInv (doHalt () s).1 := by
  unfold Machine.doHalt
  split
  · exact h
  · next hne =>
    refine h.enterHalted hp ?_ _
    cases hs : s.line.state <;> simp_all [admittedIn, LineState.runs]

theorem LineInv.doResume {s : State} (h : LineInv s) (hp : s.pin = false) (hstate : s.line.state = .halted) :
    LineInv (doResume () s).1 := by
  unfold Machine.doResume
  split
  · exact h
  · next origin ho =>
    split
    · exact h
    · next hne =>
      (repeat' split) <;> try exact h
      have hfit := h.fits hp
      have hfit' : lockFits { s.line with state := origin, origin := none, cause := none } s.comm.locked = true := by
        cases origin <;> simp_all [lockFits]
      refine LineInv.emptyTest (.of_line (h.noLockSave_of_away hp (by simp [hstate]) (by simp [hstate])) ?_ ?_
        fun hx => absurd hx ?_)
      · split <;> simp [State.armDrain]
      · split <;> simpa [State.armDrain] using hfit'
      · have hrun := h.notRunning (by simp [hstate])
        split <;> simpa [State.armDrain] using hrun

/-- R11: the loss of every parcel leaves the view. -/
@[simp] theorem lineView_loseAll (s : State) : s.loseAll.lineView = s.lineView := by
  unfold State.loseAll
  simp only [lineView_onTrack, lineView_onParcel]
  refine State.each_induct (fun t => t.lineView = s.lineView) _ _ _ rfl fun p _ t ht => ?_
  rwa [lineView_onLot]

/-- R1: the state of a line at rest fits the lock. -/
theorem lockFits_rest (u : LineUnit) (locked : Bool) (hs : u.state = restState locked) (ho : u.origin = none) :
    lockFits u locked = true := by
  cases locked <;> simp [lockFits, hs, ho, restState]

theorem LineInv.doClear {s : State} (h : LineInv s) (hp : s.pin = false) (hstate : s.line.state = .halted) :
    LineInv (doClear () s).1 := by
  obtain ⟨-, -, hc, hs⟩ := lineView_eq_iff.mp (lineView_loseAll s)
  refine State.each_induct LineInv _ _ _ ?_ fun k _ t ht => ht.of_view (by simp)
  refine .of_line (h.noLockSave_of_away hp (by simp [hstate]) (by simp [hstate])) (by simp [hs]) (lockFits_rest _ _ ?_ rfl)
    fun hx => absurd hx (by simpa [hc] using h.notRunning (by simp [hstate]))
  simp [hc]

/-! ### Line reset -/

/-- R15: the line record after a line reset. -/
@[simp] theorem LineUnit.reset_state (u : LineUnit) (locked : Bool) : (u.reset locked).state = restState locked := rfl
@[simp] theorem LineUnit.reset_origin (u : LineUnit) (locked : Bool) : (u.reset locked).origin = none := rfl

/-- R1: READY and SETUP are at rest. -/
@[simp] theorem restState_runs (locked : Bool) : (restState locked).runs = false := by cases locked <;> rfl

@[simp] theorem lineView_notifyDiscard (parcels parts part : Nat) (ls : List (List (Nat × Lot))) (s : State) :
    (s.notifyDiscard parcels parts part ls).lineView = s.lineView := by
  induction ls generalizing part s with
  | nil => rfl
  | cons l ls ih => exact ih ..

/-- R99: on a line at rest the events of a reset fire without a halt. -/
theorem lineView_refire_rest {s : State} (h : s.line.state.runs = false) : s.refire.lineView = s.lineView := by
  unfold State.refire
  refine State.each_induct (fun t => t.lineView = s.lineView) _ _ _ rfl fun x _ t ht => ?_
  split
  · obtain ⟨-, hline, -⟩ := lineView_eq_iff.mp ht
    exact (lineView_fire_rest (by rw [hline]; exact h) ..).trans ht
  · exact ht

/-- R191: an owed PROVING RESULT is queued, and no longer owed. -/
theorem lineView_payProving (s : State) : s.payProving.lineView = { s.lineView with comm := { s.comm with owed := false } } := by
  unfold State.payProving
  split
  · rfl
  · next h =>
    have ho : s.comm.owed = false := by simpa using h
    simp [State.lineView, ← ho]

/-- R191: an owed STORE RESULT is queued, and no longer owed. -/
theorem lineView_payStore (s : State) : s.payStore.lineView = { s.lineView with store := { s.store with owed := none } } := by
  unfold State.payStore
  split
  · rfl
  · next h => simp [State.lineView, ← h]

/-- R15: what a line reset leaves of line, lock and store. -/
theorem lineView_lineReset (s : State) :
    s.lineReset.lineView =
      ⟨s.pin, s.line.reset s.comm.locked, { s.comm with owed := false }, { s.store with owed := none }⟩ := by
  have hunits : s.resetUnits.lineView = ⟨s.pin, s.line.reset s.comm.locked, s.comm, s.store⟩ := rfl
  unfold State.lineReset State.resetNotices
  dsimp only
  generalize hd : State.notifyDiscard _ _ _ _ _ = d
  have hv : d.lineView = s.resetUnits.lineView := by rw [← hd]; simp
  have hpay := lineView_payProving d
  have hrest : d.payProving.line.state.runs = false := by
    have hline : d.payProving.line = s.line.reset s.comm.locked := by
      rw [line_of_lineView hpay]
      exact line_of_lineView (hv.trans hunits)
    simp [hline]
  have hcomm : d.comm = s.comm := comm_of_lineView (hv.trans hunits)
  have hview : d.payProving.refire.lineView = ⟨s.pin, s.line.reset s.comm.locked, { s.comm with owed := false }, s.store⟩ := by
    rw [lineView_refire_rest hrest, hpay, hv, hunits, hcomm]
  have hstore : d.payProving.refire.store = s.store := store_of_lineView hview
  rw [lineView_payStore, hview, hstore]

/-- R172, R173: a COMMISSION save in flight says UNLOCKED and an UNLOCK save LOCKED, whatever line and pin do. -/
def SaveLock (s : State) : Prop :=
  ∀ v, s.store.save = some v → (v.kind = .commission → s.comm.locked = false) ∧ (v.kind = .unlock → s.comm.locked = true)

theorem SaveLock.of_saveFits {s : State} (h : saveFits s = true) : SaveLock s := by
  rintro ⟨kind, image⟩ hv
  cases kind <;> simp_all [saveFits]

theorem SaveLock.saveFits {s : State} (h : SaveLock s) (hl : s.pin = true ∨ s.line.state = restState s.comm.locked) :
    saveFits s = true := by
  unfold Machine.saveFits
  split
  · next hv => have := (h _ hv).1 rfl; simp_all [restState]
  · next hv => have := (h _ hv).2 rfl; simp_all [restState]
  · rfl
  · rfl

theorem State.lineReset_pin (s : State) : s.lineReset.pin = s.pin := pin_of_lineView (lineView_lineReset s)
theorem State.lineReset_line (s : State) : s.lineReset.line = s.line.reset s.comm.locked :=
  line_of_lineView (lineView_lineReset s)
theorem State.lineReset_comm (s : State) : s.lineReset.comm = { s.comm with owed := false } :=
  comm_of_lineView (lineView_lineReset s)
theorem State.lineReset_store (s : State) : s.lineReset.store = { s.store with owed := none } :=
  store_of_lineView (lineView_lineReset s)

/-- R15: a line reset of a line on which no record is RUNNING. -/
theorem LineInv.lineReset {s : State} (hs : SaveLock s) (hr : s.comm.record.result ≠ .running) : LineInv s.lineReset := by
  have hk : s.lineReset.comm.locked = s.comm.locked := by rw [State.lineReset_comm]
  have hstate : s.lineReset.line.state = restState s.lineReset.comm.locked := by rw [State.lineReset_line, hk]; rfl
  have hsave : SaveLock s.lineReset := by
    unfold SaveLock
    rw [hk, State.lineReset_store]
    exact hs
  refine ⟨⟨?_, hsave.saveFits (Or.inr hstate)⟩, fun hx => absurd ?_ hr⟩
  · rw [lockFits_rest _ _ hstate (by rw [State.lineReset_line]; rfl), Bool.or_true]
  · rwa [State.lineReset_comm] at hx

theorem LineInv.doResetLine {s : State} (h : LineInv s) (hstate : s.line.state ∈ admittedIn .resetLine) :
    LineInv (doResetLine () s).1 := by
  have hrun := h.notRunning fun e => by simp [e, admittedIn] at hstate
  simp only [Machine.doResetLine]
  exact LineInv.lineReset (SaveLock.of_saveFits h.saving) hrun

theorem LineInv.assertPin {s : State} (h : LineInv s) : LineInv s.assertPin := by
  have hrec : s.assertPin.comm.record.result ≠ .running := State.endProving_record (s := _) h.hasRun
  have hsave : SaveLock s.assertPin := by simpa [SaveLock, State.assertPin] using SaveLock.of_saveFits h.saving
  exact ⟨⟨by simp [State.assertPin], hsave.saveFits (Or.inl (by simp [State.assertPin]))⟩, fun hx => absurd hx hrec⟩

theorem LineInv.releasePin {s : State} (h : LineInv s) (hp : s.pin = true) :
    LineInv ({ s with pin := false }.onLink LinkUnit.resetByPin).lineReset :=
  LineInv.lineReset (SaveLock.of_saveFits (s := s) h.saving) fun hr => by simpa [hp] using (h.2 hr).1

/-! ### Saves and proving runs -/

/-- R174: a save begins with the pin released; a COMMISSION save on an UNLOCKED line in SETUP, an UNLOCK save on a LOCKED one in
READY. -/
theorem LineInv.beginSave {s : State} (h : LineInv s) (k : SaveKind)
    (hk : saveFits (s.beginSave k) = true) : LineInv (s.beginSave k) :=
  ⟨⟨h.1.1, hk⟩, h.2⟩

theorem LineInv.doCommission {s : State} (h : LineInv s) (hp : s.pin = false) (hstate : s.line.state = .setup) :
    LineInv (doCommission () s).1 := by
  unfold Machine.doCommission
  (repeat' split) <;> try exact h
  have hfit := h.fits hp
  refine h.beginSave _ ?_
  cases ho : s.line.origin <;> simp_all [lockFits, saveFits, State.beginSave]

theorem LineInv.doUnlock {s : State} (h : LineInv s) (hp : s.pin = false) (hstate : s.line.state = .ready) :
    LineInv (doUnlock () s).1 := by
  unfold Machine.doUnlock
  (repeat' split) <;> try exact h
  have hfit := h.fits hp
  refine h.beginSave _ ?_
  cases ho : s.line.origin <;> simp_all [lockFits, saveFits, State.beginSave]

theorem LineInv.doStoreSave {s : State} (h : LineInv s) : LineInv (doStoreSave () s).1 := by
  unfold Machine.doStoreSave
  split
  · exact h
  · exact h.beginSave _ rfl

/-- R12: what a completed save makes of the line, by its kind. -/
theorem State.lineAfterSave_store (s : State) : s.lineAfterSave .store = s := by
  unfold State.lineAfterSave
  split <;> simp_all

theorem State.lineAfterSave_commission {s : State} (h : s.line.state = .setup) :
    s.lineAfterSave .commission = s.clearBacked.setLine .ready none none .commissioned .absent := by
  simp [State.lineAfterSave, h]

theorem State.lineAfterSave_unlock {s : State} (h : s.line.state = .ready) :
    s.lineAfterSave .unlock = s.setLine .setup none none .unlocked .absent := by
  simp [State.lineAfterSave, h]

/-- Without a save in flight the invariant speaks of line and lock alone. -/
theorem LineInv.of_noSave {s : State} (hs : s.store.save = none) (hf : (s.pin || lockFits s.line s.comm.locked) = true)
    (hr : RunningInProving s) : LineInv s :=
  ⟨⟨hf, by simp [saveFits, hs]⟩, hr⟩

/-- R12, R172 to R175: the end of a save moves lock and line together. -/
theorem LineInv.endSave {s : State} (h : LineInv s) (v : Save) (ok : Bool) (hv : s.store.save = some v) :
    LineInv (s.endSave v ok) := by
  have hsave := h.saving
  have hrun := h.2
  obtain ⟨kind, image⟩ := v
  unfold State.endSave
  dsimp only
  split
  · next hp => exact .of_noSave rfl (by simp [hp]) hrun
  · next hp =>
    have hfit := h.fits (by simpa using hp)
    cases ok with
    | false => exact .of_noSave rfl (by simpa [SaveKind.lockAfter] using Or.inr hfit) hrun
    | true =>
      simp only [if_true]
      cases kind with
      | store =>
        rw [State.lineAfterSave_store]
        exact .of_noSave rfl (by simpa [SaveKind.lockAfter, SaveKind.flag] using Or.inr hfit) hrun
      | commission =>
        have hstate : s.line.state = .setup := by simp_all [saveFits]
        rw [State.lineAfterSave_commission (by simpa using hstate)]
        refine .of_noSave rfl (by simp [SaveKind.lockAfter, SaveKind.flag, lockFits]) fun hr => ?_
        exact absurd (by simpa using hr) (h.notRunning (by simp [hstate]))
      | unlock =>
        have hstate : s.line.state = .ready := by simp_all [saveFits]
        rw [State.lineAfterSave_unlock (by simpa using hstate)]
        refine .of_noSave rfl (by simp [SaveKind.lockAfter, SaveKind.flag, lockFits]) fun hr => ?_
        exact absurd (by simpa using hr) (h.notRunning (by simp [hstate]))

theorem LineInv.doProveStart {s : State} (h : LineInv s) (hp : s.pin = false) (hstate : s.line.state = .setup)
    (d : Nat × Nat × Nat) : LineInv (doProveStart d s).1 := by
  unfold Machine.doProveStart
  split
  · exact h
  · split
    · exact h
    · next hc =>
      (repeat' split) <;> try exact h
      have hfit := h.fits hp
      refine .of_line (h.noLockSave hp (fun _ => by simpa using hc) (by simp [hstate])) (by simp [State.beginProving]) ?_
        fun _ => ⟨by simpa [State.beginProving] using hp, by simp [State.beginProving], by simp [State.beginProving]⟩
      cases ho : s.line.origin <;> simp_all [lockFits, State.beginProving]

theorem LineInv.doProveAbort {s : State} (h : LineInv s) (hp : s.pin = false) (hstate : s.line.state = .proving) :
    LineInv (doProveAbort () s).1 :=
  h.enterHalted hp (by simp [hstate, LineState.runs]) _

/-! ### Requests that leave the view -/

section ViewKept
variable (s : State)

theorem lineView_doStatusRead (a : Unit) : (doStatusRead a s).1.lineView = s.lineView := rfl
theorem lineView_doTimeRead (a : Unit) : (doTimeRead a s).1.lineView = s.lineView := rfl
theorem lineView_doTimeSet (a : Nat) : (doTimeSet a s).1.lineView = s.lineView := by unfold doTimeSet; split <;> rfl
theorem lineView_doTimeTrim (a : Int) : (doTimeTrim a s).1.lineView = s.lineView := by unfold doTimeTrim; split <;> rfl
theorem lineView_doTrackRead (a : Nat × Nat × Nat) : (doTrackRead a s).1.lineView = s.lineView := by
  unfold doTrackRead
  (repeat' split) <;> rfl
theorem lineView_doDividerReset (a : Nat) : (doDividerReset a s).1.lineView = s.lineView := by
  unfold doDividerReset
  (repeat' split) <;> rfl
theorem lineView_doNoticeModeSet (a : Nat × Nat × Option Nat) : (doNoticeModeSet a s).1.lineView = s.lineView := by
  unfold doNoticeModeSet
  (repeat' split) <;> rfl
theorem lineView_doInfeedDeclare (a : List Byte × Nat × Nat) : (doInfeedDeclare a s).1.lineView = s.lineView := by
  unfold doInfeedDeclare
  split <;> rfl
theorem lineView_doParcelRead (a : Seq) : (doParcelRead a s).1.lineView = s.lineView := by unfold doParcelRead; split <;> rfl
theorem lineView_doLotRead (a : Nat) : (doLotRead a s).1.lineView = s.lineView := by unfold doLotRead; split <;> rfl
theorem lineView_doHoldRange (a : Seq × Seq) : (doHoldRange a s).1.lineView = s.lineView := rfl
theorem lineView_doClearHoldRange (a : Seq × Seq) : (doClearHoldRange a s).1.lineView = s.lineView := rfl
theorem lineView_doSamplingSet (a : Nat) : (doSamplingSet a s).1.lineView = s.lineView := by unfold doSamplingSet; split <;> rfl
theorem lineView_doTripAck (a : Nat × Nat) : (doTripAck a s).1.lineView = s.lineView := by
  unfold doTripAck
  (repeat' split) <;> rfl
theorem lineView_doChannelRead (a : Nat) : (doChannelRead a s).1.lineView = s.lineView := by
  unfold doChannelRead
  (repeat' split) <;> rfl
theorem lineView_doRecipePackingSet (a : PackingSet) : (doRecipePackingSet a s).1.lineView = s.lineView := by
  unfold doRecipePackingSet
  split <;> rfl
theorem lineView_doClassMapSet (a : List (Nat × Nat)) : (doClassMapSet a s).1.lineView = s.lineView := by
  unfold doClassMapSet
  split <;> rfl
theorem lineView_doDeadTimeSet (a : Nat) : (doDeadTimeSet a s).1.lineView = s.lineView := by unfold doDeadTimeSet; split <;> rfl
theorem lineView_doLaneOpen (a : Nat) : (doLaneOpen a s).1.lineView = s.lineView := by unfold doLaneOpen; split <;> rfl
theorem lineView_doLaneClose (a : Nat) : (doLaneClose a s).1.lineView = s.lineView := by unfold doLaneClose; split <;> rfl
theorem lineView_doBagRead (a : Nat) : (doBagRead a s).1.lineView = s.lineView := by
  unfold doBagRead
  (repeat' split) <;> rfl
theorem lineView_doBagWeight (a : Nat × Nat) : (doBagWeight a s).1.lineView = s.lineView := by
  unfold doBagWeight State.refuse
  (repeat' split) <;> simp
theorem lineView_doPalletClose (a : Nat) : (doPalletClose a s).1.lineView = s.lineView := by
  unfold doPalletClose State.refuse
  (repeat' split) <;> simp
theorem lineView_doPalletRead (a : Nat × Option Nat) : (doPalletRead a s).1.lineView = s.lineView := by
  unfold doPalletRead
  dsimp only
  (repeat' split) <;> rfl
theorem lineView_doShuttleReset (a : Unit) : (doShuttleReset a s).1.lineView = s.lineView := by
  unfold doShuttleReset State.refuse
  (repeat' split) <;> simp
theorem lineView_doJobLimitSet (a : Nat) : (doJobLimitSet a s).1.lineView = s.lineView := by unfold doJobLimitSet; split <;> rfl
theorem lineView_doProvingRead (a : Unit) : (doProvingRead a s).1.lineView = s.lineView := rfl

end ViewKept

/-! ### Edits of the validated set (R164) -/

section Edits
variable {s : State}

/-- An edit of another block's settings, noted by the commissioning unit. -/
theorem LineInv.of_edit {t : State} (h : LineInv s) (ht : t.lineView = s.lineView) : LineInv t.edited := (h.of_view ht).edited

theorem LineInv.doTrackDefine (h : LineInv s) (a : TrackDefine) : LineInv (doTrackDefine a s).1 := by
  unfold Machine.doTrackDefine
  (repeat' split) <;> try exact h
  all_goals exact h.of_edit rfl

theorem LineInv.doZoneDefine (h : LineInv s) (a : ZoneDefine) : LineInv (doZoneDefine a s).1 := by
  unfold Machine.doZoneDefine
  (repeat' split) <;> try exact h
  all_goals exact h.of_edit rfl

theorem LineInv.doChannelSet (h : LineInv s) (a : Nat × Nat × Nat × Nat) : LineInv (doChannelSet a s).1 := by
  unfold Machine.doChannelSet
  (repeat' split) <;> try exact h
  exact h.of_edit (lineView_setChannel ..)

theorem LineInv.doOffsetStep (h : LineInv s) (a : Nat × Int) : LineInv (doOffsetStep a s).1 := by
  unfold Machine.doOffsetStep
  dsimp only
  (repeat' split) <;> try exact h
  all_goals exact h.of_edit rfl

theorem LineInv.doLevelsSet (h : LineInv s) (a : LevelsSet) : LineInv (doLevelsSet a s).1 := by
  unfold Machine.doLevelsSet
  (repeat' split) <;> try exact h
  all_goals exact h.of_edit rfl

theorem LineInv.doRouteSet (h : LineInv s) (a : Nat × Nat × Nat) : LineInv (doRouteSet a s).1 := by
  unfold Machine.doRouteSet
  (repeat' split) <;> try exact h
  all_goals exact h.of_edit rfl

theorem LineInv.doExternalTripSet (h : LineInv s) (a : ExternalSet) : LineInv (doExternalTripSet a s).1 := by
  unfold Machine.doExternalTripSet
  (repeat' split) <;> try exact h
  exact (h.bind ..).edited

theorem LineInv.doRateTableSet (h : LineInv s) (a : List Band) : LineInv (doRateTableSet a s).1 := by
  unfold Machine.doRateTableSet
  (repeat' split) <;> try exact h
  all_goals exact h.of_edit rfl

theorem LineInv.doRecipeThermalSet (h : LineInv s) (a : ThermalSet) : LineInv (doRecipeThermalSet a s).1 := by
  unfold Machine.doRecipeThermalSet
  (repeat' split) <;> try exact h
  all_goals exact h.of_edit rfl

end Edits

/-! ### Every command -/

/-- A command that names a line of the part, or faults. -/
theorem LineInv.guarded {t : State} {i : Instr} {o : Outcome} (h : (if i.wellFormed then o else .fault .noSuchLine) = .next t)
    (ho : o = .next t → LineInv t) : LineInv t := by
  split at h
  · exact ho h
  · simp at h

/-- R16: on a line at rest the events of external trips halt nothing. -/
theorem lineView_reformEach_rest {s : State} (h : s.line.state.runs = false) (cs : List Nat) :
    (State.each (fun c s => s.reform c .external s.time.lineTime) cs s).lineView = s.lineView := by
  refine State.each_induct (fun t => t.lineView = s.lineView) _ _ _ rfl fun c _ t ht => ?_
  obtain ⟨-, hline, -⟩ := lineView_eq_iff.mp ht
  exact (lineView_reform_rest (by rw [hline]; exact h) ..).trans ht

/-- R1, R16: the line at power-on is at rest. -/
theorem State.fresh_rest (image : Option StoredSet) (set : StoredSet) (seen : List FieldInput) (baud draws : Nat)
    (pending : List Instr) : (State.fresh image set seen baud draws pending).line.state.runs = false :=
  restState_runs set.locked

theorem lineView_powerUp (s : State) (seen : List FieldInput) (baud : Nat) :
    (s.powerUp seen baud).lineView =
      (State.fresh s.store.keptImage (loadedSet s.store.keptImage) seen baud s.draws s.pending).lineView := by
  unfold State.powerUp
  rw [lineView_reformEach_rest, lineView_notify]
  rw [State.notify_line]
  exact State.fresh_rest ..

/-- R16, R174, R176: a fresh part stands at the line state its lock calls for, with no save in flight. -/
theorem lockFollows_of_fresh {t : State} {image : Option StoredSet} {set : StoredSet} {seen : List FieldInput}
    {baud draws : Nat} {pending : List Instr}
    (h : t.lineView = (State.fresh image set seen baud draws pending).lineView) : LockFollowsLine t := by
  have hfits : lockFits (State.fresh image set seen baud draws pending).line set.locked = true := lockFits_rest _ _ rfl rfl
  obtain ⟨hp, hl, hc, hs⟩ := lineView_eq_iff.mp h
  refine ⟨?_, ?_⟩
  · rw [hl, hc]
    simpa [State.fresh] using Or.inr hfits
  · simp [saveFits, hs, State.fresh]

theorem execPowerOn_next {s t : State} {seen : List FieldInput} {a b : Bool} (h : exec (.powerOn seen a b) s = .next t) :
    t = (s.powerUp seen (baudOf a b)).finish := by
  by_cases hw : (Instr.powerOn seen a b).wellFormed = true
  · rw [exec, execPowerOn, if_pos hw] at h
    exact (Host.Outcome.next.inj h).symm
  · rw [exec, execPowerOn, if_neg hw] at h
    nomatch h

theorem lockFollows_of_powerOn {s t : State} {seen : List FieldInput} {a b : Bool} (h : exec (.powerOn seen a b) s = .next t) :
    LockFollowsLine t := by
  have hview := lineView_powerUp s seen (baudOf a b)
  rw [← lineView_finish, ← execPowerOn_next h] at hview
  exact lockFollows_of_fresh hview

/-- R174: the loss of power leaves the line as factory settings give it. -/
theorem lineView_powerDown (s : State) : s.powerDown.lineView =
    (State.fresh s.store.keptImage StoredSet.factory [] s.link.baud s.draws s.pending).lineView := rfl

theorem lockFollows_of_powerLoss {s t : State} (hs : LockFollowsLine s) (h : exec .powerLoss s = .next t) : LockFollowsLine t := by
  rw [exec, execPowerLoss] at h
  cases hp : s.powered with
  | true =>
    rw [State.act_powered _ _ hp] at h
    rw [← Host.Outcome.next.inj h]
    exact lockFollows_of_fresh ((lineView_finish _).trans (lineView_powerDown s))
  | false =>
    rw [State.act_unpowered _ _ hp] at h
    rwa [← Host.Outcome.next.inj h]

/-- Every command of a part that keeps its power keeps the invariant. -/
theorem LineInv.exec {c : Instr} {s t : State} (h : LineInv s) (hc : exec c s = .next t) (hon : ∀ seen a b, c ≠ .powerOn seen a b)
    (hloss : c ≠ .powerLoss) : LineInv t := by
  cases c with
  | start =>
    simp only [Machine.exec, execStart] at hc
    exact h.act hc (h.handOn fun hp hs _ => h.doStart hp (by simpa [admittedIn] using hs))
  | stop =>
    simp only [Machine.exec, execStop] at hc
    exact h.act hc (h.handOn fun hp _ a => h.doStop hp a)
  | halt =>
    simp only [Machine.exec, execHalt] at hc
    exact h.act hc (h.handOn fun hp hs _ => h.doHalt hp hs)
  | resume =>
    simp only [Machine.exec, execResume] at hc
    exact h.act hc (h.handOn fun hp hs _ => h.doResume hp (by simpa [admittedIn] using hs))
  | clear =>
    simp only [Machine.exec, execClear] at hc
    exact h.act hc (h.handOn fun hp hs _ => h.doClear hp (by simpa [admittedIn] using hs))
  | resetLine =>
    simp only [Machine.exec, execResetLine] at hc
    exact h.act hc (h.handOn fun _ hs _ => h.doResetLine hs)
  | statusRead =>
    simp only [Machine.exec, execStatusRead] at hc
    exact h.act hc (h.handOn_view (lineView_doStatusRead s))
  | timeRead =>
    simp only [Machine.exec, execTimeRead] at hc
    exact h.act hc (h.handOn_view (lineView_doTimeRead s))
  | timeSet =>
    simp only [Machine.exec, execTimeSet] at hc
    exact h.act hc (h.handOn_view (lineView_doTimeSet s))
  | timeTrim =>
    simp only [Machine.exec, execTimeTrim] at hc
    exact h.act hc (h.handOn_view (lineView_doTimeTrim s))
  | trackDefine =>
    simp only [Machine.exec, execTrackDefine] at hc
    exact h.act hc (h.handOn fun _ _ a => h.doTrackDefine a)
  | zoneDefine =>
    simp only [Machine.exec, execZoneDefine] at hc
    exact h.act hc (h.handOn fun _ _ a => h.doZoneDefine a)
  | trackRead =>
    simp only [Machine.exec, execTrackRead] at hc
    exact h.act hc (h.handOn_view (lineView_doTrackRead s))
  | dividerReset =>
    simp only [Machine.exec, execDividerReset] at hc
    exact h.act hc (h.handOn_view (lineView_doDividerReset s))
  | noticeModeSet =>
    simp only [Machine.exec, execNoticeModeSet] at hc
    exact h.act hc (h.handOn_view (lineView_doNoticeModeSet s))
  | infeedDeclare =>
    simp only [Machine.exec, execInfeedDeclare] at hc
    exact h.act hc (h.handOn_view (lineView_doInfeedDeclare s))
  | parcelRead =>
    simp only [Machine.exec, execParcelRead] at hc
    exact h.act hc (h.handOn_view (lineView_doParcelRead s))
  | lotRead =>
    simp only [Machine.exec, execLotRead] at hc
    exact h.act hc (h.handOn_view (lineView_doLotRead s))
  | holdRange =>
    simp only [Machine.exec, execHoldRange] at hc
    exact h.act hc (h.handOn_view (lineView_doHoldRange s))
  | clearHoldRange =>
    simp only [Machine.exec, execClearHoldRange] at hc
    exact h.act hc (h.handOn_view (lineView_doClearHoldRange s))
  | channelSet =>
    simp only [Machine.exec, execChannelSet] at hc
    exact h.act hc (h.handOn fun _ _ a => h.doChannelSet a)
  | offsetStep =>
    simp only [Machine.exec, execOffsetStep] at hc
    exact h.act hc (h.handOn fun _ _ a => h.doOffsetStep a)
  | levelsSet =>
    simp only [Machine.exec, execLevelsSet] at hc
    exact h.act hc (h.handOn fun _ _ a => h.doLevelsSet a)
  | routeSet =>
    simp only [Machine.exec, execRouteSet] at hc
    exact h.act hc (h.handOn fun _ _ a => h.doRouteSet a)
  | externalTripSet =>
    simp only [Machine.exec, execExternalTripSet] at hc
    exact h.act hc (h.handOn fun _ _ a => h.doExternalTripSet a)
  | samplingSet =>
    simp only [Machine.exec, execSamplingSet] at hc
    exact h.act hc (h.handOn_view (lineView_doSamplingSet s))
  | tripAck =>
    simp only [Machine.exec, execTripAck] at hc
    exact h.act hc (h.handOn_view (lineView_doTripAck s))
  | channelRead =>
    simp only [Machine.exec, execChannelRead] at hc
    exact h.act hc (h.handOn_view (lineView_doChannelRead s))
  | rateTableSet =>
    simp only [Machine.exec, execRateTableSet] at hc
    exact h.act hc (h.handOn fun _ _ a => h.doRateTableSet a)
  | recipeThermalSet =>
    simp only [Machine.exec, execRecipeThermalSet] at hc
    exact h.act hc (h.handOn fun _ _ a => h.doRecipeThermalSet a)
  | recipePackingSet =>
    simp only [Machine.exec, execRecipePackingSet] at hc
    exact h.act hc (h.handOn_view (lineView_doRecipePackingSet s))
  | classMapSet =>
    simp only [Machine.exec, execClassMapSet] at hc
    exact h.act hc (h.handOn_view (lineView_doClassMapSet s))
  | deadTimeSet =>
    simp only [Machine.exec, execDeadTimeSet] at hc
    exact h.act hc (h.handOn_view (lineView_doDeadTimeSet s))
  | laneOpen =>
    simp only [Machine.exec, execLaneOpen] at hc
    exact h.act hc (h.handOn_view (lineView_doLaneOpen s))
  | laneClose =>
    simp only [Machine.exec, execLaneClose] at hc
    exact h.act hc (h.handOn_view (lineView_doLaneClose s))
  | bagRead =>
    simp only [Machine.exec, execBagRead] at hc
    exact h.act hc (h.handOn_view (lineView_doBagRead s))
  | bagWeight =>
    simp only [Machine.exec, execBagWeight] at hc
    exact h.act hc (h.handOn_view (lineView_doBagWeight s))
  | palletClose =>
    simp only [Machine.exec, execPalletClose] at hc
    exact h.act hc (h.handOn_view (lineView_doPalletClose s))
  | palletRead =>
    simp only [Machine.exec, execPalletRead] at hc
    exact h.act hc (h.handOn_view (lineView_doPalletRead s))
  | shuttleReset =>
    simp only [Machine.exec, execShuttleReset] at hc
    exact h.act hc (h.handOn_view (lineView_doShuttleReset s))
  | jobLimitSet =>
    simp only [Machine.exec, execJobLimitSet] at hc
    exact h.act hc (h.handOn_view (lineView_doJobLimitSet s))
  | proveStart =>
    simp only [Machine.exec, execProveStart] at hc
    exact h.act hc (h.handOn fun hp hs a => h.doProveStart hp (by simpa [admittedIn] using hs) a)
  | proveAbort =>
    simp only [Machine.exec, execProveAbort] at hc
    exact h.act hc (h.handOn fun hp hs _ => h.doProveAbort hp (by simpa [admittedIn] using hs))
  | provingRead =>
    simp only [Machine.exec, execProvingRead] at hc
    exact h.act hc (h.handOn_view (lineView_doProvingRead s))
  | commission =>
    simp only [Machine.exec, execCommission] at hc
    exact h.act hc (h.handOn fun hp hs _ => h.doCommission hp (by simpa [admittedIn] using hs))
  | unlock =>
    simp only [Machine.exec, execUnlock] at hc
    exact h.act hc (h.handOn fun hp hs _ => h.doUnlock hp (by simpa [admittedIn] using hs))
  | storeSave =>
    simp only [Machine.exec, execStoreSave] at hc
    exact h.act hc (h.handOn fun _ _ _ => h.doStoreSave)
  | unknownKind =>
    simp only [Machine.exec, execUnknownKind] at hc
    exact h.act hc (h.of_view (lineView_answerUnknown s))
  | frameReceived bytes =>
    simp only [Machine.exec, execFrameReceived] at hc
    exact h.act hc (h.of_view rfl)
  | interByteGapTimeout =>
    simp only [Machine.exec, execInterByteGapTimeout] at hc
    exact h.act hc (h.of_view rfl)
  | frameSent =>
    simp only [Machine.exec, execFrameSent] at hc
    exact h.act hc (h.of_view (lineView_frameSent s))
  | baseMillisecond seen =>
    simp only [Machine.exec, execBaseMillisecond] at hc
    exact .guarded hc fun hc => h.act hc (h.of_view rfl)
  | encoderPulse input presence =>
    simp only [Machine.exec, execEncoderPulse] at hc
    exact .guarded hc fun hc => h.act hc (h.encoder input presence)
  | pollRoundStart =>
    simp only [Machine.exec, execPollRoundStart] at hc
    exact h.act hc (h.of_view (by split <;> simp))
  | sampleFrame bytes =>
    simp only [Machine.exec, execSampleFrame] at hc
    exact h.act hc (h.sampleBytes bytes)
  | answerWindowClose =>
    simp only [Machine.exec, execAnswerWindowClose] at hc
    exact h.act hc h.closeWindow
  | externalTripEdge input =>
    simp only [Machine.exec, execExternalTripEdge] at hc
    exact .guarded hc fun hc => h.act hc (h.deliver fun _ _ ht => ht.externalEdge ..)
  | stallTimerExpiry track =>
    simp only [Machine.exec, execStallTimerExpiry] at hc
    exact .guarded hc fun hc => h.act hc (h.expire fun t ht _ => LineInv.raiseHalt (ht.of_view (lineView_onTrackRec ..)) _)
  | drainTimerExpiry =>
    simp only [Machine.exec, execDrainTimerExpiry] at hc
    refine h.act hc (h.expire fun t ht hp => ?_)
    split
    · next hs => exact ht.enterHalted hp (by simp [hs, LineState.runs]) _
    · exact ht
  | gateTimerExpiry =>
    simp only [Machine.exec, execGateTimerExpiry] at hc
    exact h.act hc (h.expire fun t ht _ => ht.of_view (lineView_openPending t))
  | exposureTimerExpiry record =>
    simp only [Machine.exec, execExposureTimerExpiry] at hc
    exact .guarded hc fun hc => h.act hc (h.expire fun t ht _ => ht.exposureExpired record)
  | shuttleJobTimerExpiry =>
    simp only [Machine.exec, execShuttleJobTimerExpiry] at hc
    refine h.act hc (h.expire fun t ht _ => ?_)
    split
    · exact ht.faultShuttle _
    · exact ht
  | acceptEdge =>
    simp only [Machine.exec, execAcceptEdge] at hc
    exact h.act hc (h.deliver fun e t ht => ht.of_view (by split <;> simp))
  | loadedEdge =>
    simp only [Machine.exec, execLoadedEdge] at hc
    exact h.act hc (h.deliver fun e t ht => ht.of_view (by split <;> simp))
  | doneEdge =>
    simp only [Machine.exec, execDoneEdge] at hc
    exact h.act hc (h.deliver fun e t ht => ht.of_view (by split <;> simp))
  | faultEdge =>
    simp only [Machine.exec, execFaultEdge] at hc
    refine h.act hc (h.deliver fun e t ht => ?_)
    split
    · exact LineInv.faultShuttle (ht.of_view (lineView_onShuttle ..)) _
    · exact ht.of_view (lineView_onShuttle ..)
  | doorEyeEdge =>
    simp only [Machine.exec, execDoorEyeEdge] at hc
    refine h.act hc (h.deliver fun e t ht => ?_)
    split
    · exact ht.doorEdge _
    · exact ht
  | sealEdge lane =>
    simp only [Machine.exec, execSealEdge] at hc
    exact .guarded hc fun hc => h.act hc (h.deliver fun e t ht => ht.of_view (by split <;> simp))
  | readyEdge lane =>
    simp only [Machine.exec, execReadyEdge] at hc
    exact .guarded hc fun hc => h.act hc (h.deliver fun e t ht => ht.of_view (lineView_onLane ..))
  | commissionKeyEdge =>
    simp only [Machine.exec, execCommissionKeyEdge] at hc
    exact h.act hc (h.deliver fun e t ht => ht.of_comm rfl rfl rfl rfl fun hr => ⟨hr, ht.hasRun hr⟩)
  | saveEnd ok =>
    simp only [Machine.exec, execSaveEnd] at hc
    refine h.act hc ?_
    split
    · next v hv => exact h.endSave v ok hv
    · exact h
  | lineResetPinAssert =>
    simp only [Machine.exec, execLineResetPinAssert] at hc
    refine h.act hc ?_
    split
    · exact h
    · exact h.assertPin
  | lineResetPinRelease =>
    simp only [Machine.exec, execLineResetPinRelease] at hc
    refine h.act hc ?_
    split
    · next hp => exact h.releasePin hp
    · exact h
  | powerOn seen a b => exact absurd rfl (hon seen a b)
  | powerLoss => exact absurd rfl hloss
  | brokenCharacter =>
    simp only [Machine.exec, execBrokenCharacter] at hc
    exact h.act hc (h.of_view rfl)

/-- Every command keeps line and lock together. -/
theorem exec_lockFollows {c : Instr} {s t : State} (h : LineInv s) (hc : exec c s = .next t) : LockFollowsLine t := by
  by_cases hon : ∃ seen a b, c = .powerOn seen a b
  · obtain ⟨seen, a, b, rfl⟩ := hon
    exact lockFollows_of_powerOn hc
  · by_cases hloss : c = .powerLoss
    · subst hloss
      exact lockFollows_of_powerLoss h.lock hc
    · exact (h.exec hc (fun seen a b e => hon ⟨seen, a, b, e⟩) hloss).lock

/-- Settles O58: each command keeps `LineInv`, which the two premises give; power-on and power loss leave line and lock as the
image gives them. -/
theorem lockKeepsFollowingLine : Obligations.LockKeepsFollowingLine := by
  intro s t hl hp hstep
  have h : LineInv s := .of_follows hl hp
  unfold step at hstep
  split at hstep
  · cases hstep
    exact hl
  · next rest _ => exact exec_lockFollows (s := { s with pending := rest }) h hstep

end Sys2Proof.Machine
end

section
/-! ## Requests: payload lengths and the availability table (R13, R183) -/

namespace Sys2Proof.Machine

/-! ### Which payloads parse -/

theorem parseNone_isSome (bs : List Byte) : (parseNone bs).isSome = decide (bs.length = 0) := by
  rcases bs with _ | ⟨a, l⟩ <;> simp [parseNone]

theorem parseByte_isSome (bs : List Byte) : (parseByte bs).isSome = decide (bs.length = 1) := by
  rcases bs with _ | ⟨a, _ | ⟨b, l⟩⟩ <;> simp [parseByte]

theorem parseWord_isSome (bs : List Byte) : (parseWord bs).isSome = decide (bs.length = 2) := by
  rcases bs with _ | ⟨a, _ | ⟨b, _ | ⟨c, l⟩⟩⟩ <;> simp [parseWord]

theorem parseSigned_isSome (bs : List Byte) : (parseSigned bs).isSome = decide (bs.length = 2) := by
  rcases bs with _ | ⟨a, _ | ⟨b, _ | ⟨c, l⟩⟩⟩ <;> simp [parseSigned]

theorem parseBagNumber_isSome (bs : List Byte) : (parseBagNumber bs).isSome = decide (bs.length = 3) := by
  rcases bs with _ | ⟨a, _ | ⟨b, _ | ⟨c, _ | ⟨d, l⟩⟩⟩⟩ <;> simp [parseBagNumber]

theorem parseTime_isSome (bs : List Byte) : (parseTime bs).isSome = decide (bs.length = 6) := by
  rcases bs with _ | ⟨a, _ | ⟨b, _ | ⟨c, _ | ⟨d, _ | ⟨e, _ | ⟨f, _ | ⟨g, l⟩⟩⟩⟩⟩⟩⟩ <;> simp [parseTime]

theorem parseTrackDefine_isSome (bs : List Byte) : (parseTrackDefine bs).isSome = decide (bs.length = 9) := by
  rcases bs with _ | ⟨a, _ | ⟨b, _ | ⟨c, _ | ⟨d, _ | ⟨e, _ | ⟨f, _ | ⟨g, _ | ⟨h, _ | ⟨i, _ | ⟨j, l⟩⟩⟩⟩⟩⟩⟩⟩⟩⟩ <;> simp [parseTrackDefine]

theorem parseTrackRead_isSome (bs : List Byte) : (parseTrackRead bs).isSome = decide (bs.length = 5) := by
  rcases bs with _ | ⟨a, _ | ⟨b, _ | ⟨c, _ | ⟨d, _ | ⟨e, _ | ⟨f, l⟩⟩⟩⟩⟩⟩ <;> simp [parseTrackRead]

theorem parseSeq_isSome (bs : List Byte) : (parseSeq bs).isSome = decide (bs.length = 2) := by
  rcases bs with _ | ⟨a, _ | ⟨b, _ | ⟨c, l⟩⟩⟩ <;> simp [parseSeq]

theorem parseRange_isSome (bs : List Byte) : (parseRange bs).isSome = decide (bs.length = 4) := by
  rcases bs with _ | ⟨a, _ | ⟨b, _ | ⟨c, _ | ⟨d, _ | ⟨e, l⟩⟩⟩⟩⟩ <;> simp [parseRange]

theorem parseChannelSet_isSome (bs : List Byte) : (parseChannelSet bs).isSome = decide (bs.length = 4) := by
  rcases bs with _ | ⟨a, _ | ⟨b, _ | ⟨c, _ | ⟨d, _ | ⟨e, l⟩⟩⟩⟩⟩ <;> simp [parseChannelSet]

theorem parseOffsetStep_isSome (bs : List Byte) : (parseOffsetStep bs).isSome = decide (bs.length = 2) := by
  rcases bs with _ | ⟨a, _ | ⟨b, _ | ⟨c, l⟩⟩⟩ <;> simp [parseOffsetStep]

theorem parseLevelsSet_isSome (bs : List Byte) : (parseLevelsSet bs).isSome = decide (bs.length = 10) := by
  rcases bs with _ | ⟨a, _ | ⟨b, _ | ⟨c, _ | ⟨d, _ | ⟨e, _ | ⟨f, _ | ⟨g, _ | ⟨h, _ | ⟨i, _ | ⟨j, _ | ⟨k, l⟩⟩⟩⟩⟩⟩⟩⟩⟩⟩⟩ <;> simp [parseLevelsSet]

theorem parseRouteSet_isSome (bs : List Byte) : (parseRouteSet bs).isSome = decide (bs.length = 3) := by
  rcases bs with _ | ⟨a, _ | ⟨b, _ | ⟨c, _ | ⟨d, l⟩⟩⟩⟩ <;> simp [parseRouteSet]

theorem parseExternalSet_isSome (bs : List Byte) : (parseExternalSet bs).isSome = decide (bs.length = 4) := by
  rcases bs with _ | ⟨a, _ | ⟨b, _ | ⟨c, _ | ⟨d, _ | ⟨e, l⟩⟩⟩⟩⟩ <;> simp [parseExternalSet]

theorem parseSource_isSome (bs : List Byte) : (parseSource bs).isSome = decide (bs.length = 2) := by
  rcases bs with _ | ⟨a, _ | ⟨b, _ | ⟨c, l⟩⟩⟩ <;> simp [parseSource]

theorem parseThermal_isSome (bs : List Byte) : (parseThermal bs).isSome = decide (bs.length = 10) := by
  rcases bs with _ | ⟨a, _ | ⟨b, _ | ⟨c, _ | ⟨d, _ | ⟨e, _ | ⟨f, _ | ⟨g, _ | ⟨h, _ | ⟨i, _ | ⟨j, _ | ⟨k, l⟩⟩⟩⟩⟩⟩⟩⟩⟩⟩⟩ <;> simp [parseThermal]

theorem parsePacking_isSome (bs : List Byte) : (parsePacking bs).isSome = decide (bs.length = 6) := by
  rcases bs with _ | ⟨a, _ | ⟨b, _ | ⟨c, _ | ⟨d, _ | ⟨e, _ | ⟨f, _ | ⟨g, l⟩⟩⟩⟩⟩⟩⟩ <;> simp [parsePacking]

theorem parseBagWeight_isSome (bs : List Byte) : (parseBagWeight bs).isSome = decide (bs.length = 5) := by
  rcases bs with _ | ⟨a, _ | ⟨b, _ | ⟨c, _ | ⟨d, _ | ⟨e, _ | ⟨f, l⟩⟩⟩⟩⟩⟩ <;> simp [parseBagWeight]

theorem parseProve_isSome (bs : List Byte) : (parseProve bs).isSome = decide (bs.length = 3) := by
  rcases bs with _ | ⟨a, _ | ⟨b, _ | ⟨c, _ | ⟨d, l⟩⟩⟩⟩ <;> simp [parseProve]

theorem parseStop_isSome (bs : List Byte) : (parseStop bs).isSome = (decide (bs.length = 0) || decide (bs.length = 2)) := by
  rcases bs with _ | ⟨a, _ | ⟨b, _ | ⟨c, l⟩⟩⟩ <;> simp [parseStop]

theorem parseNoticeMode_isSome (bs : List Byte) :
    (parseNoticeMode bs).isSome = (decide (bs.length = 2) || decide (bs.length = 3)) := by
  rcases bs with _ | ⟨a, _ | ⟨b, _ | ⟨c, _ | ⟨d, l⟩⟩⟩⟩ <;> simp [parseNoticeMode]

theorem parsePalletRead_isSome (bs : List Byte) :
    (parsePalletRead bs).isSome = (decide (bs.length = 2) || decide (bs.length = 3)) := by
  rcases bs with _ | ⟨a, _ | ⟨b, _ | ⟨c, _ | ⟨d, l⟩⟩⟩⟩ <;> simp [parsePalletRead]

theorem parseDeclare_isSome (bs : List Byte) : (parseDeclare bs).isSome = decide (bs.length = 14) := by
  have hlen : (bs.drop 12).length = bs.length - 12 := List.length_drop
  unfold parseDeclare
  split
  · next hd =>
    rw [hd] at hlen
    simp only [List.length_cons, List.length_nil] at hlen
    have : bs.length = 14 := by omega
    simp [this]
  · next hd =>
    have : bs.length ≠ 14 := fun e => by
      obtain ⟨r, c, h⟩ := List.length_eq_two.mp (hlen.trans (by omega))
      exact hd r c h
    simp [this]

theorem parseZoneDefine_isSome (bs : List Byte) : (parseZoneDefine bs).isSome = payloadFits .zoneDefine bs := by
  rcases bs with _ | ⟨n, _ | ⟨k, rest⟩⟩
  · rfl
  · rfl
  · by_cases h : rest.length = 5 * k.toNat <;> simp [parseZoneDefine, payloadFits, h]

theorem parseRateTable_isSome (bs : List Byte) : (parseRateTable bs).isSome = payloadFits .rateTableSet bs := by
  rcases bs with _ | ⟨k, rest⟩
  · rfl
  · by_cases h : rest.length = 4 * k.toNat <;> simp [parseRateTable, payloadFits, h]

theorem parseClassMap_isSome (bs : List Byte) : (parseClassMap bs).isSome = payloadFits .classMapSet bs := by
  rcases bs with _ | ⟨k, rest⟩
  · rfl
  · by_cases h : k.toNat = 7 <;> by_cases h' : rest.length = 14 <;> simp [parseClassMap, payloadFits, h, h']

/-! ### Every request row -/

/-- R183: the command of a request hands on the oldest waiting frame with a parser that admits exactly the payload lengths the
request allows. -/
theorem exec_request {c : Instr} {r : Request} (h : requestOf c = some r) :
    ∃ (α : Type) (parse : List Byte → Option α) (owner : α → State → State × ReplyBody),
      (∀ s, exec c s = s.act fun s => s.handOn r parse owner) ∧ ∀ bs, (parse bs).isSome = payloadFits r bs := by
  cases c with
  | start => cases h; exact ⟨_, parseNone, doStart, fun s => by rw [exec, execStart], parseNone_isSome⟩
  | stop => cases h; exact ⟨_, parseStop, doStop, fun s => by rw [exec, execStop], parseStop_isSome⟩
  | halt => cases h; exact ⟨_, parseNone, doHalt, fun s => by rw [exec, execHalt], parseNone_isSome⟩
  | resume => cases h; exact ⟨_, parseNone, doResume, fun s => by rw [exec, execResume], parseNone_isSome⟩
  | clear => cases h; exact ⟨_, parseNone, doClear, fun s => by rw [exec, execClear], parseNone_isSome⟩
  | resetLine => cases h; exact ⟨_, parseNone, doResetLine, fun s => by rw [exec, execResetLine], parseNone_isSome⟩
  | statusRead => cases h; exact ⟨_, parseNone, doStatusRead, fun s => by rw [exec, execStatusRead], parseNone_isSome⟩
  | timeRead => cases h; exact ⟨_, parseNone, doTimeRead, fun s => by rw [exec, execTimeRead], parseNone_isSome⟩
  | timeSet => cases h; exact ⟨_, parseTime, doTimeSet, fun s => by rw [exec, execTimeSet], parseTime_isSome⟩
  | timeTrim => cases h; exact ⟨_, parseSigned, doTimeTrim, fun s => by rw [exec, execTimeTrim], parseSigned_isSome⟩
  | trackDefine => cases h; exact ⟨_, parseTrackDefine, doTrackDefine, fun s => by rw [exec, execTrackDefine], parseTrackDefine_isSome⟩
  | zoneDefine => cases h; exact ⟨_, parseZoneDefine, doZoneDefine, fun s => by rw [exec, execZoneDefine], parseZoneDefine_isSome⟩
  | trackRead => cases h; exact ⟨_, parseTrackRead, doTrackRead, fun s => by rw [exec, execTrackRead], parseTrackRead_isSome⟩
  | dividerReset => cases h; exact ⟨_, parseByte, doDividerReset, fun s => by rw [exec, execDividerReset], parseByte_isSome⟩
  | noticeModeSet => cases h; exact ⟨_, parseNoticeMode, doNoticeModeSet, fun s => by rw [exec, execNoticeModeSet], parseNoticeMode_isSome⟩
  | infeedDeclare => cases h; exact ⟨_, parseDeclare, doInfeedDeclare, fun s => by rw [exec, execInfeedDeclare], parseDeclare_isSome⟩
  | parcelRead => cases h; exact ⟨_, parseSeq, doParcelRead, fun s => by rw [exec, execParcelRead], parseSeq_isSome⟩
  | lotRead => cases h; exact ⟨_, parseByte, doLotRead, fun s => by rw [exec, execLotRead], parseByte_isSome⟩
  | holdRange => cases h; exact ⟨_, parseRange, doHoldRange, fun s => by rw [exec, execHoldRange], parseRange_isSome⟩
  | clearHoldRange => cases h; exact ⟨_, parseRange, doClearHoldRange, fun s => by rw [exec, execClearHoldRange], parseRange_isSome⟩
  | channelSet => cases h; exact ⟨_, parseChannelSet, doChannelSet, fun s => by rw [exec, execChannelSet], parseChannelSet_isSome⟩
  | offsetStep => cases h; exact ⟨_, parseOffsetStep, doOffsetStep, fun s => by rw [exec, execOffsetStep], parseOffsetStep_isSome⟩
  | levelsSet => cases h; exact ⟨_, parseLevelsSet, doLevelsSet, fun s => by rw [exec, execLevelsSet], parseLevelsSet_isSome⟩
  | routeSet => cases h; exact ⟨_, parseRouteSet, doRouteSet, fun s => by rw [exec, execRouteSet], parseRouteSet_isSome⟩
  | externalTripSet => cases h; exact ⟨_, parseExternalSet, doExternalTripSet, fun s => by rw [exec, execExternalTripSet], parseExternalSet_isSome⟩
  | samplingSet => cases h; exact ⟨_, parseWord, doSamplingSet, fun s => by rw [exec, execSamplingSet], parseWord_isSome⟩
  | tripAck => cases h; exact ⟨_, parseSource, doTripAck, fun s => by rw [exec, execTripAck], parseSource_isSome⟩
  | channelRead => cases h; exact ⟨_, parseByte, doChannelRead, fun s => by rw [exec, execChannelRead], parseByte_isSome⟩
  | rateTableSet => cases h; exact ⟨_, parseRateTable, doRateTableSet, fun s => by rw [exec, execRateTableSet], parseRateTable_isSome⟩
  | recipeThermalSet => cases h; exact ⟨_, parseThermal, doRecipeThermalSet, fun s => by rw [exec, execRecipeThermalSet], parseThermal_isSome⟩
  | recipePackingSet => cases h; exact ⟨_, parsePacking, doRecipePackingSet, fun s => by rw [exec, execRecipePackingSet], parsePacking_isSome⟩
  | classMapSet => cases h; exact ⟨_, parseClassMap, doClassMapSet, fun s => by rw [exec, execClassMapSet], parseClassMap_isSome⟩
  | deadTimeSet => cases h; exact ⟨_, parseWord, doDeadTimeSet, fun s => by rw [exec, execDeadTimeSet], parseWord_isSome⟩
  | laneOpen => cases h; exact ⟨_, parseByte, doLaneOpen, fun s => by rw [exec, execLaneOpen], parseByte_isSome⟩
  | laneClose => cases h; exact ⟨_, parseByte, doLaneClose, fun s => by rw [exec, execLaneClose], parseByte_isSome⟩
  | bagRead => cases h; exact ⟨_, parseBagNumber, doBagRead, fun s => by rw [exec, execBagRead], parseBagNumber_isSome⟩
  | bagWeight => cases h; exact ⟨_, parseBagWeight, doBagWeight, fun s => by rw [exec, execBagWeight], parseBagWeight_isSome⟩
  | palletClose => cases h; exact ⟨_, parseWord, doPalletClose, fun s => by rw [exec, execPalletClose], parseWord_isSome⟩
  | palletRead => cases h; exact ⟨_, parsePalletRead, doPalletRead, fun s => by rw [exec, execPalletRead], parsePalletRead_isSome⟩
  | shuttleReset => cases h; exact ⟨_, parseNone, doShuttleReset, fun s => by rw [exec, execShuttleReset], parseNone_isSome⟩
  | jobLimitSet => cases h; exact ⟨_, parseWord, doJobLimitSet, fun s => by rw [exec, execJobLimitSet], parseWord_isSome⟩
  | proveStart => cases h; exact ⟨_, parseProve, doProveStart, fun s => by rw [exec, execProveStart], parseProve_isSome⟩
  | proveAbort => cases h; exact ⟨_, parseNone, doProveAbort, fun s => by rw [exec, execProveAbort], parseNone_isSome⟩
  | provingRead => cases h; exact ⟨_, parseNone, doProvingRead, fun s => by rw [exec, execProvingRead], parseNone_isSome⟩
  | commission => cases h; exact ⟨_, parseNone, doCommission, fun s => by rw [exec, execCommission], parseNone_isSome⟩
  | unlock => cases h; exact ⟨_, parseNone, doUnlock, fun s => by rw [exec, execUnlock], parseNone_isSome⟩
  | storeSave => cases h; exact ⟨_, parseNone, doStoreSave, fun s => by rw [exec, execStoreSave], parseNone_isSome⟩
  | _ => cases h

/-- R13, R183: outside the cells 'Yes' a request whose payload parses is refused by the table, and nothing else changes. -/
theorem exec_unavailable {c : Instr} {r : Request} {f : Frame} {s : State} (hr : requestOf c = some r) (h : AtHand s r f)
    (hf : payloadFits r f.payload = true) (hs : s.line.state ∉ admittedIn r) :
    exec c s = .next (s.replied f (.status (if lockedRow r = true ∧ s.comm.locked = true then .locked else .wrongState))) := by
  obtain ⟨α, parse, owner, hexec, hparse⟩ := exec_request hr
  obtain ⟨a, ha⟩ := Option.isSome_iff_exists.mp ((hparse _).trans hf)
  rw [hexec, State.act_powered _ _ h.1, State.handOn_unavailable s r f parse owner h a ha _ (unavailable_some s r hs)]
  rfl

/-- Settles O4: the table is read off `admittedIn`, request by request. -/
theorem availabilityTable : Obligations.AvailabilityTable :=
  ⟨unavailable_none_iff, fun _ _ _ _ hr h hf hs => exec_unavailable hr h hf hs⟩

end Sys2Proof.Machine
end

section
/-! ## The end of a command: reply, notices and outputs

What the end of a command leaves of a request's reply, of the notices queued and of the levels driven (R2, R182 to R185). -/

namespace Sys2Proof.Machine

/-! ### The link apart from its notices -/

/-- The link with notice queue, waiting list and overrun mark blanked: what no notice touches. -/
def LinkUnit.rest (u : LinkUnit) : LinkUnit := { u with notices := [], waiting := [], overrun := false }

theorem LinkUnit.rest_eq_iff {u v : LinkUnit} : u.rest = v.rest ↔
    u = { v with notices := u.notices, waiting := u.waiting, overrun := u.overrun } := by
  cases u
  cases v
  simp [LinkUnit.rest]

theorem LinkUnit.receive_of_rest {u v : LinkUnit} (h : u.rest = v.rest) : u.receive = v.receive := by
  rw [LinkUnit.rest_eq_iff.mp h]

theorem LinkUnit.busy_of_rest {u v : LinkUnit} (h : u.rest = v.rest) : u.busy = v.busy := by
  rw [LinkUnit.rest_eq_iff.mp h]

theorem LinkUnit.transmitter_of_rest {u v : LinkUnit} (h : u.rest = v.rest) : u.transmitter = v.transmitter := by
  rw [LinkUnit.rest_eq_iff.mp h]

/-- R183: the oldest waiting frame is read off the receive queue. -/
theorem LinkUnit.oldest_congr {u v : LinkUnit} (h : u.rest = v.rest) : u.oldest = v.oldest := by
  rw [LinkUnit.oldest, LinkUnit.oldest, LinkUnit.receive_of_rest h]

section Rest
variable (s : State)

@[simp] theorem rest_notify (b : NoticeBody) : (s.notify b).link.rest = s.link.rest := by
  rw [State.notify_link]
  rfl

@[simp] theorem rest_enter (b : NoticeBody) : (s.enter b).link.rest = s.link.rest := rfl
@[simp] theorem rest_await (r : Retained) : (s.await r).link.rest = s.link.rest := rfl
@[simp] theorem rest_withdraw (r : Retained) : (s.withdraw r).link.rest = s.link.rest := rfl

@[simp] theorem rest_setLine (state : LineState) (origin : Option LineState) (cause : Option HaltCause) (why : LineCause)
    (detail : CauseDetail) : (s.setLine state origin cause why detail).link.rest = s.link.rest := rest_notify ..

@[simp] theorem rest_enterSummary (slot : Nat) : (s.enterSummary slot).link.rest = s.link.rest := by
  unfold State.enterSummary
  split <;> rfl

@[simp] theorem rest_offerSummary (slot : Nat) : (s.offerSummary slot).link.rest = s.link.rest := by
  unfold State.offerSummary
  split
  · exact rest_enterSummary ..
  · exact rest_await ..

@[simp] theorem rest_retireTest (slot : Nat) : (s.retireTest slot).link.rest = s.link.rest := by
  unfold State.retireTest
  (repeat' split) <;> simp

@[simp] theorem rest_makeCurrent (slot : Nat) : (s.makeCurrent slot).link.rest = s.link.rest := by
  unfold State.makeCurrent
  dsimp only
  (repeat' split) <;> simp

@[simp] theorem rest_dropCurrent : s.dropCurrent.link.rest = s.link.rest := by
  unfold State.dropCurrent
  dsimp only
  split <;> simp

@[simp] theorem rest_endProving : s.endProving.link.rest = s.link.rest := by
  unfold State.endProving
  split <;> simp

@[simp] theorem rest_abortProving : s.abortProving.link.rest = s.link.rest := by
  unfold State.abortProving
  split <;> simp

@[simp] theorem rest_enterHalted (cause : HaltCause) : (s.enterHalted cause).link.rest = s.link.rest := by
  unfold State.enterHalted
  dsimp only
  split <;> split <;> simp

@[simp] theorem rest_emptyTest : s.emptyTest.link.rest = s.link.rest := by
  unfold State.emptyTest
  split <;> simp

end Rest

/-! ### The reply (R182, R183) -/

/-- R184: the choice of the next frame leaves the notices as they are. -/
theorem LinkUnit.choose_notices (u : LinkUnit) : u.choose.notices = u.notices := by rw [LinkUnit.choose_frame]
theorem LinkUnit.choose_waiting (u : LinkUnit) : u.choose.waiting = u.waiting := by rw [LinkUnit.choose_frame]
theorem LinkUnit.choose_overrun (u : LinkUnit) : u.choose.overrun = u.overrun := by rw [LinkUnit.choose_frame]

/-- R184: the link at the end of a command of a powered part with the pin released. -/
theorem State.finish_link (s : State) (hp : s.pin = false) (hw : s.powered = true) : s.finish.link = s.link.choose := by
  simp [State.finish, hp, hw]

/-- R184: while the pin is asserted the transmitter chooses nothing. -/
theorem State.finish_link_pin (s : State) (hp : s.pin = true) : s.finish.link = s.link := by simp [State.finish, hp]

@[simp] theorem State.finish_notices (s : State) : s.finish.link.notices = s.link.notices := by
  unfold State.finish
  dsimp only
  split
  · rfl
  · exact LinkUnit.choose_notices _

@[simp] theorem State.finish_waiting (s : State) : s.finish.link.waiting = s.link.waiting := by
  unfold State.finish
  dsimp only
  split
  · rfl
  · exact LinkUnit.choose_waiting _

@[simp] theorem State.replied_notices (s : State) (f : Frame) (b : ReplyBody) : (s.replied f b).link.notices = s.link.notices :=
  State.finish_notices _

@[simp] theorem State.replied_waiting (s : State) (f : Frame) (b : ReplyBody) : (s.replied f b).link.waiting = s.link.waiting :=
  State.finish_waiting _

/-- R184: a reply made stays in the queue, or is the one the transmitter chooses. -/
theorem LinkUnit.mem_choose {u : LinkUnit} {r : Reply} (h : Place.answered r ∈ u.receive) :
    Place.answered r ∈ u.choose.receive ∨ u.choose.transmitter = .reply r := by
  unfold LinkUnit.choose
  split
  · split
    · next q rest hq =>
      rw [hq] at h
      rcases List.mem_cons.mp h with h | h
      · cases h
        exact Or.inr rfl
      · exact Or.inl h
    · (repeat' split) <;> exact Or.inl h
  · exact Or.inl h

/-- R182, R183: the request handed on is answered. -/
theorem State.replied_made {s : State} {f : Frame} (h : s.link.oldest = some f) (b : ReplyBody) : Replied (s.replied f b) f b := by
  obtain ⟨rs, rest, hr⟩ := LinkUnit.oldest_split _ _ h
  have hmem : Place.answered ⟨replyKind f.kind, f.tag, b⟩ ∈ (s.answer f b).link.receive := by
    show _ ∈ answerOldest _ s.link.receive
    rw [hr, answerOldest_split]
    simp
  unfold State.replied State.finish
  dsimp only
  split
  · exact Or.inl hmem
  · exact LinkUnit.mem_choose hmem

/-- The reply is made whatever the owner did, as long as it left the receive queue. -/
theorem State.replied_made_of_rest {s u : State} {f : Frame} (h : s.link.oldest = some f) (hu : u.link.rest = s.link.rest)
    (b : ReplyBody) : Replied (u.replied f b) f b :=
  State.replied_made ((LinkUnit.oldest_congr hu).trans h) b

/-! ### Notices queued (R185) -/

theorem queued_congr {s t : State} {b : NoticeBody} (h : t.link.notices = s.link.notices) : Queued t b ↔ Queued s b := by
  unfold Queued
  rw [h]

@[simp] theorem queued_finish (s : State) (b : NoticeBody) : Queued s.finish b ↔ Queued s b := queued_congr (State.finish_notices s)

@[simp] theorem queued_replied (s : State) (f : Frame) (r : ReplyBody) (b : NoticeBody) : Queued (s.replied f r) b ↔ Queued s b :=
  queued_congr (State.replied_notices s f r)

/-- R185: with room the notice is queued. -/
theorem State.notify_queued {s : State} (b : NoticeBody) (h : Room s 1) : Queued (s.notify b) b :=
  ⟨⟨s.time.lineTime, b⟩, by rw [State.notify_link_room s b h]; simp, rfl⟩

/-- R185: one notice takes one place. -/
theorem Room.notify {s : State} {k : Nat} (h : Room s (k + 1)) (b : NoticeBody) : Room (s.notify b) k := by
  obtain ⟨hn, hw⟩ := h
  refine ⟨?_, by simpa using hw⟩
  rw [State.notify_link_room s b ⟨by omega, hw⟩]
  simp only [List.length_append, List.length_singleton]
  omega

theorem Room.mono {s : State} {j k : Nat} (h : Room s k) (hj : j ≤ k) : Room s j := ⟨by have := h.1; omega, h.2⟩

theorem room_congr {s t : State} {k : Nat} (h : t.link = s.link) : Room t k ↔ Room s k := by
  unfold Room
  rw [h]

/-- R185: no notice is taken out by another that is offered. -/
theorem Queued.notify {s : State} {b : NoticeBody} (h : Queued s b) (b' : NoticeBody) : Queued (s.notify b') b := by
  obtain ⟨n, hn, hb⟩ := h
  refine ⟨n, ?_, hb⟩
  by_cases hr : Room s 1
  · rw [State.notify_link_room s b' hr]
    exact List.mem_append_left _ hn
  · rw [State.notify_link_full s b' hr]
    exact hn

theorem Queued.enterSummary {s : State} {b : NoticeBody} (h : Queued s b) (slot : Nat) : Queued (s.enterSummary slot) b := by
  unfold State.enterSummary
  split
  · obtain ⟨n, hn, hb⟩ := h
    exact ⟨n, List.mem_append_left _ hn, hb⟩
  · exact h

theorem Queued.retireTest {s : State} {b : NoticeBody} (h : Queued s b) (slot : Nat) : Queued (s.retireTest slot) b := by
  have hlot : Queued (s.onLot slot fun l => { l with retired := some s.time.lineTime }) b := h
  unfold State.retireTest
  split
  · split
    · unfold State.offerSummary
      split
      · exact hlot.enterSummary slot
      · exact h
    · exact h
  · exact h

theorem Queued.dropCurrent {s : State} {b : NoticeBody} (h : Queued s b) : Queued s.dropCurrent b := by
  have hcur : Queued (s.onParcel fun u => { u with current := none }) b := h
  unfold State.dropCurrent
  dsimp only
  split
  · exact hcur.retireTest _
  · exact h

theorem Queued.endProving {s : State} {b : NoticeBody} (h : Queued s b) : Queued s.endProving b := by
  unfold State.endProving
  split
  · exact Queued.dropCurrent (s := s.onComm _) h
  · exact h

theorem Queued.abortProving {s : State} {b : NoticeBody} (h : Queued s b) : Queued s.abortProving b := by
  unfold State.abortProving
  split
  · exact h.endProving.notify _
  · exact h

/-- R14: the change of line state is queued. -/
theorem State.setLine_queued {s : State} (state : LineState) (origin : Option LineState) (cause : Option HaltCause)
    (why : LineCause) (detail : CauseDetail) (h : Room s 1) :
    Queued (s.setLine state origin cause why detail) (.lineState state (some s.line.state) why origin detail) :=
  State.notify_queued (s := s.onLine _) _ h

theorem Queued.setLine {s : State} {b : NoticeBody} (h : Queued s b) (state : LineState) (origin : Option LineState)
    (cause : Option HaltCause) (why : LineCause) (detail : CauseDetail) : Queued (s.setLine state origin cause why detail) b :=
  Queued.notify (s := s.onLine _) h _

theorem Room.setLine {s : State} {k : Nat} (h : Room s (k + 1)) (state : LineState) (origin : Option LineState)
    (cause : Option HaltCause) (why : LineCause) (detail : CauseDetail) : Room (s.setLine state origin cause why detail) k :=
  Room.notify (s := s.onLine _) h _

/-! ### The outputs (R2) -/

/-- R2: the outputs at the end of a command are those the records call for. -/
theorem State.finish_pins (s : State) : s.finish.pins = s.drivenPins := by
  unfold State.finish
  dsimp only
  split <;> rfl

theorem State.replied_pins (s : State) (f : Frame) (b : ReplyBody) : (s.replied f b).pins = s.drivenPins := State.finish_pins _

/-- R15: withdrawn while the pin is asserted or power is off. -/
theorem State.drivenPins_withdrawn {s : State} (h : s.pin = true ∨ s.powered = false) : s.drivenPins = .withdrawn := by
  rcases h with h | h <;> simp [State.drivenPins, h]

section Driven
variable {s : State} (hp : s.pin = false) (hw : s.powered = true)
include hp hw

theorem State.drivenPins_trackRun : s.drivenPins.trackRun = [1, 2, 3, 4].map s.trackRun := by simp [State.drivenPins, hp, hw]

theorem State.drivenPins_infeedRun : s.drivenPins.infeedRun = s.infeedRun := by simp [State.drivenPins, hp, hw]

end Driven

/-- R2: on a line that does not run no track runs. -/
theorem State.trackRun_rest {s : State} (h : s.line.state.runs = false) (n : Nat) : s.trackRun n = false := by
  unfold State.trackRun
  split
  · simp [h]
  · rfl

theorem State.infeedRun_rest {s : State} (h : s.line.state.runs = false) : s.infeedRun = false := by
  cases hs : s.line.state <;> simp_all [State.infeedRun, LineState.runs]

/-! ### Trip sources read the probe unit -/

theorem State.latch_congr {s t : State} (h : t.probe = s.probe) : t.latch = s.latch := by
  funext x
  cases x <;> simp [State.latch, h]

theorem State.route_congr {s t : State} (h : t.probe = s.probe) : t.route = s.route := by
  funext x
  cases x <;> simp [State.route, h]

theorem State.infeedHold_congr {s t : State} (h : t.probe = s.probe) : t.infeedHold = s.infeedHold := by
  unfold State.infeedHold
  rw [State.latch_congr h, State.route_congr h]

end Sys2Proof.Machine
end

section
/-! ## START (R3): the release of the sync hold -/

namespace Sys2Proof.Machine

/-! ### Tracks defined in order -/

/-- R33: tracks in order stand under rising numbers from 1 on. -/
theorem inOrder_wf {α : Type} {t : Table α} (h : inOrder t = true) : t.wf = true := by
  have hkeys : (t.map fun e => e.1) = (List.range t.length).map fun i => i + 1 := by
    exact of_decide_eq_true (Bool.and_elim_left h)
  rw [Table.wf_iff, hkeys, List.pairwise_map]
  exact (List.pairwise_lt_range).imp (by omega)

theorem inOrder_pos {α : Type} {t : Table α} (h : inOrder t = true) : ∀ e ∈ t, 1 ≤ e.1 := by
  have hkeys : (t.map fun e => e.1) = (List.range t.length).map fun i => i + 1 := by
    exact of_decide_eq_true (Bool.and_elim_left h)
  intro e he
  have hmem : e.1 ∈ t.map fun e => e.1 := List.mem_map.mpr ⟨e, he, rfl⟩
  rw [hkeys] at hmem
  obtain ⟨i, -, hi⟩ := List.mem_map.mp hmem
  omega

/-! ### The stall timers (R52) -/

/-- R52: the due of the stall timer of a track whose RUN is asserted, or what the timer held. -/
def stallDue (lineTime : Nat) (tr : Option Track) (old : Option Nat) : Option Nat :=
  match tr with
  | some tr => if tr.backedUp then old else some (min (lineTime + tr.stallLimit) Config.lineTimeMax)
  | none => old

theorem State.armFor_time (s : State) (id : TimerId) (ms : Nat) : (s.armFor id ms).time =
    { s.time with timers := s.time.timers.put id.index (min (s.time.lineTime + ms) Config.lineTimeMax) } := rfl

/-- R24: arming leaves the other timers. -/
theorem State.armFor_timers_ne (s : State) {id : TimerId} {i : Nat} (ms : Nat) (h : i ≠ id.index) :
    (s.armFor id ms).time.timers.get? i = s.time.timers.get? i := Table.get?_put_ne _ _ h

/-- Arming the stall timer of each of some tracks. -/
theorem armEach_get? (l : Table Track) (s : State) (hw : l.wf = true) (hpos : ∀ e ∈ l, 1 ≤ e.1) (i : Nat) :
    (State.each (fun e s => if e.2.backedUp then s else s.armFor (.stall e.1) e.2.stallLimit) l s).time.timers.get? i =
      stallDue s.time.lineTime (Table.get? l (i + 1)) (s.time.timers.get? i) := by
  induction l generalizing s with
  | nil => rfl
  | cons e l ih =>
    obtain ⟨n, tr⟩ := e
    have hn : 1 ≤ n := hpos (n, tr) (List.mem_cons_self ..)
    rw [Table.wf_iff, List.map_cons, List.pairwise_cons] at hw
    obtain ⟨hlt, hw'⟩ := hw
    have ih' := fun s => ih s ((Table.wf_iff l).mpr hw') fun e he => hpos e (List.mem_cons_of_mem _ he)
    rw [State.each, ih']
    simp only [Table.get?]
    by_cases hi : i + 1 = n
    · have hnone : Table.get? l (i + 1) = none := by
        cases hg : Table.get? l (i + 1) with
        | none => rfl
        | some v =>
          have hmem : i + 1 ∈ l.map fun e => e.1 := List.mem_map.mpr ⟨_, Table.mem_of_get? hg, rfl⟩
          have := hlt _ hmem
          omega
      have hindex : (TimerId.stall n).index = i := by simp only [TimerId.index]; omega
      rw [hnone, if_pos hi]
      cases hb : tr.backedUp with
      | true => simp [stallDue, hb]
      | false =>
        have hdue := State.armFor_due s (.stall n) tr.stallLimit
        rw [hindex] at hdue
        simp [stallDue, hb, hdue]
    · have hindex : i ≠ (TimerId.stall n).index := by simp only [TimerId.index]; omega
      rw [if_neg hi]
      cases hb : tr.backedUp with
      | true => simp
      | false => simp [State.armFor_timers_ne s _ hindex]

/-- R52: the timers once the stall timer of every defined track with RUN is armed. -/
theorem State.armStalls_get? {s : State} (h : inOrder s.track.tracks = true) (i : Nat) :
    s.armStalls.time.timers.get? i = stallDue s.time.lineTime (s.track.tracks.get? (i + 1)) (s.time.timers.get? i) :=
  armEach_get? _ _ (inOrder_wf h) (inOrder_pos h) i

/-- R52: arming stall timers touches nothing of the time base but the timers. -/
theorem State.armStalls_time (s : State) : s.armStalls.time = { s.time with timers := s.armStalls.time.timers } := by
  have hex : ∃ x, s.armStalls.time = { s.time with timers := x } := by
    unfold State.armStalls
    refine State.each_induct (fun t => ∃ x, t.time = { s.time with timers := x }) _ _ _ ⟨_, rfl⟩ fun e _ t ht => ?_
    split
    · exact ht
    · obtain ⟨x, hx⟩ := ht
      exact ⟨_, by rw [State.armFor_time, hx]⟩
  obtain ⟨x, hx⟩ := hex
  rw [hx]

/-! ### The sync hold (R3, R12, R41) -/

/-- R3, R41: a track at the release of the sync hold. -/
def Track.released (t : Track) : Track := { t with counter := 0, backedUp := false }

theorem Table.mapVals_mapVals {α β γ : Type} (f : Nat → α → β) (g : Nat → β → γ) (t : Table α) :
    (t.mapVals f).mapVals g = t.mapVals fun k v => g k (f k v) := by
  induction t with
  | nil => rfl
  | cons e t ih => obtain ⟨k, v⟩ := e; simp [Table.mapVals, ih]

/-- R33: what is done to every record leaves the order of the tracks. -/
@[simp] theorem inOrder_mapVals {α β : Type} (f : Nat → α → β) (t : Table α) : inOrder (t.mapVals f) = inOrder t := by
  simp [inOrder]

theorem State.releaseSync_tracks (s : State) :
    s.releaseSync.track = { s.track with tracks := s.track.tracks.mapVals fun _ t => t.released } := by
  unfold State.releaseSync
  rw [State.armStalls_track]
  exact congrArg (fun t => ({ s.track with tracks := t } : TrackUnit)) (Table.mapVals_mapVals ..)

theorem State.releaseSync_time (s : State) : s.releaseSync.time = { s.time with timers := s.releaseSync.time.timers } :=
  State.armStalls_time _

/-- R3, R52: every stall timer is armed. -/
theorem State.releaseSync_get? {s : State} (h : inOrder s.track.tracks = true) (i : Nat) :
    s.releaseSync.time.timers.get? i = match s.track.tracks.get? (i + 1) with
      | some tr => some (min (s.time.lineTime + tr.stallLimit) Config.lineTimeMax)
      | none => s.time.timers.get? i := by
  have htracks : s.holdCounters.clearBacked.track.tracks = s.track.tracks.mapVals fun _ t => t.released :=
    Table.mapVals_mapVals ..
  unfold State.releaseSync
  rw [State.armStalls_get? (by rw [htracks]; simpa using h), htracks, Table.get?_mapVals]
  cases s.track.tracks.get? (i + 1) <;> rfl

/-! ### START -/

/-- A request without fields, at hand in a line state of its row. -/
theorem taken_of_mem {s : State} {r : Request} {f : Frame} (h : AtHand s r f) (hs : s.line.state ∈ admittedIn r) : Taken s r f :=
  ⟨h, (unavailable_none_iff s r).mpr hs⟩

/-- R183: a request without fields is taken. -/
theorem exec_start_taken {s : State} {f : Frame} (h : AtHand s .start f) (hf : f.payload = []) (hs : s.line.state = .ready) :
    exec .start s = .next ((doStart () s).1.replied f (doStart () s).2) :=
  State.act_handOn s .start f parseNone doStart (taken_of_mem h (by simp [hs, admittedIn])) () (by rw [hf]; rfl)

/-- R3: the checks of START in their order. -/
theorem doStart_cases (s : State) :
    (UnlockInFlight s → doStart () s = s.refuse .busy) ∧
    (¬UnlockInFlight s → StopLatched s → doStart () s = s.refuse .tripLatched) ∧
    (¬UnlockInFlight s → ¬StopLatched s → ¬ProbesLive s → doStart () s = s.refuse .probeNotLive) ∧
    (¬UnlockInFlight s → ¬StopLatched s → ProbesLive s → ¬Declared s → doStart () s = s.refuse .noLot) ∧
    (¬UnlockInFlight s → ¬StopLatched s → ProbesLive s → Declared s →
      doStart () s = (s.releaseSync.setLine .running none none .start .absent, .status .ok)) := by
  simp only [← unlocking_iff, ← stopLatched_iff, ← probesLive_iff, ← declared_iff]
  refine ⟨fun h => ?_, fun h1 h2 => ?_, fun h1 h2 h3 => ?_, fun h1 h2 h3 h4 => ?_, fun h1 h2 h3 h4 => ?_⟩ <;>
    simp_all [doStart]

/-- R3: the state in which START leaves the line, before its reply. -/
def State.started (s : State) : State := s.releaseSync.setLine .running none none .start .absent

/-- R2, R3: on a started line RUN is asserted on every defined track. -/
theorem State.started_trackRun (s : State) (n : Nat) : s.started.trackRun n = (s.track.tracks.get? n).isSome := by
  have htrack : s.started.track.tracks = s.track.tracks.mapVals fun _ t => t.released := by
    simp [State.started, State.releaseSync_tracks]
  unfold State.trackRun
  rw [htrack, Table.get?_mapVals]
  cases s.track.tracks.get? n <;> rfl

/-- R2, R3: on a started line the infeed runs unless it is held. -/
theorem State.started_infeedRun (s : State) : s.started.infeedRun = !s.infeedHold := by
  have hhold : s.started.infeedHold = s.infeedHold := State.infeedHold_congr (by simp [State.started])
  unfold State.infeedRun
  rw [hhold]
  simp [State.started]

/-- Settles O10: the checks in their order; with none failing, the sync hold is released and the line runs. -/
theorem startRunsTheLine : Obligations.StartRunsTheLine := by
  intro s f h hf
  obtain ⟨hbusy, htrip, hprobe, hlot, hok⟩ := doStart_cases s
  refine ⟨fun hs => ?_, fun hs h1 => ?_, fun hs h1 h2 => ?_, fun hs h1 h2 h3 => ?_, fun hs h1 h2 h3 h4 => ?_,
    fun hs h1 h2 h3 h4 horder => ?_⟩
  · exact exec_unavailable rfl h (by rw [hf]; rfl) (by simpa [admittedIn] using hs)
  · rw [exec_start_taken h hf hs, hbusy h1]
    rfl
  · rw [exec_start_taken h hf hs, htrip h1 h2]
    rfl
  · rw [exec_start_taken h hf hs, hprobe h1 h2 h3]
    rfl
  · rw [exec_start_taken h hf hs, hlot h1 h2 h3 h4]
    rfl
  · have hexec : exec .start s = .next (s.started.replied f (.status .ok)) := by
      rw [exec_start_taken h hf hs, hok h1 h2 h3 h4]
      rfl
    obtain ⟨hpow, hpin, hold, -⟩ := h
    refine ⟨_, hexec, ?_, ?_, ?_, fun n => ?_, ?_, fun n => ?_, ?_, ?_, ?_, fun hroom => ?_⟩
    · apply State.ext_fields <;> simp [State.started]
    · simp [State.started]
    · simp [State.started, State.releaseSync_tracks]
    · simp [State.started, State.releaseSync_tracks]
      rfl
    · simpa [State.started] using State.releaseSync_time s
    · rw [State.replied_time]
      exact State.releaseSync_get? horder.1 n
    · rw [State.replied_pins, State.drivenPins_trackRun (by simpa [State.started] using hpin) (by simpa [State.started] using hpow)]
      exact List.map_congr_left fun n _ => s.started_trackRun n
    · rw [State.replied_pins, State.drivenPins_infeedRun (by simpa [State.started] using hpin) (by simpa [State.started] using hpow)]
      exact s.started_infeedRun
    · exact State.replied_made_of_rest hold (by simp [State.started]) _
    · rw [queued_replied]
      have hq := State.setLine_queued (s := s.releaseSync) .running none none .start .absent ((room_congr (by simp)).mpr hroom)
      rwa [State.releaseSync_line, hs] at hq

end Sys2Proof.Machine
end

section
/-! ## STOP and the entries to HALTED (R4 to R8, R53, R170) -/

namespace Sys2Proof.Machine

/-! ### Timers cancelled (R26) -/

/-- In canonical form a read after a deletion. -/
theorem Table.get?_del {α : Type} {t : Table α} (h : t.wf = true) (k n : Nat) :
    (t.del k).get? n = if n = k then none else t.get? n := by
  split
  · next e => rw [e, Table.get?_del_self k h]
  · next e => exact Table.get?_del_ne t e

theorem State.cancel_get? {s : State} (h : s.time.timers.wf = true) (id : TimerId) (n : Nat) :
    (s.cancel id).time.timers.get? n = if n = id.index then none else s.time.timers.get? n := Table.get?_del h _ _

theorem State.cancel_wf {s : State} (h : s.time.timers.wf = true) (id : TimerId) : (s.cancel id).time.timers.wf = true :=
  Table.wf_del _ h

theorem State.cancelStalls_wf {s : State} (h : s.time.timers.wf = true) : s.cancelStalls.time.timers.wf = true :=
  State.cancel_wf (State.cancel_wf (State.cancel_wf (State.cancel_wf h _) _) _) _

/-- R7: the four stall timers are the first four. -/
theorem State.cancelStalls_get? {s : State} (h : s.time.timers.wf = true) (n : Nat) :
    s.cancelStalls.time.timers.get? n = if n < 4 then none else s.time.timers.get? n := by
  have h1 := State.cancel_wf h (.stall 1)
  have h2 := State.cancel_wf h1 (.stall 2)
  have h3 := State.cancel_wf h2 (.stall 3)
  rw [State.cancelStalls, State.cancel_get? h3, State.cancel_get? h2, State.cancel_get? h1, State.cancel_get? h]
  simp only [TimerId.index]
  rcases Nat.lt_or_ge n 4 with hn | hn
  · interval_cases n <;> rfl
  · have h' : ∀ k, k < 4 → n ≠ k := by omega
    simp [h', Nat.not_lt.mpr hn]

/-! ### The end of a drain (R5) -/

/-- R5: the state in which an empty draining line stands. -/
def State.drained (s : State) : State :=
  ((s.cancel .drain).cancelStalls.holdCounters.clearBacked).setLine .ready none none .drained .absent

theorem State.emptyTest_drained {s : State} (h1 : s.line.state = .draining) (h2 : s.lineEmpty = true) : s.emptyTest = s.drained :=
  if_pos ⟨h1, h2⟩

theorem State.drained_track (s : State) :
    s.drained.track = { s.track with tracks := s.track.tracks.mapVals fun _ t => t.released } :=
  congrArg (fun t => ({ s.track with tracks := t } : TrackUnit)) (Table.mapVals_mapVals ..)

theorem State.drained_time (s : State) : s.drained.time = { s.time with timers := s.drained.time.timers } := rfl

/-- R5: stall timers and drain timer are cancelled. -/
theorem State.drained_get? {s : State} (h : s.time.timers.wf = true) (n : Nat) :
    s.drained.time.timers.get? n = if n ≤ 4 then none else s.time.timers.get? n := by
  show ((s.cancel .drain).cancelStalls).time.timers.get? n = _
  rw [State.cancelStalls_get? (State.cancel_wf h _), State.cancel_get? h]
  simp only [TimerId.index]
  rcases Nat.lt_trichotomy n 4 with hn | hn | hn
  · simp [hn, hn.le]
  · simp [hn]
  · have h1 : ¬n < 4 := by omega
    have h2 : n ≠ 4 := by omega
    have h3 : ¬n ≤ 4 := by omega
    simp [h1, h2, h3]

theorem State.drained_queued {s : State} (hs : s.line.state = .draining) (h : Room s 1) :
    Queued s.drained (.lineState .ready (some .draining) .drained none .absent) := by
  have hq := State.setLine_queued (s := (s.cancel .drain).cancelStalls.holdCounters.clearBacked) .ready none none .drained .absent h
  have hline : (s.cancel .drain).cancelStalls.holdCounters.clearBacked.line.state = .draining := hs
  rwa [hline] at hq

theorem Queued.drained {s : State} {b : NoticeBody} (h : Queued s b) : Queued s.drained b := by
  unfold State.drained
  refine Queued.setLine ?_ ..
  obtain ⟨n, hn, hb⟩ := h
  exact ⟨n, hn, hb⟩

/-! ### STOP (R4) -/

theorem parseStop_eq {bs : List Byte} (h : bs.length = 0 ∨ bs.length = 2) :
    parseStop bs = some (if bs = [] then none else some (leNat bs)) := by
  rcases bs with _ | ⟨a, _ | ⟨b, _ | ⟨c, l⟩⟩⟩
  · rfl
  · simp at h
  · rfl
  · simp at h

/-- R4: the state in which STOP leaves a running line, before the test for an empty one. -/
def State.stopped (limit : Nat) (s : State) : State :=
  ({ s with
      line := { s.line with state := .draining, origin := none, cause := none, drainLimit := limit }
      time := { s.time with timers := s.time.timers.put 4 (min (s.time.lineTime + limit * 1000) 281474976710655) } } :
    State).notify (.lineState .draining (some .running) .stop none .absent)

/-- R4: STOP in RUNNING. -/
theorem State.stop_running {s : State} (hs : s.line.state = .running) (o : Option Nat) :
    s.stop o = (s.stopped (o.getD s.line.drainLimit)).emptyTest := by
  have hset : ∀ u : State, u.line.state = .running →
      u.armDrain.setLine .draining none none .stop .absent = u.stopped u.line.drainLimit := fun u hu => by
    simp only [State.setLine, State.armDrain, State.stopped, State.armFor_line, hu]
    rfl
  unfold State.stop
  cases o with
  | none =>
    simp only [if_pos hs]
    rw [hset s hs]
    rfl
  | some l =>
    simp only [if_pos hs]
    rw [hset (s.onLine fun u => { u with drainLimit := l }) hs]
    rfl

/-- R4: STOP with a limit in DRAINING re-arms the drain timer. -/
theorem State.stop_draining {s : State} (hs : s.line.state = .draining) (limit : Nat) : s.stop (some limit) = { s with
    line := { s.line with drainLimit := limit }
    time := { s.time with timers := s.time.timers.put 4 (min (s.time.lineTime + limit * 1000) 281474976710655) } } := by
  have hrun : s.line.state ≠ .running := by simp [hs]
  unfold State.stop
  simp only [if_neg hrun]
  rfl

theorem State.stopped_line (s : State) (limit : Nat) :
    (s.stopped limit).line = { s.line with state := .draining, origin := none, cause := none, drainLimit := limit } := rfl
theorem State.stopped_time (s : State) (limit : Nat) : (s.stopped limit).time =
    { s.time with timers := s.time.timers.put 4 (min (s.time.lineTime + limit * 1000) 281474976710655) } := rfl
theorem State.stopped_track (s : State) (limit : Nat) : (s.stopped limit).track = s.track := rfl

theorem State.stopped_queued (s : State) (limit : Nat) (h : Room s 1) :
    Queued (s.stopped limit) (.lineState .draining (some .running) .stop none .absent) :=
  State.notify_queued (s := { s with line := _, time := _ }) _ h

theorem Room.stopped {s : State} {k : Nat} (h : Room s (k + 1)) (limit : Nat) : Room (s.stopped limit) k :=
  Room.notify (s := { s with line := _, time := _ }) h _

/-- R5: the emptiness of the line is read off the track unit. -/
theorem State.lineEmpty_congr {s t : State} (h : t.track = s.track) : t.lineEmpty = s.lineEmpty := by
  unfold State.lineEmpty
  rw [h]

theorem exec_stop_taken {s : State} {f : Frame} (h : AtHand s .stop f) (hf : f.payload.length = 0 ∨ f.payload.length = 2)
    (hs : s.line.state = .running ∨ s.line.state = .draining) :
    ∃ o, o = (if f.payload = [] then none else some (leNat f.payload)) ∧
      exec .stop s = .next ((doStop o s).1.replied f (doStop o s).2) :=
  ⟨_, rfl, State.act_handOn s .stop f parseStop doStop (taken_of_mem h (by rcases hs with hs | hs <;> simp [hs, admittedIn])) _
    (parseStop_eq hf)⟩

/-- R4: STOP with a limit that is absent or in its range. -/
theorem doStop_ok {o : Option Nat} (s : State) (h : ∀ l, o = some l → 10 ≤ l ∧ l ≤ 3600) : doStop o s = (s.stop o, .status .ok) := by
  cases o with
  | none => rfl
  | some l => simp [doStop, h l rfl]

/-- R4: STOP on a running line, with its limit. -/
theorem exec_stop_running {s : State} {f : Frame} {limit : Nat} (h : AtHand s .stop f)
    (hf : f.payload.length = 0 ∨ f.payload.length = 2)
    (hl : (f.payload = [] ∧ limit = s.line.drainLimit) ∨ (f.payload ≠ [] ∧ limit = leNat f.payload ∧ 10 ≤ limit ∧ limit ≤ 3600))
    (hs : s.line.state = .running) : exec .stop s = .next ((s.stopped limit).emptyTest.replied f (.status .ok)) := by
  obtain ⟨o, ho, hexec⟩ := exec_stop_taken h hf (Or.inl hs)
  have hrange : ∀ l, o = some l → 10 ≤ l ∧ l ≤ 3600 := fun l e => by
    rcases hl with ⟨he, -⟩ | ⟨hne, hlim, hr⟩
    · simp [ho, he] at e
    · simp only [ho, if_neg hne, Option.some.injEq] at e
      rwa [hlim, e] at hr
  have hlimit : o.getD s.line.drainLimit = limit := by
    rcases hl with ⟨he, hlim⟩ | ⟨hne, hlim, -⟩
    · simp [ho, he, hlim]
    · simp [ho, hne, hlim]
  rw [hexec, doStop_ok s hrange, State.stop_running hs, hlimit]

/-- Settles O11: only a line that is empty as it begins to drain goes on to READY. -/
theorem stopDrainsTheLine : Obligations.StopDrainsTheLine := by
  intro s f h hf
  refine ⟨fun hs hne hr => ?_, fun limit hl hs => ⟨fun he => ?_, fun he hwf => ?_⟩, fun hs he => ?_, fun limit hs hne hl h1 h2 => ?_⟩
  · obtain ⟨o, ho, hexec⟩ := exec_stop_taken h hf hs
    rw [hexec, ho, if_neg hne, doStop, if_neg hr]
    rfl
  · rw [exec_stop_running h hf hl hs, State.emptyTest_keep]
    · rfl
    · rw [State.lineEmpty_congr (s.stopped_track limit), he]
      simp
  · have hexec := exec_stop_running h hf hl hs
    rw [State.emptyTest_drained rfl ((State.lineEmpty_congr (s.stopped_track limit)).trans he)] at hexec
    have hwf' : (s.stopped limit).time.timers.wf = true := Table.wf_put _ _ hwf
    refine ⟨_, hexec, ?_, ?_, ?_, fun n => ?_, fun n => ?_, fun hroom => ?_, ?_⟩
    · apply State.ext_fields <;> simp [State.drained, State.stopped]
    · simp [State.drained, State.stopped_line]
    · rw [State.replied_time]
      rfl
    · rw [State.replied_time, State.drained_get? hwf']
      split
      · rfl
      · next hn => exact Table.get?_put_ne _ _ (by omega)
    · rw [State.replied_track, State.drained_track, State.stopped_track, Table.get?_mapVals]
      rfl
    · rw [queued_replied, queued_replied]
      exact ⟨(s.stopped_queued limit (hroom.mono (by omega))).drained, State.drained_queued rfl (hroom.stopped limit)⟩
    · obtain ⟨-, -, hold, -⟩ := h
      exact State.replied_made_of_rest hold (by simp [State.drained, State.stopped]) _
  · obtain ⟨o, ho, hexec⟩ := exec_stop_taken h hf (Or.inr hs)
    rw [hexec, ho, if_pos he, doStop_ok s (by simp)]
    simp [State.stop, hs]
  · obtain ⟨o, ho, hexec⟩ := exec_stop_taken h hf (Or.inr hs)
    rw [hexec, ho, if_neg hne, ← hl, doStop_ok s (by simp [h1, h2])]
    rw [State.stop_draining hs]

/-! ### The entry to HALTED (R7, R8) -/

/-- R26: the timers at the entry to HALTED. -/
theorem State.enterHalted_time (s : State) (cause : HaltCause) : (s.enterHalted cause).time =
    (if s.line.state = .draining then s.cancelStalls.cancel .drain else s.cancelStalls).time := by
  unfold State.enterHalted
  dsimp only
  split <;> split <;> simp

theorem State.enterHalted_time_frame (s : State) (cause : HaltCause) :
    (s.enterHalted cause).time = { s.time with timers := (s.enterHalted cause).time.timers } := by
  rw [State.enterHalted_time]
  split <;> rfl

/-- R7, R8: the stall timers are cancelled, and from DRAINING the drain timer. -/
theorem State.enterHalted_get? {s : State} (h : s.time.timers.wf = true) (cause : HaltCause) (n : Nat) :
    (s.enterHalted cause).time.timers.get? n =
      if n < 4 ∨ n = 4 ∧ s.line.state = .draining then none else s.time.timers.get? n := by
  rw [State.enterHalted_time]
  by_cases hd : s.line.state = .draining
  · rw [if_pos hd, State.cancel_get? (State.cancelStalls_wf h), State.cancelStalls_get? h]
    by_cases h4 : n = 4 <;> simp [h4, hd, TimerId.index]
  · rw [if_neg hd, State.cancelStalls_get? h]
    simp [hd]

/-- R8: the state of the line as LINE STATE is queued, before the end of a proving run. -/
def State.halting (s : State) (cause : HaltCause) : State :=
  (if s.line.state = .draining then s.cancelStalls.cancel .drain else s.cancelStalls).setLine .halted (some s.line.state)
    (some cause) cause.why cause.detail

theorem State.enterHalted_eq (s : State) (cause : HaltCause) : s.enterHalted cause =
    if s.line.state = .proving then (s.halting cause).abortProving else s.halting cause := rfl

theorem State.halting_comm (s : State) (cause : HaltCause) : (s.halting cause).comm = s.comm := by
  unfold State.halting
  split <;> rfl

theorem State.halting_parcel (s : State) (cause : HaltCause) : (s.halting cause).parcel = s.parcel := by
  unfold State.halting
  split <;> rfl

theorem State.halting_lineTime (s : State) (cause : HaltCause) : (s.halting cause).time.lineTime = s.time.lineTime := by
  unfold State.halting
  split <;> rfl

theorem State.halting_queued {s : State} (h : Room s 1) (cause : HaltCause) :
    Queued (s.halting cause) (.lineState .halted (some s.line.state) cause.why (some s.line.state) cause.detail) := by
  unfold State.halting
  split <;> exact State.setLine_queued _ _ _ _ _ h

theorem Room.halting {s : State} {k : Nat} (h : Room s (k + 1)) (cause : HaltCause) : Room (s.halting cause) k := by
  obtain ⟨hn, hw⟩ := h
  refine Room.setLine ?_ ..
  split <;> exact ⟨hn, hw⟩

/-- R14: LINE STATE is queued at the entry. -/
theorem State.enterHalted_queued {s : State} (h : Room s 1) (cause : HaltCause) :
    Queued (s.enterHalted cause) (.lineState .halted (some s.line.state) cause.why (some s.line.state) cause.detail) := by
  rw [State.enterHalted_eq]
  split
  · exact (State.halting_queued h cause).abortProving
  · exact State.halting_queued h cause

/-- R73, R185: a retirement test takes at most one entry. -/
theorem Room.retireTest {s : State} {k : Nat} (h : Room s (k + 1)) (slot : Nat) : Room (s.retireTest slot) k := by
  obtain ⟨hn, hw⟩ := h
  have hroom : s.link.hasRoom = true := by simp only [LinkUnit.hasRoom, decide_eq_true_eq]; omega
  unfold State.retireTest
  split
  · split
    · unfold State.offerSummary
      rw [if_pos (show (s.onLot slot _).link.hasRoom = true from hroom)]
      unfold State.enterSummary
      split
      · refine ⟨?_, hw⟩
        simp only [State.onParcel_link, State.enter_link, State.onLot_link, List.length_append, List.length_singleton]
        omega
      · exact ⟨by simp only [State.onLot_link]; omega, hw⟩
    · exact ⟨by omega, hw⟩
  · exact ⟨by omega, hw⟩

theorem Room.dropCurrent {s : State} {k : Nat} (h : Room s (k + 1)) : Room s.dropCurrent k := by
  unfold State.dropCurrent
  dsimp only
  split
  · exact Room.retireTest (s := s.onParcel fun u => { u with current := none }) h _
  · exact Room.mono h (by omega)

/-- R73: a retirement test leaves the current declaration. -/
theorem State.retireTest_current (s : State) (slot : Nat) : (s.retireTest slot).parcel.current = s.parcel.current := by
  obtain ⟨-, hcur, -⟩ := s.retireTest_parcels slot
  exact hcur

@[simp] theorem State.dropCurrent_current (s : State) : s.dropCurrent.parcel.current = none := by
  unfold State.dropCurrent
  dsimp only
  split
  · exact State.retireTest_current ..
  · rfl

/-- R170: the end of a RUNNING record. -/
theorem State.endProving_running {s : State} {r : ProvingRun} (h : s.comm.record = ⟨.running, some r⟩) : s.endProving =
    (s.onComm fun u => { u with record := ⟨.aborted, some { r with ended := some s.time.lineTime }⟩ }).dropCurrent := by
  simp [State.endProving, h]

/-- R170: without a RUNNING record nothing ends. -/
theorem State.endProving_other {s : State} (h : s.comm.record.result ≠ .running) : s.endProving = s := by
  unfold State.endProving
  split
  · next hr _ => exact absurd hr h
  · rfl

theorem State.abortProving_running {s : State} {r : ProvingRun} (h : s.comm.record = ⟨.running, some r⟩) : s.abortProving =
    (s.onComm fun u => { u with record := ⟨.aborted, some { r with ended := some s.time.lineTime }⟩ }).dropCurrent.notify
      (.provingResult ⟨.aborted, some { r with ended := some s.time.lineTime }⟩) := by
  unfold State.abortProving
  rw [if_pos (by rw [h]), State.endProving_running h]
  dsimp only
  rw [State.dropCurrent_comm]
  rfl

/-- R7, R8, R170: a command that enters HALTED, and at its end queues no notice more. -/
theorem State.haltedFrom {s u : State} (hp : s.pin = false) (hw : s.powered = true) (hwf : s.time.timers.wf = true)
    (cause : HaltCause) (hu : u = { s.enterHalted cause with link := u.link })
    (hn : u.link.notices = (s.enterHalted cause).link.notices) : HaltedFrom s u.finish cause := by
  have htime : u.time = (s.enterHalted cause).time := by rw [hu]
  have hcomm : u.comm = (s.enterHalted cause).comm := by rw [hu]
  have hparcel : u.parcel = (s.enterHalted cause).parcel := by rw [hu]
  have hline : u.line = (s.enterHalted cause).line := by rw [hu]
  have hrest : u.line.state.runs = false := by rw [hline, State.enterHalted_line]; rfl
  have hpin : u.pin = false := by rw [hu]; simpa using hp
  have hpow : u.powered = true := by rw [hu]; simpa using hw
  have hqueued : ∀ b, Queued u.finish b ↔ Queued (s.enterHalted cause) b := fun b => (queued_finish u b).trans (queued_congr hn)
  unfold HaltedFrom
  refine ⟨?_, ?_, ?_, fun n => ?_, fun hs => ?_, fun r hs hr => ?_, fun hroom => ?_, ?_, ?_⟩
  · have hframe : s.enterHalted cause = { s with
        line := (s.enterHalted cause).line, time := (s.enterHalted cause).time, parcel := (s.enterHalted cause).parcel
        comm := (s.enterHalted cause).comm, link := (s.enterHalted cause).link } := by
      apply State.ext_fields <;> simp
    rw [State.finish_frame, hu, hframe]
  · rw [State.finish_line, hline, State.enterHalted_line]
  · rw [State.finish_time, htime]
    exact State.enterHalted_time_frame s cause
  · rw [State.finish_time, htime]
    exact State.enterHalted_get? hwf cause n
  · rw [State.finish_comm, State.finish_parcel, hcomm, hparcel, State.enterHalted_eq, if_neg hs]
    exact ⟨s.halting_comm cause, s.halting_parcel cause⟩
  · have hrec : (s.halting cause).comm.record = ⟨.running, some r⟩ := by rw [State.halting_comm, hr]
    rw [State.finish_comm, State.finish_parcel, hcomm, hparcel, hqueued, State.enterHalted_eq, if_pos hs,
      State.abortProving_running hrec, State.halting_lineTime]
    refine ⟨?_, ?_, fun hroom => ?_⟩
    · simp [State.halting_comm]
    · simp
    · have hroom' : Room ((s.halting cause).onComm fun u =>
          { u with record := ⟨.aborted, some { r with ended := some s.time.lineTime }⟩ }) 2 := hroom.halting cause
      exact State.notify_queued _ hroom'.dropCurrent
  · exact (hqueued _).mpr (State.enterHalted_queued hroom cause)
  · rw [State.finish_pins, State.drivenPins_trackRun hpin hpow]
    simp [State.trackRun_rest hrest]
  · rw [State.finish_pins, State.drivenPins_infeedRun hpin hpow]
    exact State.infeedRun_rest hrest

theorem State.haltedFrom_replied {s : State} (hp : s.pin = false) (hw : s.powered = true) (hwf : s.time.timers.wf = true)
    (cause : HaltCause) (f : Frame) (b : ReplyBody) : HaltedFrom s ((s.enterHalted cause).replied f b) cause :=
  State.haltedFrom hp hw hwf cause (u := (s.enterHalted cause).answer f b) rfl rfl

/-- R25: a command that delivers an expiry, on a powered part with the pin released. -/
theorem State.act_expire {s : State} {id : TimerId} {owner : State → State} (hw : s.powered = true) (hp : s.pin = false)
    (h : id ∈ s.time.expired) : (s.act fun s => s.expire id owner) =
      .next (owner { s with time := { s.time with expired := s.time.expired.erase id } }).finish := by
  rw [State.act_powered _ _ hw, State.expire_some s id owner (List.contains_iff_mem.mpr h) hp]
  rfl

/-- R53: a stall in a running state halts the line, in another it marks the track alone. -/
theorem exec_stallExpiry {s : State} {n : Nat} (h1 : 1 ≤ n) (h4 : n ≤ 4) (hw : s.powered = true) (hp : s.pin = false)
    (h : TimerId.stall n ∈ s.time.expired) : exec (.stallTimerExpiry n) s = .next ((({ s with
      time := { s.time with expired := s.time.expired.erase (.stall n) }
      track := { s.track with tracks := s.track.tracks.modify n fun tr => { tr with stalled := true } } } : State).raiseHalt
        (.stall n)).finish) := by
  rw [exec, execStallTimerExpiry, if_pos (by simp [Instr.wellFormed, h1, h4]), State.act_expire hw hp h]
  rfl

/-- Settles O12: each entry is `enterHalted` followed at most by a reply, which `haltedFrom` describes once. -/
theorem haltsAreEntered : Obligations.HaltsAreEntered := by
  refine ⟨fun s f h hf hwf => ⟨fun hr => ?_, fun hs => ?_⟩, fun s f h hf hwf hs => ?_, fun s hw hp hwf hx => ⟨fun hs => ?_, fun hs => ?_⟩,
    fun s n h1 h4 hw hp hwf hx s1 hs1 => ⟨fun hr => ?_, fun hr => ?_⟩⟩
  · have hmem : s.line.state ∈ admittedIn .halt := by cases hs : s.line.state <;> simp_all [admittedIn, LineState.runs]
    have hne : s.line.state ≠ .halted := fun e => by simp [e, LineState.runs] at hr
    have hexec := State.act_handOn s .halt f parseNone doHalt (taken_of_mem h hmem) () (by rw [hf]; rfl)
    rw [doHalt, if_neg hne] at hexec
    obtain ⟨hw, hp, hold, -⟩ := h
    exact ⟨_, hexec, State.haltedFrom_replied hp hw hwf _ _ _, State.replied_made_of_rest hold (by simp) _⟩
  · have hexec := State.act_handOn s .halt f parseNone doHalt (taken_of_mem h (by simp [hs, admittedIn])) () (by rw [hf]; rfl)
    rwa [doHalt, if_pos hs] at hexec
  · have hexec := State.act_handOn s .proveAbort f parseNone doProveAbort (taken_of_mem h (by simp [hs, admittedIn])) ()
      (by rw [hf]; rfl)
    obtain ⟨hw, hp, hold, -⟩ := h
    exact ⟨_, hexec, State.haltedFrom_replied hp hw hwf _ _ _, State.replied_made_of_rest hold (by simp [doProveAbort]) _⟩
  · refine ⟨_, (State.act_expire hw hp hx).trans (congrArg (fun t : State => Host.Outcome.next t.finish) (if_pos hs)), ?_⟩
    exact State.haltedFrom (s := { s with time := { s.time with expired := s.time.expired.erase .drain } }) hp hw hwf _ rfl rfl
  · exact (State.act_expire hw hp hx).trans (congrArg (fun t : State => Host.Outcome.next t.finish) (if_neg hs))
  · subst hs1
    refine ⟨_, (exec_stallExpiry h1 h4 hw hp hx).trans (congrArg (fun t : State => Host.Outcome.next t.finish) (if_pos ⟨hr, hp⟩)), ?_⟩
    exact State.haltedFrom (s := { s with
      time := { s.time with expired := s.time.expired.erase (.stall n) }
      track := { s.track with tracks := s.track.tracks.modify n fun tr => { tr with stalled := true } } }) hp hw hwf _ rfl rfl
  · subst hs1
    exact (exec_stallExpiry h1 h4 hw hp hx).trans
      (congrArg (fun t : State => Host.Outcome.next t.finish) (State.raiseHalt_rest _ _ hr))

end Sys2Proof.Machine
end

section
/-! ## The reset state (R16, R31, R76, R98, R117, R141, R161, R176, R178, R191) -/

namespace Sys2Proof.Machine

/-- Power-on reads the image and the save in flight, and keeps the draws and the pending instructions of the model. -/
theorem State.powerUp_congr {s u : State} (h : s.store.keptImage = u.store.keptImage) (hd : s.draws = u.draws)
    (hp : s.pending = u.pending) (seen : List FieldInput) (baud : Nat) : s.powerUp seen baud = u.powerUp seen baud := by
  rw [State.powerUp, h, hd, hp, State.powerUp]

theorem StoreUnit.keptImage_none {u : StoreUnit} (h : u.image = none) : u.keptImage = none := by
  simp [StoreUnit.keptImage, h]

/-- The reset state comes back from its own power-on. -/
theorem powerUp_reset : (State.reset.powerUp [] (baudOf false false)).finish = State.reset := by decide +kernel

theorem powerOn_reset {s : State} (hi : s.store.image = none) (hd : s.draws = 0) (hp : s.pending = []) :
    exec (.powerOn [] false false) s = .next State.reset := by
  rw [exec, execPowerOn, if_pos (by decide), State.powerUp_congr (u := State.reset) _ hd hp, powerUp_reset]
  exact StoreUnit.keptImage_none hi

theorem lotsBalanced_reset : LotsBalanced State.reset := by unfold LotsBalanced; decide +kernel

theorem timeInRange_reset : TimeInRange State.reset := by unfold TimeInRange; decide +kernel

theorem linkInBounds_reset : LinkInBounds State.reset := by unfold LinkInBounds; decide +kernel

theorem tablesCanonical_reset : TablesCanonical State.reset := by unfold TablesCanonical; decide +kernel

theorem lockFollowsLine_reset : LockFollowsLine State.reset := by unfold LockFollowsLine; decide +kernel

theorem provingFollowsLine_reset : ProvingFollowsLine State.reset := by unfold ProvingFollowsLine; decide +kernel

theorem tracksInOrder_reset : TracksInOrder State.reset := by unfold TracksInOrder; decide +kernel

theorem unitsNumbered_reset : UnitsNumbered State.reset := by unfold UnitsNumbered; decide +kernel

/-- Settles O60: each invariant is a closed fact about the one reset state, and power-on reads nothing but the image. -/
theorem resetState : Obligations.ResetState :=
  ⟨⟨lotsBalanced_reset, timeInRange_reset, linkInBounds_reset, tablesCanonical_reset, lockFollowsLine_reset,
    provingFollowsLine_reset, tracksInOrder_reset, unitsNumbered_reset⟩, fun _ hi hd hp => powerOn_reset hi hd hp⟩

end Sys2Proof.Machine
end

section
/-! ## The end of a save (R12, R172 to R175, R178) -/

namespace Sys2Proof.Machine

/-- R174: image and lock at the end of save `v`, before line and link take part. -/
def State.saved (v : Save) (ok : Bool) (s : State) : State :=
  { s with store := s.store.finishSave v ok, comm := { s.comm with locked := v.kind.lockAfter ok s.comm.locked } }

@[simp] theorem State.saved_line (s : State) (v : Save) (ok : Bool) : (s.saved v ok).line = s.line := rfl

theorem Queued.clearBacked {s : State} {b : NoticeBody} (h : Queued s b) : Queued s.clearBacked b := h

/-- R172, R173, R175: the lock after a save, by its kind. -/
theorem SaveKind.lockAfter_eq (k : SaveKind) (ok working : Bool) : k.lockAfter ok working =
    if ok = true ∧ k = .commission then true else if ok = true ∧ k = .unlock then false else working := by
  cases ok <;> cases k <;> rfl

theorem State.endSave_pinned {s : State} (hp : s.pin = true) (v : Save) (ok : Bool) : s.endSave v ok =
    (s.saved v ok).onStore fun u => { u with owed := some (v.kind, ok, v.image.generation) } := if_pos hp

theorem State.endSave_failed {s : State} (hp : s.pin = false) (v : Save) : s.endSave v false =
    (s.saved v false).notify (.storeResult v.kind false v.image.generation) := if_neg (by simp [hp])

theorem State.endSave_completed {s : State} (hp : s.pin = false) (v : Save) : s.endSave v true =
    ((s.saved v true).notify (.storeResult v.kind true v.image.generation)).lineAfterSave v.kind :=
  if_neg (by simp [hp])

/-- R172: COMMISSION is saved on a line in SETUP. -/
theorem State.endSave_commission {s : State} (hp : s.pin = false) (image : StoredSet) (hl : s.line.state = .setup) :
    s.endSave ⟨.commission, image⟩ true = ((s.saved ⟨.commission, image⟩ true).notify
      (.storeResult .commission true image.generation)).clearBacked.setLine .ready none none .commissioned .absent := by
  rw [State.endSave_completed hp, State.lineAfterSave_commission (by simpa [State.saved] using hl)]

/-- R173: UNLOCK is saved on a line in READY. -/
theorem State.endSave_unlock {s : State} (hp : s.pin = false) (image : StoredSet) (hl : s.line.state = .ready) :
    s.endSave ⟨.unlock, image⟩ true = ((s.saved ⟨.unlock, image⟩ true).notify
      (.storeResult .unlock true image.generation)).setLine .setup none none .unlocked .absent := by
  rw [State.endSave_completed hp, State.lineAfterSave_unlock (by simpa [State.saved] using hl)]

theorem State.endSave_store {s : State} (hp : s.pin = false) (image : StoredSet) : s.endSave ⟨.store, image⟩ true =
    (s.saved ⟨.store, image⟩ true).notify (.storeResult .store true image.generation) := by
  rw [State.endSave_completed hp, State.lineAfterSave_store]

/-- R172, R173: while the pin is released a save in flight that moves the lock stands on the state it moves. -/
theorem line_of_saveFits {s : State} (hp : s.pin = false) (h : saveFits s = true) (image : StoredSet) :
    (s.store.save = some ⟨.commission, image⟩ → s.line.state = .setup) ∧
      (s.store.save = some ⟨.unlock, image⟩ → s.line.state = .ready) := by
  refine ⟨fun hv => ?_, fun hv => ?_⟩ <;> simp_all [saveFits]

/-- SAVE END with a save in flight, on a powered part. -/
theorem exec_saveEnd {s : State} {v : Save} (hw : s.powered = true) (hv : s.store.save = some v) (ok : Bool) :
    exec (.saveEnd ok) s = .next (s.endSave v ok).finish := by
  rw [exec, execSaveEnd, State.act_powered _ _ hw, hv]

/-- R174, R178: what the end of a save leaves alone, on the whole. -/
theorem State.lineAfterSave_frame (s : State) (k : SaveKind) : s.lineAfterSave k =
    { s with line := (s.lineAfterSave k).line, track := (s.lineAfterSave k).track, link := (s.lineAfterSave k).link } := by
  unfold State.lineAfterSave
  split <;> apply State.ext_fields <;> simp

theorem State.endSave_frame (s : State) (v : Save) (ok : Bool) : s.endSave v ok =
    { s.saved v ok with line := (s.endSave v ok).line, track := (s.endSave v ok).track
                        store := { (s.saved v ok).store with owed := (s.endSave v ok).store.owed }
                        link := (s.endSave v ok).link } := by
  by_cases hp : s.pin = true
  · rw [State.endSave_pinned hp]
    rfl
  · have hp : s.pin = false := by simpa using hp
    cases ok with
    | false => rw [State.endSave_failed hp, State.notify_frame]
    | true =>
      rw [State.endSave_completed hp, State.lineAfterSave_frame]
      apply State.ext_fields <;> simp

/-- Settles O54: with the pin asserted the result is owed; otherwise by the kind of the save, which says what state the line
is in. -/
theorem savesEnd : Obligations.SavesEnd := by
  intro s v ok hw hv locked hlocked hinv
  have hframe := s.endSave_frame v ok
  have hcomm : (s.endSave v ok).comm = { s.comm with locked := locked } := by
    rw [hframe, hlocked, ← SaveKind.lockAfter_eq]
    rfl
  have hstore : (s.endSave v ok).store = { s.store.finishSave v ok with owed := (s.endSave v ok).store.owed } :=
    congrArg State.store hframe
  refine ⟨_, exec_saveEnd hw hv ok, ?_, ?_, ?_, fun hp => ?_, fun hp => ?_⟩
  · apply State.ext_fields <;> simp [hcomm] <;> (rw [hframe]; rfl)
  · rw [State.finish_store, hstore]
    rfl
  · rw [State.finish_store, hstore]
    rfl
  · have hpin : (s.endSave v ok).pin = true := by rw [hframe]; exact hp
    rw [State.finish_link_pin _ hpin, State.finish_line, State.finish_track, State.finish_store, State.endSave_pinned hp]
    exact ⟨rfl, rfl, rfl, rfl⟩
  · obtain ⟨kind, image⟩ := v
    obtain ⟨hsetup, hready⟩ := line_of_saveFits hp hinv.2 image
    have hresult : ∀ k, Room s (k + 1) → Room ((s.saved ⟨kind, image⟩ ok).notify (.storeResult kind ok image.generation)) k :=
      fun k hr => Room.notify (s := s.saved _ _) hr _
    have hqueue : Room s 1 → Queued ((s.saved ⟨kind, image⟩ ok).notify (.storeResult kind ok image.generation))
        (.storeResult kind ok image.generation) := fun hr => State.notify_queued (s := s.saved _ _) _ hr
    simp only [queued_finish, State.finish_line, State.finish_track, State.finish_store]
    cases ok with
    | false =>
      rw [State.endSave_failed hp]
      exact ⟨rfl, hqueue, nofun, nofun, fun _ => ⟨rfl, rfl⟩⟩
    | true =>
      cases kind with
      | store =>
        rw [State.endSave_store hp]
        exact ⟨rfl, hqueue, nofun, nofun, fun _ => ⟨rfl, rfl⟩⟩
      | commission =>
        rw [State.endSave_commission hp image (hsetup hv)]
        refine ⟨rfl, fun hr => (hqueue hr).clearBacked.setLine .., fun _ _ => ⟨rfl, fun hr => ?_⟩, nofun, nofun⟩
        have := State.setLine_queued (s := ((s.saved ⟨.commission, image⟩ true).notify
          (.storeResult .commission true image.generation)).clearBacked) .ready none none .commissioned .absent (hresult 1 hr)
        simpa [hsetup hv] using this
      | unlock =>
        rw [State.endSave_unlock hp image (hready hv)]
        refine ⟨rfl, fun hr => Queued.setLine (hqueue hr) .., nofun, fun _ _ => ⟨rfl, fun hr => ?_⟩, nofun⟩
        have := State.setLine_queued .setup none none .unlocked .absent (hresult 1 hr)
        simpa [hready hv] using this

end Sys2Proof.Machine
end

section
/-! ## RESUME (R10): the return to the halt origin -/

namespace Sys2Proof.Machine

/-- R33: tracks in order are numbered from 1 to 4. -/
theorem inOrder_bounds {α : Type} {t : Table α} (h : inOrder t = true) {n : Nat} {v : α} (hn : t.get? n = some v) :
    1 ≤ n ∧ n ≤ 4 := by
  have hmem := Table.mem_of_get? hn
  obtain ⟨hkeys, hlen⟩ : (t.map fun e => e.1) = ((List.range t.length).map fun i => i + 1) ∧ t.length ≤ 4 := by
    simpa [inOrder] using h
  have hkey : n ∈ t.map fun e => e.1 := List.mem_map.mpr ⟨_, hmem, rfl⟩
  rw [hkeys] at hkey
  obtain ⟨i, hi, rfl⟩ := List.mem_map.mp hkey
  have := List.mem_range.mp hi
  omega

theorem Table.all_mapVals {α β : Type} (f : Nat → α → β) (p : Nat × β → Bool) (t : Table α) :
    (t.mapVals f).all p = t.all fun e => p (e.1, f e.1 e.2) := by
  induction t with
  | nil => rfl
  | cons e t ih => exact congrArg _ ih

/-- R10: the line with its tracks cleared and its timers armed for the return to `origin`. -/
def State.rearmed (origin : LineState) (s : State) : State :=
  let s1 := (s.onTrack fun u => { u with tracks := u.tracks.mapVals fun _ t => t.resume }).armStalls
  if origin = .draining then s1.armDrain else s1

/-- R10: the line back in its origin, before an empty line that drains passes on to READY. -/
def State.resumed (origin : LineState) (s : State) : State := (s.rearmed origin).setLine origin none none .resume .absent

theorem State.resumeTo_eq (origin : LineState) (s : State) : s.resumeTo origin = (s.resumed origin).emptyTest := rfl

/-- R10: the checks of RESUME in their order. -/
theorem doResume_cases {s : State} {origin : LineState} (ho : s.line.origin = some origin) :
    (origin = .proving → doResume () s = s.refuse .wrongState) ∧
    (origin ≠ .proving → StopLatched s → doResume () s = s.refuse .tripLatched) ∧
    (origin ≠ .proving → ¬StopLatched s → ¬ProbesLive s → doResume () s = s.refuse .probeNotLive) ∧
    (origin = .running → ¬StopLatched s → ProbesLive s → ¬Declared s → doResume () s = s.refuse .noLot) ∧
    (origin = .running ∧ Declared s ∨ origin = .draining → ¬StopLatched s → ProbesLive s →
      doResume () s = ((s.resumed origin).emptyTest, .status .ok)) := by
  simp only [← stopLatched_iff, ← probesLive_iff, ← declared_iff]
  refine ⟨fun h => ?_, fun h1 h2 => ?_, fun h1 h2 h3 => ?_, fun h1 h2 h3 h4 => ?_, fun h1 h2 h3 => ?_⟩
  case refine_5 => rcases h1 with ⟨h1, h4⟩ | h1 <;> simp_all [doResume, State.resumeTo_eq]
  all_goals simp_all [doResume]

section Resumed
variable (s : State) (origin : LineState)

theorem State.rearmed_time : (s.rearmed origin).time = { s.time with timers := (s.rearmed origin).time.timers } := by
  unfold State.rearmed
  dsimp only
  split
  · rw [State.armDrain, State.armFor_time, State.armStalls_time]
    rfl
  · exact State.armStalls_time _

/-- R10: arming and clearing leave everything but tracks and timers. -/
theorem State.rearmed_frame : s.rearmed origin = { s with
    time := { s.time with timers := (s.rearmed origin).time.timers }
    track := { s.track with tracks := s.track.tracks.mapVals fun _ t => t.resume } } := by
  apply State.ext_fields
  case h3 => exact s.rearmed_time origin
  all_goals
    unfold State.rearmed
    dsimp only
    split <;> simp [State.armDrain]

@[simp] theorem State.rearmed_line : (s.rearmed origin).line = s.line := by rw [State.rearmed_frame]
@[simp] theorem State.rearmed_link : (s.rearmed origin).link = s.link := by rw [State.rearmed_frame]

@[simp] theorem State.rearmed_track : (s.rearmed origin).track =
    { s.track with tracks := s.track.tracks.mapVals fun _ t => t.resume } := by rw [State.rearmed_frame]

theorem State.resumed_line : (s.resumed origin).line = { s.line with state := origin, origin := none, cause := none } := by
  simp [State.resumed]

theorem State.resumed_track : (s.resumed origin).track =
    { s.track with tracks := s.track.tracks.mapVals fun _ t => t.resume } := by simp [State.resumed]

theorem State.resumed_rest : (s.resumed origin).link.rest = s.link.rest := by simp [State.resumed]

/-- R10: what RESUME leaves alone. -/
theorem State.resumed_frame : s.resumed origin = { s with
    line := (s.resumed origin).line, time := (s.resumed origin).time, track := (s.resumed origin).track
    link := (s.resumed origin).link } := by
  unfold State.resumed
  rw [State.setLine_frame, State.rearmed_frame]

/-- R10: no queue and no cell changes. -/
theorem State.resumed_lineEmpty : (s.resumed origin).lineEmpty = s.lineEmpty := by
  unfold State.lineEmpty
  rw [State.resumed_track]
  rw [Table.all_mapVals]
  rfl

end Resumed

/-- R10, R52: the stall timer of a track whose RUN is asserted on the return. -/
theorem State.rearmed_stall {s : State} (origin : LineState) (h : inOrder s.track.tracks = true) {n : Nat} {tr : Track}
    (hn : s.track.tracks.get? n = some tr) (hb : tr.resume.backedUp = false) :
    (s.rearmed origin).time.timers.get? (n - 1) = some (min (s.time.lineTime + tr.stallLimit) Config.lineTimeMax) := by
  obtain ⟨h1, h4⟩ := inOrder_bounds h hn
  have harmed : ((s.onTrack fun u => { u with tracks := u.tracks.mapVals fun _ t => t.resume }).armStalls).time.timers.get? (n - 1) =
      some (min (s.time.lineTime + tr.stallLimit) Config.lineTimeMax) := by
    rw [State.armStalls_get? (by simpa using h), Nat.sub_add_cancel h1, State.onTrack_track, Table.get?_mapVals, hn]
    simp only [Option.map_some, stallDue, hb, Bool.false_eq_true, if_false]
    rfl
  unfold State.rearmed
  dsimp only
  split
  · exact (State.armFor_timers_ne _ _ (by simp only [TimerId.index]; omega)).trans harmed
  · exact harmed

/-- R4, R10: the drain timer on a return to DRAINING. -/
theorem State.rearmed_drain (s : State) : (s.rearmed .draining).time.timers.get? 4 =
    some (min (s.time.lineTime + s.line.drainLimit * 1000) Config.lineTimeMax) := by
  have harmed : s.rearmed .draining =
      (s.onTrack fun u => { u with tracks := u.tracks.mapVals fun _ t => t.resume }).armStalls.armDrain := by
    simp only [State.rearmed, if_true]
  have hdue := State.armFor_due (s.onTrack fun u => { u with tracks := u.tracks.mapVals fun _ t => t.resume }).armStalls .drain
    (s.line.drainLimit * 1000)
  rw [State.armStalls_lineTime] at hdue
  rw [harmed, State.armDrain, State.armStalls_line]
  exact hdue

theorem State.resumed_queued {s : State} (origin : LineState) (hs : s.line.state = .halted) (h : Room s 1) :
    Queued (s.resumed origin) (.lineState origin (some .halted) .resume none .absent) := by
  have hq := State.setLine_queued origin none none .resume .absent ((room_congr (s.rearmed_link origin)).mpr h)
  rwa [State.rearmed_line, hs] at hq

theorem Room.resumed {s : State} {k : Nat} (origin : LineState) (h : Room s (k + 1)) : Room (s.resumed origin) k :=
  Room.setLine ((room_congr (s.rearmed_link origin)).mpr h) ..

theorem Queued.emptyTest {s : State} {b : NoticeBody} (h : Queued s b) : Queued s.emptyTest b := by
  unfold State.emptyTest
  split
  · exact h.drained
  · exact h

/-- RESUME is taken in HALTED. -/
theorem exec_resume_taken {s : State} {f : Frame} (h : AtHand s .resume f) (hf : f.payload = []) (hs : s.line.state = .halted) :
    exec .resume s = .next ((doResume () s).1.replied f (doResume () s).2) :=
  State.act_handOn s .resume f parseNone doResume (taken_of_mem h (by simp [hs, admittedIn])) () (by rw [hf]; rfl)

/-- Settles O13: the checks in their order; with none failing, the emptied line alone goes on to READY. -/
theorem resumeReturns : Obligations.ResumeReturns := by
  intro s f origin h hf hs ho
  obtain ⟨hwrong, htrip, hprobe, hlot, hok⟩ := doResume_cases ho
  have hexec := exec_resume_taken h hf hs
  refine ⟨fun h1 => ?_, fun h1 h2 => ?_, fun h1 h2 h3 => ?_, fun h1 h2 h3 h4 => ?_, fun h1 h2 h3 horder => ?_⟩
  · rw [hexec, hwrong h1]
    rfl
  · rw [hexec, htrip h1 h2]
    rfl
  · rw [hexec, hprobe h1 h2 h3]
    rfl
  · rw [hexec, hlot h1 h2 h3 h4]
    rfl
  · rw [hok h1 h2 h3] at hexec
    obtain ⟨-, -, hold, -⟩ := h
    refine ⟨_, hexec, ?_, ?_, fun hroom => ?_, fun hkeep => ?_, fun hd he => ?_⟩
    · apply State.ext_fields <;> simp <;> (rw [State.resumed_frame])
    · exact State.replied_made_of_rest hold (by rw [rest_emptyTest, State.resumed_rest]) _
    · rw [queued_replied]
      exact (State.resumed_queued origin hs hroom).emptyTest
    · have hstay : (s.resumed origin).emptyTest = s.resumed origin := by
        refine State.emptyTest_keep _ fun hd => ?_
        rw [State.resumed_line, State.resumed_lineEmpty] at hd
        rcases hkeep with hk | hk <;> simp_all
      rw [hstay, State.replied_line, State.replied_track, State.replied_time, State.resumed_line, State.resumed_track]
      refine ⟨rfl, rfl, fun n => Table.get?_mapVals .., fun n tr hn hb => ?_, fun hd => ?_⟩
      · exact State.rearmed_stall origin horder.1 hn hb
      · subst hd
        exact s.rearmed_drain
    · subst hd
      have hstate : (s.resumed .draining).line.state = .draining := by rw [State.resumed_line]
      rw [State.emptyTest_drained hstate ((s.resumed_lineEmpty _).trans he), State.replied_line]
      refine ⟨?_, fun hroom => ?_⟩
      · simp [State.drained, State.resumed_line]
      · rw [queued_replied]
        exact State.drained_queued hstate (hroom.resumed _)

end Sys2Proof.Machine
end

section
/-! ## CLEAR (R11, R69, R73) -/

namespace Sys2Proof.Machine

/-! ### Parcels lost (R69) -/

/-- R69: a lot that has lost `n` live parcels. -/
def Lot.loseMany (n : Count) (l : Lot) : Lot := { l with lost := l.lost + n, live := l.live - n }

theorem Lot.loseMany_zero (l : Lot) : l.loseMany 0 = l := by simp [Lot.loseMany]

/-- R69: one more parcel lost first. -/
theorem Lot.loseMany_lose (l : Lot) (n : Nat) : l.lose.loseMany (BitVec.ofNat 32 n) = l.loseMany (BitVec.ofNat 32 (n + 1)) := by
  have hcount : BitVec.ofNat 32 (n + 1) = 1 + BitVec.ofNat 32 n := by rw [Nat.add_comm]; exact BitVec.ofNat_add 1 n
  have hlive : l.live - 1 - BitVec.ofNat 32 n = l.live - (1 + BitVec.ofNat 32 n) := by bv_omega
  rw [hcount, Lot.loseMany, Lot.loseMany, ← hlive, ← BitVec.add_assoc]
  rfl

/-- R69: the lot of a slot once some parcels are lost. -/
theorem loseEach_get? (ps : List Parcel) (s : State) (slot : Nat) :
    (State.each (fun p s => s.onLot p.slot Lot.lose) ps s).parcel.lots.get? slot =
      (s.parcel.lots.get? slot).map (Lot.loseMany (BitVec.ofNat 32 (ps.filter fun p => decide (p.slot = slot)).length)) := by
  induction ps generalizing s with
  | nil =>
    have hid : Lot.loseMany 0 = id := funext Lot.loseMany_zero
    show s.parcel.lots.get? slot = (s.parcel.lots.get? slot).map (Lot.loseMany 0)
    rw [hid, Option.map_id, id]
  | cons p ps ih =>
    rw [State.each, ih, State.onLot_lots]
    by_cases hp : p.slot = slot
    · subst hp
      rw [Table.get?_modify_self]
      cases h : s.parcel.lots.get? p.slot <;> simp [Lot.loseMany_lose]
    · rw [Table.get?_modify_ne _ _ (Ne.symm hp)]
      simp [hp]

/-- R69: counting lost parcels changes the lots alone. -/
theorem loseEach_frame (ps : List Parcel) (s : State) : State.each (fun p s => s.onLot p.slot Lot.lose) ps s =
    { s with parcel := { s.parcel with lots := (State.each (fun p s => s.onLot p.slot Lot.lose) ps s).parcel.lots } } := by
  have hex : ∃ x, State.each (fun p s => s.onLot p.slot Lot.lose) ps s = { s with parcel := { s.parcel with lots := x } } := by
    refine State.each_induct (fun t => ∃ x, t = { s with parcel := { s.parcel with lots := x } }) _ _ _ ⟨_, rfl⟩
      fun p _ t ⟨x, hx⟩ => ⟨x.modify p.slot Lot.lose, ?_⟩
    rw [hx]
    rfl
  obtain ⟨x, hx⟩ := hex
  rw [hx]

theorem loseEach_wf (ps : List Parcel) (s : State) (h : s.parcel.lots.wf = true) :
    (State.each (fun p s => s.onLot p.slot Lot.lose) ps s).parcel.lots.wf = true :=
  State.each_induct (fun t => t.parcel.lots.wf = true) _ _ _ h fun p _ t ht => by simpa using ht

theorem State.loseAll_track (s : State) : s.loseAll.track =
    { tracks := s.track.tracks.mapVals fun _ t => t.clear, cells := [] } := by
  unfold State.loseAll
  rw [loseEach_frame]
  rfl

theorem State.loseAll_parcel (s : State) : s.loseAll.parcel = { s.parcel with parcels := [], lots := s.loseAll.parcel.lots } := by
  unfold State.loseAll
  rw [loseEach_frame]
  rfl

theorem State.loseAll_frame (s : State) : s.loseAll = { s with track := s.loseAll.track, parcel := s.loseAll.parcel } := by
  unfold State.loseAll
  rw [loseEach_frame]
  rfl

theorem State.loseAll_lots (s : State) : s.loseAll.parcel.lots =
    (State.each (fun p s => s.onLot p.slot Lot.lose) s.parcel.parcels.vals s).parcel.lots := rfl

/-- R11, R69: every live parcel is LOST in its lot's account. -/
theorem State.loseAll_get? (s : State) (slot : Nat) :
    s.loseAll.parcel.lots.get? slot = (s.parcel.lots.get? slot).map (Lot.loseMany (s.liveOf slot)) := by
  rw [State.loseAll_lots, loseEach_get?, State.liveOf, Table.vals, List.filter_map, List.length_map]
  rfl

/-! ### Retirement tests in a row (R73) -/

/-- R73: the summary of lot `l` stands in the notice queue and its slot is FREE, or it waits and the lot is RETIRING. -/
def Summarised (t : State) (slot : Nat) (l : Lot) : Prop :=
  t.parcel.lots.get? slot = none ∧ Queued t (.lotSummary slot l) ∨
    t.parcel.lots.get? slot = some l ∧ .lotSummary slot ∈ t.link.waiting

/-- R73: a retirement test touches the lot of its own slot alone. -/
theorem State.retireTest_get?_ne (s : State) {slot j : Nat} (h : j ≠ slot) :
    (s.retireTest slot).parcel.lots.get? j = s.parcel.lots.get? j := by
  unfold State.retireTest State.offerSummary State.enterSummary
  (repeat' split) <;> simp [State.await, State.enter, Table.get?_modify_ne, Table.get?_del_ne, h]

/-- R185: a retained notice that waits goes on waiting. -/
theorem State.retireTest_waiting {s : State} {r : Retained} (h : r ∈ s.link.waiting) (slot : Nat) :
    r ∈ (s.retireTest slot).link.waiting := by
  unfold State.retireTest State.offerSummary State.enterSummary
  (repeat' split) <;> simp [State.await, State.enter, h]

theorem State.retireTest_wf {s : State} (h : s.parcel.lots.wf = true) (slot : Nat) : (s.retireTest slot).parcel.lots.wf = true := by
  have hlot : ∀ f, (s.onLot slot f).parcel.lots.wf = true := fun f => by simpa using h
  unfold State.retireTest State.offerSummary State.enterSummary
  (repeat' split)
  · exact Table.wf_del _ (hlot _)
  · exact hlot _
  · exact hlot _
  · exact h
  · exact h

/-- R73: the test of a lot that may retire. -/
theorem State.retireTest_summarised {s : State} {slot : Nat} {l : Lot} (hw : s.parcel.lots.wf = true)
    (hl : s.parcel.lots.get? slot = some l) (hr : s.parcel.mayRetire slot l = true) :
    Summarised (s.retireTest slot) slot { l with retired := some s.time.lineTime } := by
  have hlot : (s.onLot slot fun l => { l with retired := some s.time.lineTime }).parcel.lots.get? slot =
      some { l with retired := some s.time.lineTime } := by simp [hl]
  have hwf : (s.onLot slot fun l => { l with retired := some s.time.lineTime }).parcel.lots.wf = true := by simpa using hw
  unfold State.retireTest State.offerSummary
  simp only [hl, hr, if_true]
  split
  · unfold State.enterSummary
    simp only [hlot]
    exact Or.inl ⟨Table.get?_del_self _ hwf, _, List.mem_append_right _ (List.mem_singleton_self _), rfl⟩
  · exact Or.inr ⟨hlot, List.mem_append_right _ (List.mem_singleton_self _)⟩

/-- R73: a lot that has been summarised is not tested again. -/
theorem Summarised.retireTest {s : State} {slot : Nat} {l : Lot} (h : Summarised s slot l) (hl : l.retired ≠ none) (k : Nat) :
    Summarised (s.retireTest k) slot l := by
  have hsame : (s.retireTest k).parcel.lots.get? slot = s.parcel.lots.get? slot := by
    by_cases hk : slot = k
    · subst hk
      rw [State.retireTest_keep]
      intro l' hl'
      rcases h with ⟨hn, -⟩ | ⟨hs, -⟩
      · simp [hn] at hl'
      · rw [hs, Option.some.injEq] at hl'
        subst hl'
        simp [ParcelUnit.mayRetire, Option.isNone_eq_false_iff.mpr (Option.isSome_iff_ne_none.mpr hl)]
    · exact s.retireTest_get?_ne hk
  rcases h with ⟨hn, hq⟩ | ⟨hs, hw⟩
  · exact Or.inl ⟨hsame.trans hn, hq.retireTest k⟩
  · exact Or.inr ⟨hsame.trans hs, State.retireTest_waiting hw k⟩

theorem ParcelUnit.mayRetire_iff (u : ParcelUnit) (slot : Nat) (l : Lot) : u.mayRetire slot l = true ↔
    u.current ≠ some slot ∧ l.live = 0 ∧ l.bagRefs = 0 ∧ l.palletRefs = 0 ∧ l.retired = none := by
  simp [ParcelUnit.mayRetire, and_assoc]

theorem ParcelUnit.mayRetire_congr {u v : ParcelUnit} (h : u.current = v.current) (slot : Nat) (l : Lot) :
    u.mayRetire slot l = v.mayRetire slot l := by
  rw [ParcelUnit.mayRetire, h, ParcelUnit.mayRetire]

section RetireEach
variable (ks : List Nat)

/-- R73: a lot that is not tested, or may not retire, is as it was. -/
theorem retireEach_keep (s : State) {slot : Nat} {l : Lot} (hl : s.parcel.lots.get? slot = some l)
    (h : slot ∉ ks ∨ s.parcel.mayRetire slot l = false) :
    (State.each (fun k s => s.retireTest k) ks s).parcel.lots.get? slot = some l := by
  induction ks generalizing s with
  | nil => exact hl
  | cons k ks ih =>
    have hcur := s.retireTest_current k
    by_cases hk : slot = k
    · subst hk
      have hr : s.parcel.mayRetire slot l = false := h.resolve_left (by simp)
      rw [State.each, s.retireTest_keep slot (by simpa [hl] using hr)]
      exact ih s hl (Or.inr hr)
    · refine ih _ ((s.retireTest_get?_ne hk).trans hl) (h.imp (fun hn => by simp_all) fun hr => ?_)
      rwa [ParcelUnit.mayRetire_congr hcur]

/-- R73: a lot that may retire and is tested is summarised. -/
theorem retireEach_summarised (s : State) {slot : Nat} {l : Lot} (hw : s.parcel.lots.wf = true)
    (hl : s.parcel.lots.get? slot = some l) (hr : s.parcel.mayRetire slot l = true) (hk : slot ∈ ks) :
    Summarised (State.each (fun k s => s.retireTest k) ks s) slot { l with retired := some s.time.lineTime } := by
  induction ks generalizing s with
  | nil => nomatch hk
  | cons k ks ih =>
    by_cases he : slot = k
    · subst he
      exact State.each_induct (fun t => Summarised t slot { l with retired := some s.time.lineTime }) _ ks _
        (State.retireTest_summarised hw hl hr) fun k _ t ht => ht.retireTest (by simp) k
    · have hcur := s.retireTest_current k
      have hih := ih (s.retireTest k) (State.retireTest_wf hw k) ((s.retireTest_get?_ne he).trans hl)
        (by rwa [ParcelUnit.mayRetire_congr hcur]) (by simp_all)
      rwa [State.retireTest_time] at hih

theorem Queued.retireEach {s : State} {b : NoticeBody} (h : Queued s b) :
    Queued (State.each (fun k s => s.retireTest k) ks s) b :=
  State.each_induct (fun t => Queued t b) _ _ _ h fun k _ _ ht => ht.retireTest k

theorem rest_retireEach (s : State) : (State.each (fun k s => s.retireTest k) ks s).link.rest = s.link.rest :=
  State.each_induct (fun t => t.link.rest = s.link.rest) _ _ _ rfl fun k _ t ht => by rwa [rest_retireTest]

/-- R73: retirement tests change lots and link alone. -/
theorem retireEach_frame (s : State) : State.each (fun k s => s.retireTest k) ks s =
    { s with parcel := { s.parcel with lots := (State.each (fun k s => s.retireTest k) ks s).parcel.lots }
             link := (State.each (fun k s => s.retireTest k) ks s).link } := by
  have hex : ∃ x y, State.each (fun k s => s.retireTest k) ks s = { s with parcel := { s.parcel with lots := x }, link := y } := by
    refine State.each_induct (fun t => ∃ x y, t = { s with parcel := { s.parcel with lots := x }, link := y }) _ _ _ ⟨_, _, rfl⟩
      fun k _ t ⟨x, y, hx⟩ => ⟨(t.retireTest k).parcel.lots, (t.retireTest k).link, ?_⟩
    have hparcel : (t.retireTest k).parcel = { t.parcel with lots := (t.retireTest k).parcel.lots } := by
      obtain ⟨hp, hc, hs, hq⟩ := t.retireTest_parcels k
      dsimp only
      rw [← hp, ← hc, ← hs, ← hq]
    rw [State.retireTest_frame, hparcel, hx]
  obtain ⟨x, y, hx⟩ := hex
  rw [hx]

end RetireEach

/-! ### The command -/

/-- R11: the slots tested at CLEAR are those that lost a parcel. -/
def State.lostSlots (s : State) : List Nat :=
  (List.range Config.lotCount).filter fun k => s.parcel.parcels.vals.any fun p => decide (p.slot = k)

theorem State.mem_lostSlots (s : State) (slot : Nat) :
    slot ∈ s.lostSlots ↔ slot < 16 ∧ ∃ e ∈ s.parcel.parcels, e.2.slot = slot := by
  simp [State.lostSlots, Table.vals, Config.lotCount]

/-- R11: the line at CLEAR before the retirement tests. -/
def State.unhalted (s : State) : State :=
  s.loseAll.setLine (restState s.comm.locked) none none .clear (.lost s.parcel.parcels.length)

theorem doClear_eq (s : State) :
    doClear () s = (State.each (fun k s => s.retireTest k) s.lostSlots s.unhalted, .status .ok) := rfl

theorem State.unhalted_get? (s : State) (slot : Nat) :
    s.unhalted.parcel.lots.get? slot = (s.parcel.lots.get? slot).map (Lot.loseMany (s.liveOf slot)) := by
  rw [State.unhalted, State.setLine_parcel]
  exact s.loseAll_get? slot

theorem State.unhalted_parcel (s : State) :
    s.unhalted.parcel = { s.parcel with parcels := [], lots := s.loseAll.parcel.lots } := by
  rw [State.unhalted, State.setLine_parcel]
  exact s.loseAll_parcel

theorem State.unhalted_frame (s : State) : s.unhalted = { s with
    line := { s.line with state := restState s.comm.locked, origin := none, cause := none }
    track := s.loseAll.track, parcel := s.unhalted.parcel, link := s.unhalted.link } := by
  rw [State.unhalted_parcel, ← s.loseAll_parcel, State.unhalted, State.setLine_frame, State.loseAll_frame]
  rfl

theorem State.unhalted_rest (s : State) : s.unhalted.link.rest = s.link.rest := by
  rw [State.unhalted, rest_setLine, State.loseAll_frame]

/-- R11, R14: LINE STATE is queued with the count. -/
theorem State.unhalted_queued {s : State} (hs : s.line.state = .halted) (h : Room s 1) :
    Queued s.unhalted (.lineState (restState s.comm.locked) (some .halted) .clear none (.lost s.parcel.parcels.length)) := by
  have hq := State.setLine_queued (s := s.loseAll) (restState s.comm.locked) none none .clear (.lost s.parcel.parcels.length)
    ((room_congr (by rw [State.loseAll_frame])).mpr h)
  have hline : s.loseAll.line.state = .halted := by rw [State.loseAll_frame, hs]
  rwa [hline] at hq

/-- Settles O14: parcels are lost first, then each slot that lost one is tested, and no test undoes another. -/
theorem clearEndsTheHalt : Obligations.ClearEndsTheHalt := by
  intro s f h hf hs
  have hexec : exec .clear s = .next ((State.each (fun k s => s.retireTest k) s.lostSlots s.unhalted).replied f (.status .ok)) :=
    State.act_handOn s .clear f parseNone doClear (taken_of_mem h (by simp [hs, admittedIn])) () (by rw [hf]; rfl)
  obtain ⟨-, -, hold, -⟩ := h
  have htest := retireEach_frame s.lostSlots s.unhalted
  have hparcel : (State.each (fun k s => s.retireTest k) s.lostSlots s.unhalted).parcel =
      { s.parcel with parcels := []
                      lots := (State.each (fun k s => s.retireTest k) s.lostSlots s.unhalted).parcel.lots } := by
    rw [htest, State.unhalted_parcel]
  refine ⟨_, hexec, ?_, ?_, ?_, fun n => ?_, ?_, ?_, ?_, ?_, fun slot l l' hl hl' => ⟨fun hk => ?_, fun hc hp h0 hb hq hr h16 hw => ?_⟩,
    fun hroom => ?_, ?_⟩
  · apply State.ext_fields <;> simp <;> (rw [htest, State.unhalted_frame])
  · rw [State.replied_line, htest, State.unhalted_frame]
    rfl
  · rw [State.replied_track, htest, State.unhalted_frame, State.loseAll_track]
  · rw [State.replied_track, htest, State.unhalted_frame, State.loseAll_track]
    exact Table.get?_mapVals ..
  · rw [State.replied_parcel, hparcel]
  · rw [State.replied_parcel, hparcel]
  · rw [State.replied_parcel, hparcel]
  · rw [State.replied_parcel, hparcel]
  · rw [State.replied_parcel]
    have hget : s.unhalted.parcel.lots.get? slot = some l' := by rw [State.unhalted_get?, hl, hl']; rfl
    refine retireEach_keep _ _ hget ?_
    rw [State.mem_lostSlots, Bool.eq_false_iff, Ne, ParcelUnit.mayRetire_iff, State.unhalted_parcel]
    by_cases hp : ∃ e ∈ s.parcel.parcels, e.2.slot = slot
    · refine Or.inr fun ⟨hc, h0, hb, hq, hr⟩ => ?_
      rw [hl'] at hb hq hr
      obtain ⟨e, he, hes⟩ := hp
      rcases hk with hk | hk | hk | hk | hk | hk
      exacts [hc hk, hk e he hes, hk h0, hk hb, hk hq, hk hr]
    · exact Or.inl fun ⟨_, hp'⟩ => hp hp'
  · have hget : s.unhalted.parcel.lots.get? slot = some l' := by rw [State.unhalted_get?, hl, hl']; rfl
    have hwf : s.unhalted.parcel.lots.wf = true := by
      rw [State.unhalted_parcel, State.loseAll_lots]
      exact loseEach_wf _ _ hw
    have hmay : s.unhalted.parcel.mayRetire slot l' = true := by
      rw [ParcelUnit.mayRetire_iff, State.unhalted_parcel]
      refine ⟨hc, h0, ?_⟩
      rw [hl']
      exact ⟨hb, hq, hr⟩
    have htime : s.unhalted.time = s.time := by rw [State.unhalted_frame]
    have hsum := retireEach_summarised s.lostSlots s.unhalted hwf hget hmay ((s.mem_lostSlots slot).mpr ⟨h16, hp⟩)
    rw [State.replied_parcel, State.replied_waiting, queued_replied]
    rwa [htime] at hsum
  · rw [queued_replied]
    exact (State.unhalted_queued hs hroom).retireEach _
  · exact State.replied_made_of_rest hold (by rw [rest_retireEach, State.unhalted_rest]) _

end Sys2Proof.Machine
end

section
/-! ## Trip events on a line at rest (R89, R91, R185)

With the line at rest and no live parcel an event sets its latch and offers its notice, and does nothing else. -/

namespace Sys2Proof.Machine

/-! ### Notices offered in a row (R185) -/

/-- R185: what offering an ordinary notice does to the link. -/
def LinkUnit.offer (time : Nat) (u : LinkUnit) (b : NoticeBody) : LinkUnit :=
  if u.notices.length < Config.noticeDepth ∧ u.waiting = [] then { u with notices := u.notices ++ [⟨time, b⟩] }
  else { u with overrun := true }

theorem State.notify_eq_offer (s : State) (b : NoticeBody) : s.notify b = s.onLink fun u => u.offer s.time.lineTime b := rfl

/-- R185: notices offered one after another. -/
def LinkUnit.offerAll (time : Nat) (bs : List NoticeBody) (u : LinkUnit) : LinkUnit := bs.foldl (LinkUnit.offer time) u

theorem LinkUnit.offerAll_append (time : Nat) (bs cs : List NoticeBody) (u : LinkUnit) :
    u.offerAll time (bs ++ cs) = (u.offerAll time bs).offerAll time cs := List.foldl_append

@[simp] theorem LinkUnit.rest_offerAll (time : Nat) (bs : List NoticeBody) (u : LinkUnit) : (u.offerAll time bs).rest = u.rest := by
  induction bs generalizing u with
  | nil => rfl
  | cons b bs ih =>
    refine (ih _).trans ?_
    unfold LinkUnit.offer
    split <;> rfl

/-- R185: with no retained notice waiting, notices enter in their order until the queue is full; one more sets the mark. -/
theorem LinkUnit.offerAll_eq (time : Nat) (bs : List NoticeBody) {u : LinkUnit} (h : u.waiting = []) :
    u.offerAll time bs = { u with
      notices := u.notices ++ (bs.take (Config.noticeDepth - u.notices.length)).map fun b => ⟨time, b⟩
      overrun := u.overrun || decide (Config.noticeDepth - u.notices.length < bs.length) } := by
  induction bs generalizing u with
  | nil => simp [LinkUnit.offerAll]
  | cons b bs ih =>
    rw [LinkUnit.offerAll, List.foldl_cons, ← LinkUnit.offerAll]
    unfold LinkUnit.offer
    split
    · next hr =>
      obtain ⟨k, hk⟩ : ∃ k, Config.noticeDepth - u.notices.length = k + 1 := ⟨_, (Nat.succ_pred_eq_of_pos (by omega)).symm⟩
      have hk' : Config.noticeDepth - (u.notices.length + 1) = k := by omega
      refine Eq.trans (ih (by exact h)) ?_
      simp [hk, hk']
    · next hr =>
      have hfull : Config.noticeDepth - u.notices.length = 0 := by
        have : ¬u.notices.length < Config.noticeDepth := fun hlt => hr ⟨hlt, h⟩
        omega
      refine Eq.trans (ih (by exact h)) ?_
      simp [hfull]

/-! ### Latches (R89) -/

/-- R89, R90: conditions, routes and readings are read off the probe unit apart from its latches. -/
theorem Channel.unlatch_eq_iff {ch ch' : Channel} : ch'.unlatch = ch.unlatch ↔
    ch' = { ch with latches := ch'.latches, staleLatch := ch'.staleLatch } := by
  cases ch
  cases ch'
  simp [Channel.unlatch]

@[simp] theorem ProbeUnit.reset_get? (u : ProbeUnit) (c : Nat) : u.reset.channels.get? c = (u.channels.get? c).map Channel.unlatch :=
  Table.get?_mapVals ..

/-- R99: clearing latches twice is clearing them once. -/
theorem ProbeUnit.reset_reset (u : ProbeUnit) : u.reset.reset = u.reset := by
  simp only [ProbeUnit.reset, Table.mapVals_mapVals]
  rfl

section OffLatches
variable {s t : State} (h : t.probe.reset = s.probe.reset)
include h

theorem ProbeUnit.unlatch_of_reset (c : Nat) :
    (t.probe.channels.get? c).map Channel.unlatch = (s.probe.channels.get? c).map Channel.unlatch := by
  rw [← ProbeUnit.reset_get?, ← ProbeUnit.reset_get?, h]

theorem ProbeUnit.channel_of_reset {c : Nat} {ch : Channel} (hc : s.probe.channels.get? c = some ch) :
    ∃ ch', t.probe.channels.get? c = some ch' ∧ ch' = { ch with latches := ch'.latches, staleLatch := ch'.staleLatch } := by
  have hmap := ProbeUnit.unlatch_of_reset h c
  rw [hc, Option.map_some, Option.map_eq_some_iff] at hmap
  obtain ⟨ch', hg, hu⟩ := hmap
  exact ⟨ch', hg, Channel.unlatch_eq_iff.mp hu⟩

theorem ProbeUnit.noChannel_of_reset {c : Nat} (hc : s.probe.channels.get? c = none) : t.probe.channels.get? c = none := by
  simpa [hc] using ProbeUnit.unlatch_of_reset h c

theorem ProbeUnit.external_of_reset : t.probe.external = s.probe.external := by
  show t.probe.reset.external = s.probe.reset.external
  rw [h]

/-- R99: the round goes on. -/
theorem ProbeUnit.round_of_reset : t.probe.period = s.probe.period ∧ t.probe.nextRound = s.probe.nextRound ∧
    t.probe.lastRound = s.probe.lastRound ∧ t.probe.remaining = s.probe.remaining ∧ t.probe.exchange = s.probe.exchange := by
  obtain ⟨-, -, -, -, hround⟩ := ProbeUnit.mk.inj h
  exact hround

theorem State.forced_of_reset : t.forced = s.forced := by
  funext c l
  unfold State.forced
  rw [ProbeUnit.external_of_reset h]

theorem State.route_of_reset : t.route = s.route := by
  funext x
  cases x with
  | level c l =>
    cases hc : s.probe.channels.get? c with
    | none => simp [State.route, hc, ProbeUnit.noChannel_of_reset h hc]
    | some ch =>
      obtain ⟨ch', hc', he⟩ := ProbeUnit.channel_of_reset h hc
      simp only [State.route, hc, hc']
      rw [he]
  | stale c =>
    cases hc : s.probe.channels.get? c with
    | none => simp [State.route, hc, ProbeUnit.noChannel_of_reset h hc]
    | some ch =>
      obtain ⟨ch', hc', he⟩ := ProbeUnit.channel_of_reset h hc
      simp only [State.route, hc, hc']
      rw [he]
  | exposure =>
    show t.probe.reset.exposure.route = s.probe.reset.exposure.route
    rw [h]
  | shuttleFault =>
    show t.probe.reset.shuttleFault.route = s.probe.reset.shuttleFault.route
    rw [h]

theorem State.condition_of_reset (ht : t.transfer = s.transfer) : t.condition = s.condition := by
  funext x
  cases x with
  | level c l =>
    cases hc : s.probe.channels.get? c with
    | none => simp [State.condition, hc, ProbeUnit.noChannel_of_reset h hc]
    | some ch =>
      obtain ⟨ch', hc', he⟩ := ProbeUnit.channel_of_reset h hc
      simp only [State.condition, hc, hc']
      rw [he]
  | stale c =>
    cases hc : s.probe.channels.get? c with
    | none => simp [State.condition, hc, ProbeUnit.noChannel_of_reset h hc]
    | some ch =>
      obtain ⟨ch', hc', he⟩ := ProbeUnit.channel_of_reset h hc
      simp only [State.condition, hc, hc']
      rw [he]
  | exposure => rfl
  | shuttleFault => simp only [State.condition, ht]

end OffLatches

theorem Channel.unlatch_putLatch (ch : Channel) (l : LevelName) (b : Bool) :
    ({ ch with latches := ch.latches.put b l } : Channel).unlatch = ch.unlatch := rfl

/-- R89: setting a latch changes latches alone. -/
theorem State.setLatch_reset (s : State) (x : TripSource) (b : Bool) : (s.setLatch x b).probe.reset = s.probe.reset := by
  have hmod : ∀ (c : Nat) (f : Channel → Channel), (∀ ch, (f ch).unlatch = ch.unlatch) →
      ((s.probe.channels.modify c f).mapVals fun _ ch => ch.unlatch) = s.probe.channels.mapVals fun _ ch => ch.unlatch := by
    intro c f hf
    rw [Table.modify, Table.mapVals_mapVals]
    refine Table.mapVals_congr fun e _ => ?_
    split
    · exact hf _
    · rfl
  cases x with
  | level c l =>
    show ({ s.probe with channels := s.probe.channels.modify c _ } : ProbeUnit).reset = _
    simp only [ProbeUnit.reset]
    rw [hmod]
    exact fun _ => rfl
  | stale c =>
    show ({ s.probe with channels := s.probe.channels.modify c _ } : ProbeUnit).reset = _
    simp only [ProbeUnit.reset]
    rw [hmod]
    exact fun _ => rfl
  | exposure => rfl
  | shuttleFault => rfl

theorem LevelMap.look_put {α : Type} (m : LevelMap α) (a : α) (l k : LevelName) :
    (m.put a l).look k = if k = l then a else m.look k := by
  cases l <;> cases k <;> rfl

theorem LevelMap.ext_look {α : Type} {m n : LevelMap α} (h : ∀ l, m.look l = n.look l) : m = n := by
  have h1 := h .lowCrit
  have h2 := h .low
  have h3 := h .high
  have h4 := h .highCrit
  cases m
  cases n
  simp_all [LevelMap.look]

/-- R89: the latch of a source whose condition holds is set. -/
theorem State.latch_setLatch_self {s : State} {x : TripSource} (h : s.condition x = true) : (s.setLatch x true).latch x = true := by
  cases x with
  | level c l =>
    cases hc : s.probe.channels.get? c with
    | none => simp [State.condition, hc] at h
    | some ch => simp [State.latch, State.setLatch, hc, LevelMap.look_put]
  | stale c =>
    cases hc : s.probe.channels.get? c with
    | none => simp [State.condition, hc] at h
    | some ch => simp [State.latch, State.setLatch, hc]
  | exposure => rfl
  | shuttleFault => rfl

/-- R89: setting a latch leaves the others. -/
theorem State.latch_setLatch_ne (s : State) {x y : TripSource} (b : Bool) (h : y ≠ x) : (s.setLatch x b).latch y = s.latch y := by
  have hget : ∀ (c k : Nat) (f : Channel → Channel), (s.probe.channels.modify c f).get? k =
      if k = c then (s.probe.channels.get? k).map f else s.probe.channels.get? k := by
    intro c k f
    split
    · next hk => rw [hk, Table.get?_modify_self]
    · next hk => exact Table.get?_modify_ne _ _ hk
  cases x with
  | level c l =>
    cases y with
    | level k m =>
      simp only [State.latch, State.setLatch, State.onProbe_probe, hget]
      by_cases hk : k = c
      · have hm : m ≠ l := fun e => h (by rw [hk, e])
        cases s.probe.channels.get? k <;> simp [hk, hm, LevelMap.look_put]
      · simp [hk]
    | stale k =>
      simp only [State.latch, State.setLatch, State.onProbe_probe, hget]
      by_cases hk : k = c <;> cases hg : s.probe.channels.get? k <;> simp_all
    | exposure => rfl
    | shuttleFault => rfl
  | stale c =>
    cases y with
    | level k m =>
      simp only [State.latch, State.setLatch, State.onProbe_probe, hget]
      by_cases hk : k = c <;> cases hg : s.probe.channels.get? k <;> simp_all
    | stale k =>
      have hk : k ≠ c := fun e => h (by rw [e])
      simp only [State.latch, State.setLatch, State.onProbe_probe, hget, if_neg hk]
    | exposure => rfl
    | shuttleFault => rfl
  | exposure =>
    cases y with
    | exposure => exact absurd rfl h
    | level | stale | shuttleFault => rfl
  | shuttleFault =>
    cases y with
    | shuttleFault => exact absurd rfl h
    | level | stale | exposure => rfl

/-! ### Events at rest -/

/-- R91: the notice an event offers, by its route. -/
def State.tripNotices (s : State) (x : TripSource) (cause : TripCause) (pallet time : Nat) : List NoticeBody :=
  if (s.route x).notify then [.trip x cause (s.tripChannel x) pallet (s.route x) time] else []

/-- R92: no live parcel, nothing to mark. -/
theorem State.markParcels_none {s : State} (h : s.parcel.parcels = []) (p : Parcel → Bool) (f : Parcel → Parcel) :
    s.markParcels p f = s := by
  show ({ s with parcel := { s.parcel with parcels := s.parcel.parcels.mapVals fun _ x => if p x then f x else x } } : State) = s
  rw [h, Table.mapVals, ← h]

theorem State.markZone_none {s : State} (h : s.parcel.parcels = []) (x : TripSource) : s.markZone x = s := by
  unfold State.markZone
  split
  · exact State.markParcels_none h ..
  · rfl

/-- R89, R91, R92, R94: on a line at rest and without live parcels an event sets its latch and offers its notice. -/
theorem State.fire_quiet {s : State} (hr : s.line.state.runs = false) (hp : s.parcel.parcels = []) (x : TripSource)
    (cause : TripCause) (pallet time : Nat) : s.fire x cause pallet time =
      (s.setLatch x true).onLink fun u => u.offerAll s.time.lineTime (s.tripNotices x cause pallet time) := by
  have hlatch : (if (s.route x).notify then (s.setLatch x true).notify
        (.trip x cause (s.tripChannel x) pallet (s.route x) time) else s.setLatch x true) =
      (s.setLatch x true).onLink fun u => u.offerAll s.time.lineTime (s.tripNotices x cause pallet time) := by
    unfold State.tripNotices
    split <;> rfl
  unfold State.fire
  simp only [hlatch]
  rw [State.markZone_none (by simpa using hp), ite_self, State.raiseHalt_rest _ _ (by simpa using hr), ite_self]

end Sys2Proof.Machine
end

section
/-! ## The line reset (R15, R32, R56, R77, R99, R118, R142, R162, R191) -/

namespace Sys2Proof.Machine

/-! ### Events fired again (R99) -/

/-- R99: the cause a re-fired event names. -/
def State.refireCause (s : State) : TripSource → TripCause
  | .stale _ => .thirdMiss
  | .exposure => .transfer
  | .shuttleFault => .transfer
  | .level c l => if s.forced c l then .external else .sample

/-- R99: one source at a line reset. -/
def State.refireOne (x : TripSource) (s : State) : State :=
  if s.condition x then s.fire x (s.refireCause x) 0 s.time.lineTime else s

theorem State.refire_eq (s : State) : s.refire = State.each State.refireOne TripSource.all s := by
  unfold State.refire
  rfl

/-- R91, R99: the notices the re-fired events offer. -/
def State.refireNotices (s : State) (x : TripSource) : List NoticeBody :=
  if s.condition x then s.tripNotices x (s.refireCause x) 0 s.time.lineTime else []

theorem State.refireOne_quiet {s : State} (hr : s.line.state.runs = false) (hp : s.parcel.parcels = []) (x : TripSource) :
    s.refireOne x = { s with probe := (s.refireOne x).probe, link := s.link.offerAll s.time.lineTime (s.refireNotices x) } ∧
      (s.refireOne x).probe.reset = s.probe.reset ∧
      ∀ y, (s.refireOne x).latch y = (s.latch y || (decide (y = x) && s.condition x)) := by
  unfold State.refireOne State.refireNotices
  cases hc : s.condition x with
  | false => simp [LinkUnit.offerAll]
  | true =>
    simp only [if_true, State.fire_quiet hr hp]
    refine ⟨?_, s.setLatch_reset x true, fun y => ?_⟩
    · rw [State.setLatch_frame]
      rfl
    · show (s.setLatch x true).latch y = _
      by_cases hy : y = x
      · rw [hy, State.latch_setLatch_self hc]
        simp
      · simp [State.latch_setLatch_ne s true hy, hy]

/-- What a re-fired event offers does not depend on latches. -/
theorem State.refireNotices_of_reset {s t : State} (h : t.probe.reset = s.probe.reset) (ht : t.transfer = s.transfer)
    (htime : t.time = s.time) : t.refireNotices = s.refireNotices := by
  have hchannel : ∀ x, t.tripChannel x = s.tripChannel x := by
    intro x
    cases x with
    | level c l =>
      cases hc : s.probe.channels.get? c with
      | none => simp [State.tripChannel, hc, ProbeUnit.noChannel_of_reset h hc]
      | some ch =>
        obtain ⟨ch', hc', he⟩ := ProbeUnit.channel_of_reset h hc
        rw [State.tripChannel, State.tripChannel, hc, hc', he]
        rfl
    | stale c =>
      cases hc : s.probe.channels.get? c with
      | none => simp [State.tripChannel, hc, ProbeUnit.noChannel_of_reset h hc]
      | some ch =>
        obtain ⟨ch', hc', he⟩ := ProbeUnit.channel_of_reset h hc
        rw [State.tripChannel, State.tripChannel, hc, hc', he]
        rfl
    | exposure => rfl
    | shuttleFault => rfl
  have hcause : ∀ x, t.refireCause x = s.refireCause x := by
    intro x
    unfold State.refireCause
    rw [State.forced_of_reset h]
  funext x
  unfold State.refireNotices State.tripNotices
  rw [State.condition_of_reset h ht, State.route_of_reset h, hchannel, hcause, htime]

/-- R99: sources fired again in a row, on a line at rest and without live parcels. -/
theorem refireEach_quiet (xs : List TripSource) {s : State} (hr : s.line.state.runs = false) (hp : s.parcel.parcels = []) :
    State.each State.refireOne xs s = { s with
        probe := (State.each State.refireOne xs s).probe
        link := s.link.offerAll s.time.lineTime (xs.flatMap s.refireNotices) } ∧
      (State.each State.refireOne xs s).probe.reset = s.probe.reset ∧
      ∀ y, (State.each State.refireOne xs s).latch y = (s.latch y || (decide (y ∈ xs) && s.condition y)) := by
  induction xs generalizing s with
  | nil => simp [State.each, LinkUnit.offerAll]
  | cons x xs ih =>
    obtain ⟨hone, hreset, hlatch⟩ := State.refireOne_quiet hr hp x
    have hline : (s.refireOne x).line = s.line := by rw [hone]
    have hparcel : (s.refireOne x).parcel = s.parcel := by rw [hone]
    have htime : (s.refireOne x).time = s.time := by rw [hone]
    have htransfer : (s.refireOne x).transfer = s.transfer := by rw [hone]
    have hlink : (s.refireOne x).link = s.link.offerAll s.time.lineTime (s.refireNotices x) := by rw [hone]
    obtain ⟨heach, hreset', hlatch'⟩ := ih (s := s.refireOne x) (by rw [hline]; exact hr) (by rw [hparcel]; exact hp)
    refine ⟨?_, hreset'.trans hreset, fun y => ?_⟩
    · rw [State.each, heach, hlink, htime, State.refireNotices_of_reset hreset htransfer htime, ← LinkUnit.offerAll_append,
        List.flatMap_cons]
      apply State.ext_fields <;> rw [hone]
    · rw [State.each, hlatch', hlatch, State.condition_of_reset hreset htransfer]
      by_cases hy : y = x
      · subst hy
        cases s.latch y <;> cases s.condition y <;> simp
      · simp [hy]

/-! ### The notices of a line reset (R191) -/

/-- R77, R186: the LINE RESET DISCARD parts numbered from `part`. -/
def discardFrom (parcels parts : Nat) : Nat → List (List (Nat × Lot)) → List NoticeBody
  | _, [] => []
  | part, l :: ls => .resetDiscard parcels part parts l :: discardFrom parcels parts (part + 1) ls

theorem State.notifyDiscard_eq (parcels parts : Nat) (ls : List (List (Nat × Lot))) (part : Nat) (s : State) :
    s.notifyDiscard parcels parts part ls = s.onLink fun u => u.offerAll s.time.lineTime (discardFrom parcels parts part ls) := by
  induction ls generalizing part s with
  | nil => rfl
  | cons l ls ih =>
    rw [State.notifyDiscard, ih]
    rfl

/-- R186: with no more lots than slots there are one or two parts. -/
theorem discardFrom_chunks (s : State) (h : s.parcel.lots.length ≤ 16) :
    discardFrom s.parcel.parcels.length (chunks Config.lotCount s.parcel.lots).length 1 (chunks Config.lotCount s.parcel.lots) =
      discardParts s := by
  have hrest : (s.parcel.lots.drop 8).length ≤ 8 := by rw [List.length_drop]; omega
  unfold discardParts
  by_cases h8 : s.parcel.lots.length ≤ 8
  · have hone : chunks Config.lotCount s.parcel.lots = [s.parcel.lots] := if_pos h8
    rw [hone, if_pos h8]
    rfl
  · have htwo : chunks Config.lotCount s.parcel.lots = [s.parcel.lots.take 8, s.parcel.lots.drop 8] :=
      (if_neg h8).trans (congrArg (List.cons _) (if_pos hrest))
    rw [htwo, if_neg h8]
    rfl

/-- R191: a PROVING RESULT the pin owes. -/
def CommissionUnit.owedNotice (u : CommissionUnit) : List NoticeBody := if u.owed then [.provingResult u.record] else []

/-- R191: a STORE RESULT the pin owes. -/
def StoreUnit.owedNotice (u : StoreUnit) : List NoticeBody :=
  match u.owed with
  | some (k, ok, g) => [.storeResult k ok g]
  | none => []

theorem StoreUnit.owedNotice_some {u : StoreUnit} {k : SaveKind} {ok : Bool} {g : Count} (h : u.owed = some (k, ok, g)) :
    u.owedNotice = [.storeResult k ok g] := by simp [StoreUnit.owedNotice, h]

theorem StoreUnit.owedNotice_none {u : StoreUnit} (h : u.owed = none) : u.owedNotice = [] := by
  simp [StoreUnit.owedNotice, h]

theorem State.payProving_eq (s : State) : s.payProving = { s with
    comm := { s.comm with owed := false }, link := s.link.offerAll s.time.lineTime s.comm.owedNotice } := by
  unfold State.payProving CommissionUnit.owedNotice
  cases h : s.comm.owed with
  | true => rfl
  | false =>
    rw [if_neg (by simp), if_neg (by simp), ← h]
    rfl

theorem State.payStore_eq (s : State) : s.payStore = { s with
    store := { s.store with owed := none }, link := s.link.offerAll s.time.lineTime s.store.owedNotice } := by
  unfold State.payStore
  cases h : s.store.owed with
  | some v =>
    obtain ⟨k, ok, g⟩ := v
    rw [StoreUnit.owedNotice_some h]
    rfl
  | none =>
    have hstore : ({ s.store with owed := none } : StoreUnit) = s.store := by rw [← h]
    rw [StoreUnit.owedNotice_none h, hstore]
    rfl

/-- R191: every notice of a line reset in its order; `u` is what the reset has left of the units. -/
def resetBodies (old : LineState) (parcels : Nat) (lots : Table Lot) (u : State) : List NoticeBody :=
  .lineState u.line.state (some old) .lineReset none .absent ::
    (discardFrom parcels (chunks Config.lotCount lots).length 1 (chunks Config.lotCount lots) ++
      (u.comm.owedNotice ++ (TripSource.all.flatMap u.refireNotices ++ u.store.owedNotice)))

/-- R99, R191: on a line at rest and without live parcels the notices of a line reset are offered, and latches set. -/
theorem State.resetNotices_quiet {u : State} (hr : u.line.state.runs = false) (hp : u.parcel.parcels = []) (old : LineState)
    (parcels : Nat) (lots : Table Lot) : u.resetNotices old parcels lots = { u with
        probe := (u.resetNotices old parcels lots).probe
        comm := { u.comm with owed := false }, store := { u.store with owed := none }
        link := u.link.offerAll u.time.lineTime (resetBodies old parcels lots u) } ∧
      (u.resetNotices old parcels lots).probe.reset = u.probe.reset ∧
      ∀ y ∈ TripSource.all, (u.resetNotices old parcels lots).latch y = (u.latch y || u.condition y) := by
  obtain ⟨p, hpaid⟩ : ∃ p : State, p = { u with
      comm := { u.comm with owed := false }
      link := u.link.offerAll u.time.lineTime (.lineState u.line.state (some old) .lineReset none .absent ::
        (discardFrom parcels (chunks Config.lotCount lots).length 1 (chunks Config.lotCount lots) ++ u.comm.owedNotice)) } := ⟨_, rfl⟩
  have hpay : u.resetNotices old parcels lots = p.refire.payStore := by
    rw [State.resetNotices, State.notifyDiscard_eq, State.payProving_eq, hpaid]
    simp only [State.notify_eq_offer, State.onLink]
    rw [← LinkUnit.offerAll_append]
    rfl
  obtain ⟨heach, hreset, hlatch⟩ := refireEach_quiet TripSource.all (s := p) (by rw [hpaid]; exact hr) (by rw [hpaid]; exact hp)
  rw [← State.refire_eq] at heach hreset hlatch
  have hprobe : (u.resetNotices old parcels lots).probe = p.refire.probe := by rw [hpay, State.payStore_eq]
  have hnotices : p.refireNotices = u.refireNotices :=
    State.refireNotices_of_reset (by rw [hpaid]) (by rw [hpaid]) (by rw [hpaid])
  refine ⟨?_, ?_, fun y hy => ?_⟩
  · rw [hprobe, hpay, State.payStore_eq, heach, hnotices, hpaid]
    simp only [← LinkUnit.offerAll_append]
    simp [resetBodies]
  · rw [hprobe, hreset, hpaid]
  · rw [State.latch_congr hprobe, hlatch, decide_eq_true hy, hpaid]
    rfl

/-! ### What a line reset leaves -/

/-- R15: a line reset of every unit, on the link `l` with the pin released. -/
def State.resetOn (l : LinkUnit) (s : State) : State := ({ s with pin := false, link := l } : State).resetUnits

theorem State.lineReset_on (l : LinkUnit) (s : State) : ({ s with pin := false, link := l } : State).lineReset =
    (s.resetOn l).resetNotices s.line.state s.parcel.parcels.length s.parcel.lots := rfl

/-- R99: a line reset clears every latch. -/
theorem ProbeUnit.latch_reset {u s : State} (h : u.probe = s.probe.reset) (x : TripSource) : u.latch x = false := by
  cases x with
  | level c l =>
    rw [State.latch, h, ProbeUnit.reset_get?]
    cases s.probe.channels.get? c with
    | none => rfl
    | some ch => cases l <;> rfl
  | stale c =>
    rw [State.latch, h, ProbeUnit.reset_get?]
    cases s.probe.channels.get? c <;> rfl
  | exposure => rw [State.latch, h]; rfl
  | shuttleFault => rw [State.latch, h]; rfl

theorem mem_refireNotices {u : State} {x : TripSource} {b : NoticeBody} (h : b ∈ u.refireNotices x) :
    u.condition x = true ∧ (u.route x).notify = true ∧
      b = .trip x (u.refireCause x) (u.tripChannel x) 0 (u.route x) u.time.lineTime := by
  unfold State.refireNotices at h
  split at h
  · next hc =>
    unfold State.tripNotices at h
    split at h
    · next hn => exact ⟨hc, hn, List.mem_singleton.mp h⟩
    · nomatch h
  · nomatch h

theorem refireNotices_mem {u : State} {x : TripSource} (hc : u.condition x = true) (hn : (u.route x).notify = true) :
    .trip x (u.refireCause x) (u.tripChannel x) 0 (u.route x) u.time.lineTime ∈ u.refireNotices x := by
  simp [State.refireNotices, State.tripNotices, hc, hn]

theorem StoreUnit.owedNotice_cases (u : StoreUnit) :
    u.owedNotice = [] ∨ ∃ k ok g, u.owed = some (k, ok, g) ∧ u.owedNotice = [.storeResult k ok g] := by
  cases h : u.owed with
  | none => exact Or.inl (StoreUnit.owedNotice_none h)
  | some v =>
    obtain ⟨k, ok, g⟩ := v
    exact Or.inr ⟨k, ok, g, rfl, StoreUnit.owedNotice_some h⟩

/-- R191: a row cut off at the depth of the queue, where its first parts fit. -/
theorem take_parts {α : Type} {a b c : List α} {n : Nat} (h : a.length ≤ n) :
    ∃ b' c', (a ++ (b ++ c)).take n = a ++ (b' ++ c') ∧ b' <+: b ∧ c' <+: c ∧
      (((a ++ (b ++ c)).take n).length < n → b' = b ∧ c' = c) := by
  refine ⟨b.take (n - a.length), c.take (n - a.length - b.length), ?_, List.take_prefix .., List.take_prefix .., fun hlt => ?_⟩
  · rw [List.take_append, List.take_append, List.take_of_length_le h]
  · simp only [List.length_take, List.length_append] at hlt
    exact ⟨List.take_of_length_le (by omega), List.take_of_length_le (by omega)⟩

section ResetFrom
variable {s t : State} {l : LinkUnit}

/-- The notices of a line reset of `s` with the link `l`. -/
def State.resetRow (l : LinkUnit) (s : State) : List NoticeBody :=
  resetBodies s.line.state s.parcel.parcels.length s.parcel.lots (s.resetOn l)

theorem State.resetOn_condition (ht : t.probe.reset = s.probe.reset) (htr : t.transfer = s.transfer.reset) :
    t.condition = (s.resetOn l).condition :=
  State.condition_of_reset (ht.trans s.probe.reset_reset.symm) htr

theorem State.resetOn_route : (s.resetOn l).route = s.route := State.route_of_reset s.probe.reset_reset

/-- R191: the head of the row and its two kinds that may be cut off. -/
theorem State.resetRow_parts (h : s.parcel.lots.length ≤ 16) : s.resetRow l =
    (.lineState (restState s.comm.locked) (some s.line.state) .lineReset none .absent :: discardParts s ++ s.comm.owedNotice) ++
      (TripSource.all.flatMap (s.resetOn l).refireNotices ++ s.store.owedNotice) := by
  rw [State.resetRow, resetBodies, discardFrom_chunks s h, List.append_assoc]
  rfl

/-- R191: the first three kinds always find room. -/
theorem State.resetRow_head_length (s : State) :
    (.lineState (restState s.comm.locked) (some s.line.state) .lineReset none .absent :: discardParts s ++
      s.comm.owedNotice).length ≤ Config.noticeDepth := by
  have hdiscard : (discardParts s).length ≤ 2 := by
    unfold discardParts
    dsimp only
    split <;> simp
  have howed : s.comm.owedNotice.length ≤ 1 := by
    unfold CommissionUnit.owedNotice
    split <;> simp
  simp only [List.length_append, List.length_cons, Config.noticeDepth]
  omega

/-- R99, R191: the notices of a line reset of at most sixteen lots, in the form the statement gives them. -/
theorem resetNotices_form (hn : t.link.notices = ((s.resetRow l).take Config.noticeDepth).map fun b => ⟨s.time.lineTime, b⟩)
    (ht : t.probe.reset = s.probe.reset) (htr : t.transfer = s.transfer.reset) (hline : t.line.state = restState s.comm.locked)
    (hlots : s.parcel.lots.length ≤ 16) : ∃ trips last, t.link.notices =
      ⟨s.time.lineTime, .lineState t.line.state (some s.line.state) .lineReset none .absent⟩ ::
        (discardParts s).map (fun b => ⟨s.time.lineTime, b⟩) ++
          ((if s.comm.owed then [⟨s.time.lineTime, .provingResult s.comm.record⟩] else []) ++ (trips ++ last)) ∧
      (∀ n ∈ trips, ∃ x cause ch, n = ⟨s.time.lineTime, .trip x cause ch 0 (s.route x) s.time.lineTime⟩ ∧
        t.condition x = true ∧ (s.route x).notify = true) ∧
      (last = [] ∨ ∃ k ok g, s.store.owed = some (k, ok, g) ∧ last = [⟨s.time.lineTime, .storeResult k ok g⟩]) ∧
      (t.link.notices.length < 32 →
        (∀ x ∈ TripSource.all, t.condition x = true → (s.route x).notify = true →
          ∃ n ∈ trips, ∃ cause ch, n.body = .trip x cause ch 0 (s.route x) s.time.lineTime) ∧
        ∀ k ok g, s.store.owed = some (k, ok, g) → last = [⟨s.time.lineTime, .storeResult k ok g⟩]) := by
  have hcond := State.resetOn_condition (l := l) ht htr
  have hroute := State.resetOn_route (s := s) (l := l)
  have hmem : ∀ x b, b ∈ (s.resetOn l).refireNotices x → t.condition x = true ∧ (s.route x).notify = true ∧
      ∃ cause ch, b = .trip x cause ch 0 (s.route x) s.time.lineTime := by
    intro x b hb
    obtain ⟨hc, hnot, he⟩ := mem_refireNotices hb
    rw [hroute] at hnot he
    exact ⟨by rw [hcond]; exact hc, hnot, _, _, he⟩
  rw [State.resetRow_parts hlots] at hn
  obtain ⟨trips, last, htake, htrips, hlast, hall⟩ := take_parts
    (b := TripSource.all.flatMap (s.resetOn l).refireNotices) (c := s.store.owedNotice) (State.resetRow_head_length s)
  have hlen : t.link.notices.length < 32 → trips = TripSource.all.flatMap (s.resetOn l).refireNotices ∧ last = s.store.owedNotice := by
    intro hlt
    rw [hn, List.length_map] at hlt
    exact hall hlt
  rw [htake] at hn
  refine ⟨trips.map fun b => ⟨s.time.lineTime, b⟩, last.map fun b => ⟨s.time.lineTime, b⟩, ?_, fun n hmemn => ?_, ?_, fun hlt => ?_⟩
  · rw [hn, hline]
    unfold CommissionUnit.owedNotice
    split <;> simp
  · obtain ⟨b, hb, rfl⟩ := List.mem_map.mp hmemn
    obtain ⟨x, -, hx⟩ := List.mem_flatMap.mp (htrips.subset hb)
    obtain ⟨hc, hnot, cause, ch, rfl⟩ := hmem x b hx
    exact ⟨x, cause, ch, rfl, hc, hnot⟩
  · rcases s.store.owedNotice_cases with he | ⟨k, ok, g, ho, he⟩
    · rw [he, List.prefix_nil] at hlast
      exact Or.inl (by rw [hlast]; rfl)
    · rw [he, List.prefix_cons_iff] at hlast
      rcases hlast with hlast | ⟨tail, hlast, htail⟩
      · exact Or.inl (by rw [hlast]; rfl)
      · exact Or.inr ⟨k, ok, g, ho, by rw [hlast, List.prefix_nil.mp htail]; rfl⟩
  · obtain ⟨htrips', hlast'⟩ := hlen hlt
    refine ⟨fun x hx hc hnot => ?_, fun k ok g ho => ?_⟩
    · have hb := refireNotices_mem (u := s.resetOn l) (by rw [← hcond]; exact hc) (by rw [hroute]; exact hnot)
      rw [hroute] at hb
      have htrip := List.mem_flatMap.mpr ⟨x, hx, hb⟩
      rw [← htrips'] at htrip
      exact ⟨_, List.mem_map_of_mem htrip, _, _, rfl⟩
    · rw [hlast', StoreUnit.owedNotice_some ho]
      rfl

/-- R15 to R191: a state whose units and notices are those of a line reset of `s` stands to `s` as `ResetFrom` says. -/
theorem resetFrom_of_lineReset (hw : s.powered = true) (hl : l.notices = []) (hwait : l.waiting = []) (hover : l.overrun = false)
    (hbaud : l.baud = s.link.baud)
    (hrest : t = { ({ s with pin := false, link := l } : State).lineReset with link := t.link, pins := t.pins })
    (hnotices : t.link.notices = ({ s with pin := false, link := l } : State).lineReset.link.notices)
    (htwait : t.link.waiting = ({ s with pin := false, link := l } : State).lineReset.link.waiting)
    (htover : t.link.overrun = ({ s with pin := false, link := l } : State).lineReset.link.overrun)
    (htbaud : t.link.baud = ({ s with pin := false, link := l } : State).lineReset.link.baud) : ResetFrom s t := by
  obtain ⟨hquiet, hreset, hlatch⟩ := State.resetNotices_quiet (u := s.resetOn l) (restState_runs _) rfl s.line.state
    s.parcel.parcels.length s.parcel.lots
  rw [← State.lineReset_on] at hquiet hreset hlatch
  have hlink : ({ s with pin := false, link := l } : State).lineReset.link = l.offerAll s.time.lineTime (s.resetRow l) := by
    rw [hquiet]
    rfl
  rw [hlink, LinkUnit.offerAll_eq _ _ hwait, hl] at hnotices
  rw [hlink, LinkUnit.offerAll_eq _ _ hwait, hwait] at htwait
  rw [hlink, LinkUnit.offerAll_eq _ _ hwait, hover, hl] at htover
  rw [hlink, LinkUnit.offerAll_eq _ _ hwait, hbaud] at htbaud
  simp only [List.length_nil, Nat.sub_zero, List.nil_append] at hnotices
  generalize ({ s with pin := false, link := l } : State).lineReset = r at *
  have hprobe : t.probe = r.probe := by rw [hrest]
  have ht : t.probe.reset = s.probe.reset := by rw [hprobe, hreset]; exact s.probe.reset_reset
  have htr : t.transfer = s.transfer.reset := by rw [hrest, hquiet]; rfl
  have hline : t.line = s.line.reset s.comm.locked := by rw [hrest, hquiet]; rfl
  have hcond := State.resetOn_condition (l := l) ht htr
  have hroute : t.route = s.route := State.route_of_reset ht
  have hhead : ∃ more, t.link.notices = ⟨s.time.lineTime, .lineState t.line.state (some s.line.state) .lineReset none .absent⟩ ::
      more := by rw [hnotices, hline]; exact ⟨_, rfl⟩
  have hclear : t.link.notices.length < 32 → t.link.overrun = false := by
    intro hlt
    rw [hnotices, List.length_map, List.length_take] at hlt
    rw [htover, List.length_nil, Nat.sub_zero, Bool.false_or, decide_eq_false_iff_not]
    have hdepth : Config.noticeDepth = 32 := rfl
    omega
  have hlatches : ∀ x ∈ TripSource.all, t.latch x = t.condition x ∧ t.route x = s.route x := by
    intro x hx
    rw [State.latch_congr hprobe, hlatch x hx, ProbeUnit.latch_reset rfl, hcond, hroute]
    exact ⟨rfl, rfl⟩
  obtain ⟨hperiod, hnext, hround, hremaining, hexchange⟩ := ProbeUnit.round_of_reset ht
  refine ⟨?_, ?_, hline, ?_, ?_, ?_, ?_, ?_, htr, ?_, ?_, hlatches, hperiod, hexchange, hremaining,
    ProbeUnit.external_of_reset ht, hnext, hround,
    fun n ch hc => ProbeUnit.channel_of_reset ht hc, htwait, htbaud, hhead, hclear,
    resetNotices_form hnotices ht htr (by rw [hline]; rfl)⟩
  case refine_1 =>
    rw [hrest, hquiet]
    exact hw
  all_goals
    rw [hrest, hquiet]
    rfl

end ResetFrom

end Sys2Proof.Machine
end

section
/-! ## The line reset pin and RESET LINE (R15, R170, R183, R184, R191) -/

namespace Sys2Proof.Machine

/-! ### The assertion of the pin -/

/-- R15: the counters held and the transmitter cut short, before a proving run ends. -/
def State.pinned (s : State) : State :=
  (({ s with pin := true } : State).onLink fun u => { u with transmitter := .idle }).holdCounters

theorem State.assertPin_eq (s : State) : s.assertPin =
    s.pinned.endProving.onComm fun u => { u with owed := u.owed || decide (s.comm.record.result = .running) } := rfl

/-- R170: without a RUNNING record the pin moves no account. -/
theorem State.assertPin_other {s : State} (h : s.comm.record.result ≠ .running) : s.assertPin = s.pinned := by
  rw [State.assertPin_eq, State.endProving_other (s := s.pinned) h, decide_eq_false h]
  simp only [Bool.or_false]
  rfl

/-- R170, R191: a RUNNING record ends ABORTED with its notice owed. -/
theorem State.assertPin_running {s : State} {r : ProvingRun} (h : s.comm.record = ⟨.running, some r⟩) :
    s.assertPin.comm = { s.comm with record := ⟨.aborted, some { r with ended := some s.time.lineTime }⟩, owed := true } ∧
      s.assertPin.parcel.current = none := by
  rw [State.assertPin_eq, State.endProving_running (s := s.pinned) h]
  refine ⟨?_, ?_⟩
  · rw [State.onComm_comm, State.dropCurrent_comm, h, decide_eq_true rfl, Bool.or_true]
    rfl
  · rw [State.onComm_parcel, State.dropCurrent_current]

/-- R15: what the assertion leaves alone. -/
theorem State.assertPin_frame (s : State) : s.assertPin = { s with
    pin := true, track := s.pinned.track, parcel := s.assertPin.parcel, comm := s.assertPin.comm, link := s.assertPin.link } := by
  rw [State.assertPin_eq, State.endProving_frame]
  rfl

theorem State.assertPin_rest (s : State) : s.assertPin.link.rest = { s.link with transmitter := .idle }.rest := by
  rw [State.assertPin_eq, State.onComm_link, rest_endProving]
  rfl

/-! ### RESET LINE and the release of the pin -/

/-- R15: a line reset touches nothing of the link but its notices. -/
theorem State.rest_lineReset (l : LinkUnit) (s : State) :
    ({ s with pin := false, link := l } : State).lineReset.link.rest = l.rest := by
  obtain ⟨hquiet, -⟩ := State.resetNotices_quiet (u := s.resetOn l) (restState_runs _) rfl s.line.state
    s.parcel.parcels.length s.parcel.lots
  rw [State.lineReset_on, hquiet, LinkUnit.rest_offerAll]
  rfl

/-- R15: a line reset leaves power and pin. -/
theorem State.lineReset_powered (l : LinkUnit) (s : State) :
    ({ s with pin := false, link := l } : State).lineReset.powered = s.powered := by
  obtain ⟨hquiet, -⟩ := State.resetNotices_quiet (u := s.resetOn l) (restState_runs _) rfl s.line.state
    s.parcel.parcels.length s.parcel.lots
  rw [State.lineReset_on, hquiet]
  rfl

/-- R184: the end of the command that carried out a line reset. -/
theorem resetFrom_finish {s r u : State} {l : LinkUnit} (hr : r = ({ s with pin := false, link := l } : State).lineReset)
    (hw : s.powered = true) (hl : l.notices = []) (hwait : l.waiting = []) (hover : l.overrun = false)
    (hbaud : l.baud = s.link.baud) (hu : u = { r with link := u.link })
    (hlink : u.link = { r.link with receive := u.link.receive }) : ResetFrom s u.finish := by
  have hpin : u.pin = false := by rw [hu, hr, State.lineReset_pin]
  have hpow : u.powered = true := by rw [hu, hr, State.lineReset_powered, hw]
  have hfinish : u.finish.link = u.link.choose := State.finish_link _ hpin hpow
  refine resetFrom_of_lineReset hw hl hwait hover hbaud ?_ ?_ ?_ ?_ ?_ <;> rw [← hr]
  · rw [State.finish_frame, hu]
  · rw [hfinish, LinkUnit.choose_notices, hlink]
  · rw [hfinish, LinkUnit.choose_waiting, hlink]
  · rw [hfinish, LinkUnit.choose_overrun, hlink]
  · rw [hfinish, LinkUnit.choose_frame, hlink]

/-- R183: the places kept end at the request that is being taken. -/
theorem uptoOldest_split (rs : List Reply) (f : Frame) (rest : List Place) :
    uptoOldest (rs.map Place.answered ++ .waiting f :: rest) = rs.map Place.answered ++ [.waiting f] := by
  induction rs with
  | nil => rfl
  | cons r rs ih => exact congrArg _ ih

/-- R183: places that are all answered are replies. -/
theorem exists_replies {before : List Place} (h : ∀ x ∈ before, ∃ r, x = .answered r) :
    ∃ rs : List Reply, before = rs.map Place.answered := by
  induction before with
  | nil => exact ⟨[], rfl⟩
  | cons x xs ih =>
    obtain ⟨r, rfl⟩ := h x (List.mem_cons_self ..)
    obtain ⟨rs, rfl⟩ := ih fun y hy => h y (List.mem_cons_of_mem _ hy)
    exact ⟨r :: rs, rfl⟩

/-- R183: the oldest waiting frame behind replies. -/
theorem LinkUnit.oldest_of_split {u : LinkUnit} {rs : List Reply} {f : Frame} {rest : List Place}
    (h : u.receive = rs.map Place.answered ++ .waiting f :: rest) : u.oldest = some f := by
  unfold LinkUnit.oldest
  rw [h]
  clear h
  induction rs with
  | nil => rfl
  | cons r rs ih => exact ih

/-- R182: a reply on a link that stands as `l` apart from its notices. -/
theorem State.answer_rest {u : State} {l : LinkUnit} (h : u.link.rest = l.rest) (f : Frame) (b : ReplyBody) :
    (u.answer f b).link.rest = { l with receive := answerOldest ⟨replyKind f.kind, f.tag, b⟩ l.receive }.rest := by
  rw [State.answer, State.onLink_link, LinkUnit.rest_eq_iff.mp h]
  rfl

/-- R184: no BUSY reply is made by the choice. -/
theorem LinkUnit.choose_busy_nil {u : LinkUnit} (h : u.busy = []) : u.choose.busy = [] := by
  unfold LinkUnit.choose
  split
  · split
    · exact h
    · rw [h]
      dsimp only
      split
      · rfl
      · exact h
  · exact h

/-- R184: with nothing received and no BUSY reply the choice leaves the receive queue. -/
theorem LinkUnit.choose_receive_nil {u : LinkUnit} (h : u.receive = []) : u.choose.receive = [] := by
  unfold LinkUnit.choose
  split
  · rw [h]
    dsimp only
    split
    · rfl
    · split
      · rfl
      · exact h
  · exact h

/-- R184: an idle transmitter takes the oldest of the replies made. -/
theorem LinkUnit.choose_oldest {u : LinkUnit} {rs : List Reply} {q : Reply} (h : u.transmitter = .idle)
    (hr : u.receive = rs.map Place.answered ++ [.answered q]) :
    ∃ r, u.receive = .answered r :: u.choose.receive ∧ u.choose.transmitter = .reply r := by
  obtain ⟨r, rest, hrest⟩ : ∃ r rest, u.receive = .answered r :: rest := by
    cases rs with
    | nil => exact ⟨q, [], hr⟩
    | cons r rs => exact ⟨r, _, hr⟩
  refine ⟨r, ?_, ?_⟩ <;> rw [LinkUnit.choose_reply u r rest h hrest]
  exact hrest

theorem Transmitter.unqueue_idle {x : Transmitter} : x.unqueue = .idle ↔ x = .idle := by cases x <;> simp [Transmitter.unqueue]

/-- RESET LINE is taken in every state. -/
theorem exec_resetLine {s : State} {f : Frame} (h : Taken s .resetLine f) (hf : f.payload = []) : exec .resetLine s =
    .next (({ s with pin := false, link := s.link.resetByRequest } : State).lineReset.replied f (.status .ok)) := by
  have hpin : ({ s with pin := false, link := s.link.resetByRequest } : State) = s.onLink LinkUnit.resetByRequest := by
    obtain ⟨⟨-, hp, -⟩, -⟩ := h
    rw [← hp]
    rfl
  have howner : doResetLine () s = ((s.onLink LinkUnit.resetByRequest).lineReset, .status .ok) := by simp only [doResetLine]
  have hact := State.act_handOn s .resetLine f parseNone doResetLine h () (by rw [hf]; rfl)
  rw [howner] at hact
  rw [hpin, exec, execResetLine, hact]

/-- Settles O15: the assertion ends a proving run and holds the counters; request and release run one line reset, each on its
own link. -/
theorem pinAndLineReset : Obligations.PinAndLineReset := by
  refine ⟨fun s hw => ⟨fun hp => ?_, fun hp => ?_⟩, fun s f h hf => ?_, fun s hw hp => ?_, fun s hw hp => ?_⟩
  · rw [exec, execLineResetPinAssert, State.act_powered _ _ hw, if_pos hp]
  · have hexec : exec .lineResetPinAssert s = .next s.assertPin.finish := by
      rw [exec, execLineResetPinAssert, State.act_powered _ _ hw, if_neg (by simp [hp])]
    have hpin : s.assertPin.pin = true := by rw [State.assertPin_frame]
    have hlink := s.assertPin_rest
    refine ⟨_, hexec, ?_, ?_, ?_, ?_, fun n => ?_, fun hr => ?_, fun r hr => ?_⟩
    · rw [State.finish_frame, State.assertPin_frame]
    · rw [State.finish_pins, State.drivenPins_withdrawn (Or.inl hpin)]
      rfl
    · rw [State.finish_link_pin _ hpin, LinkUnit.transmitter_of_rest hlink]
    · rw [State.finish_link_pin _ hpin, LinkUnit.receive_of_rest hlink]
    · rw [State.finish_track, State.assertPin_frame]
      exact Table.get?_mapVals ..
    · rw [State.finish_comm, State.finish_parcel, State.assertPin_other hr]
      exact ⟨rfl, rfl⟩
    · rw [State.finish_comm, State.finish_parcel]
      exact State.assertPin_running hr
  · have hexec := exec_resetLine h hf
    obtain ⟨⟨hw, hp, hold, -⟩, -⟩ := h
    obtain ⟨r, hr⟩ : ∃ r, r = ({ s with pin := false, link := s.link.resetByRequest } : State).lineReset := ⟨_, rfl⟩
    have hrest : r.link.rest = s.link.resetByRequest.rest := by rw [hr, State.rest_lineReset]
    have hpin : r.pin = false := by rw [hr, State.lineReset_pin]
    have hpow : r.powered = true := by rw [hr, State.lineReset_powered, hw]
    have hlink : (r.replied f (.status .ok)).link = (r.answer f (.status .ok)).link.choose :=
      State.finish_link _ hpin hpow
    have hanswer := State.answer_rest hrest f (.status .ok)
    have htransmitter : (r.answer f (.status .ok)).link.transmitter = s.link.transmitter.unqueue :=
      LinkUnit.transmitter_of_rest hanswer
    have hstays : s.link.transmitter ≠ .idle → (r.replied f (.status .ok)).link = (r.answer f (.status .ok)).link := fun hne =>
      hlink.trans (LinkUnit.choose_busy _ (by rwa [htransmitter, Ne, Transmitter.unqueue_idle]))
    rw [← hr] at hexec
    refine ⟨_, hexec, resetFrom_finish hr hw rfl rfl rfl rfl rfl rfl, ?_, ?_, fun before after hb ha => ?_, fun n q hn => ?_,
      fun q hq => ?_⟩
    · obtain ⟨rs, rest, hreceive⟩ := LinkUnit.oldest_split _ _ hold
      refine State.replied_made ?_ _
      rw [LinkUnit.oldest_congr hrest]
      exact LinkUnit.oldest_of_split (rs := rs) (rest := []) ((congrArg uptoOldest hreceive).trans (uptoOldest_split ..))
    · rw [hlink]
      exact LinkUnit.choose_busy_nil (LinkUnit.busy_of_rest hanswer)
    · obtain ⟨rs, rfl⟩ := exists_replies ha
      have hreceive : (r.answer f (.status .ok)).link.receive =
          rs.map Place.answered ++ [.answered ⟨replyKind f.kind, f.tag, .status .ok⟩] := by
        rw [LinkUnit.receive_of_rest hanswer]
        show answerOldest _ (uptoOldest s.link.receive) = _
        rw [hb, uptoOldest_split, answerOldest_split]
      refine ⟨_, rfl, fun hne => by rw [hstays hne, hreceive], fun hi => ?_⟩
      rw [hlink, ← hreceive]
      exact LinkUnit.choose_oldest (by rw [htransmitter, hi]; rfl) hreceive
    · rw [hstays (by simp [hn]), htransmitter, hn]
      rfl
    · rw [hstays (by simp [hq]), htransmitter, hq]
      rfl
  · obtain ⟨r, hr⟩ : ∃ r, r = ({ s with pin := false, link := s.link.resetByPin } : State).lineReset := ⟨_, rfl⟩
    have hexec : exec .lineResetPinRelease s = .next r.finish := by
      rw [exec, execLineResetPinRelease, State.act_powered _ _ hw, if_pos hp, hr]
      rfl
    have hrest : r.link.rest = s.link.resetByPin.rest := by rw [hr, State.rest_lineReset]
    have hpin : r.pin = false := by rw [hr, State.lineReset_pin]
    have hpow : r.powered = true := by rw [hr, State.lineReset_powered, hw]
    have hlink : r.finish.link = r.link.choose :=
      State.finish_link _ hpin hpow
    refine ⟨_, hexec, resetFrom_finish hr hw rfl rfl rfl rfl rfl rfl, ?_, ?_, ?_⟩
    · rw [hlink]
      exact LinkUnit.choose_receive_nil (LinkUnit.receive_of_rest hrest)
    · rw [hlink]
      exact LinkUnit.choose_busy_nil (LinkUnit.busy_of_rest hrest)
    · rw [hlink, LinkUnit.choose_frame, LinkUnit.rest_eq_iff.mp hrest]
      rfl
  · rw [exec, execLineResetPinRelease, State.act_powered _ _ hw, if_neg (by simp [hp])]

end Sys2Proof.Machine
end

section
/-! ## Power-on and power loss (R16, R31, R55, R76, R98, R117, R141, R161, R174, R176, R178, R191) -/

namespace Sys2Proof.Machine

/-! ### Conditions formed on a line at rest (R87, R89) -/

/-- `t` is `s` with other channel records and with notices offered. -/
def OnlyChannels (s t : State) : Prop :=
  ∃ cs bs, t = { s with probe := { s.probe with channels := cs }, link := s.link.offerAll s.time.lineTime bs }

theorem OnlyChannels.refl (s : State) : OnlyChannels s s := ⟨s.probe.channels, [], rfl⟩

theorem OnlyChannels.trans {s t u : State} (h : OnlyChannels s t) (h' : OnlyChannels t u) : OnlyChannels s u := by
  obtain ⟨cs, bs, rfl⟩ := h
  obtain ⟨cs', bs', rfl⟩ := h'
  exact ⟨cs', bs ++ bs', by rw [LinkUnit.offerAll_append]⟩

theorem OnlyChannels.rests {s t : State} (h : OnlyChannels s t) (hr : s.line.state.runs = false) (hp : s.parcel.parcels = []) :
    t.line.state.runs = false ∧ t.parcel.parcels = [] := by
  obtain ⟨cs, bs, rfl⟩ := h
  exact ⟨hr, hp⟩

theorem OnlyChannels.forcing {s t : State} (h : OnlyChannels s t) (c : Nat) : t.forcing c = s.forcing c := by
  obtain ⟨cs, bs, rfl⟩ := h
  rfl

/-- R87: the latches once the conditions `now` have begun to hold over `before`. -/
def LevelMap.raised (now before latches : LevelMap Bool) (ls : List LevelName) : LevelMap Bool :=
  ls.foldl (fun m l => if now.look l && !before.look l then m.put true l else m) latches

theorem LevelMap.look_raised (now before latches : LevelMap Bool) (ls : List LevelName) (k : LevelName) :
    (LevelMap.raised now before latches ls).look k = (latches.look k || (decide (k ∈ ls) && now.look k && !before.look k)) := by
  induction ls generalizing latches with
  | nil => simp [LevelMap.raised]
  | cons l ls ih =>
    rw [LevelMap.raised, List.foldl_cons, ← LevelMap.raised, ih]
    by_cases hk : k = l
    · subst hk
      cases now.look k <;> cases before.look k <;> simp [LevelMap.look_put]
    · split <;> simp [LevelMap.look_put, hk]

/-- R89: a channel with those latches. -/
def Channel.raise (now before : LevelMap Bool) (ls : List LevelName) (ch : Channel) : Channel :=
  { ch with latches := now.raised before ch.latches ls }

theorem Channel.raise_cons (now before : LevelMap Bool) (l : LevelName) (ls : List LevelName) (ch : Channel) :
    ch.raise now before (l :: ls) = Channel.raise now before ls
      { ch with latches := if now.look l && !before.look l then ch.latches.put true l else ch.latches } := rfl

/-- A read after a change of one record. -/
theorem Table.get?_modify {α : Type} (t : Table α) (c k : Nat) (f : α → α) :
    (t.modify c f).get? k = if k = c then (t.get? k).map f else t.get? k := by
  split
  · next hk => rw [hk, Table.get?_modify_self]
  · next hk => exact Table.get?_modify_ne _ _ hk

/-- R89: one level of a channel that may begin to hold. -/
def State.fireLevel (c : Nat) (cause : TripCause) (time : Nat) (now before : LevelMap Bool) (l : LevelName) (s : State) : State :=
  if now.look l && !before.look l then s.fire (.level c l) cause 0 time else s

theorem State.fireLevel_quiet {s : State} (hr : s.line.state.runs = false) (hp : s.parcel.parcels = []) (c : Nat)
    (cause : TripCause) (time : Nat) (now before : LevelMap Bool) (l : LevelName) :
    OnlyChannels s (s.fireLevel c cause time now before l) ∧
    ∀ k, (s.fireLevel c cause time now before l).probe.channels.get? k = if k = c then
      (s.probe.channels.get? k).map fun ch =>
        { ch with latches := if now.look l && !before.look l then ch.latches.put true l else ch.latches }
      else s.probe.channels.get? k := by
  unfold State.fireLevel
  cases now.look l && !before.look l with
  | true =>
    rw [if_pos rfl, State.fire_quiet hr hp]
    refine ⟨⟨s.probe.channels.modify c fun ch => { ch with latches := ch.latches.put true l },
      s.tripNotices (.level c l) cause 0 time, rfl⟩, fun k => ?_⟩
    exact Table.get?_modify s.probe.channels c k fun ch => { ch with latches := ch.latches.put true l }
  | false =>
    have hid : (fun ch : Channel => { ch with latches := if false = true then ch.latches.put true l else ch.latches }) = id := rfl
    rw [if_neg (by simp), hid]
    exact ⟨.refl s, fun k => by rw [Option.map_id, id, ite_self]⟩

/-- R89: the events of the levels of one channel. -/
theorem fireLevels_quiet (c : Nat) (cause : TripCause) (time : Nat) (now before : LevelMap Bool) (ls : List LevelName) {s : State}
    (hr : s.line.state.runs = false) (hp : s.parcel.parcels = []) :
    OnlyChannels s (State.each (State.fireLevel c cause time now before) ls s) ∧
    ∀ k, (State.each (State.fireLevel c cause time now before) ls s).probe.channels.get? k =
      if k = c then (s.probe.channels.get? k).map (Channel.raise now before ls) else s.probe.channels.get? k := by
  induction ls generalizing s with
  | nil =>
    refine ⟨.refl s, fun k => ?_⟩
    have hid : Channel.raise now before [] = id := rfl
    rw [hid, Option.map_id, id, ite_self]
    rfl
  | cons l ls ih =>
    obtain ⟨hone, hlevel⟩ := State.fireLevel_quiet hr hp c cause time now before l
    obtain ⟨hr', hp'⟩ := hone.rests hr hp
    obtain ⟨honly, hget⟩ := ih hr' hp'
    refine ⟨hone.trans honly, fun k => ?_⟩
    rw [State.each, hget, hlevel]
    by_cases hk : k = c
    · simp only [if_pos hk, Option.map_map]
      rfl
    · simp only [if_neg hk]

/-- R87: the four conditions of a channel, from its sample results and the external forcing. -/
def State.formed (s : State) (c : Nat) (ch : Channel) : LevelMap Bool :=
  ⟨ch.results.lowCrit || s.forced c .lowCrit, ch.results.low || s.forced c .low, ch.results.high || s.forced c .high,
    ch.results.highCrit || s.forced c .highCrit⟩

/-- R87: the conditions of a channel replaced. -/
def State.form (c : Nat) (now : LevelMap Bool) (s : State) : State :=
  s.onProbe fun u => { u with channels := u.channels.modify c fun ch => { ch with conditions := now } }

theorem State.reform_some {s : State} {c : Nat} {ch : Channel} (h : s.probe.channels.get? c = some ch) (cause : TripCause)
    (time : Nat) : s.reform c cause time =
      State.each (State.fireLevel c cause time (s.formed c ch) ch.conditions) LevelName.all (s.form c (s.formed c ch)) := by
  simp only [State.reform, h]
  rfl

theorem State.reform_none {s : State} {c : Nat} (h : s.probe.channels.get? c = none) (cause : TripCause) (time : Nat) :
    s.reform c cause time = s := by simp [State.reform, h]

/-- R87: a channel in which no condition has held and no sample has been judged. -/
abbrev Channel.clear (ch : Channel) : Prop :=
  ch.results = .const false ∧ ch.conditions = .const false ∧ ch.latches = .const false

/-- R87, R89: the conditions of a channel from the external inputs alone. -/
theorem State.reform_quiet {s : State} (hr : s.line.state.runs = false) (hp : s.parcel.parcels = []) (c : Nat) (cause : TripCause)
    (time : Nat) : OnlyChannels s (s.reform c cause time) ∧
      (∀ k, k ≠ c → (s.reform c cause time).probe.channels.get? k = s.probe.channels.get? k) ∧
      ∀ ch, s.probe.channels.get? c = some ch → ch.clear →
        (s.reform c cause time).probe.channels.get? c = some { ch with conditions := s.forcing c, latches := s.forcing c } := by
  cases hc : s.probe.channels.get? c with
  | none =>
    rw [State.reform_none hc]
    exact ⟨.refl s, fun _ _ => rfl, fun _ h => nomatch h⟩
  | some ch =>
    have hone : OnlyChannels s (s.form c (s.formed c ch)) := ⟨_, [], rfl⟩
    obtain ⟨hr', hp'⟩ := hone.rests hr hp
    obtain ⟨honly, hget⟩ := fireLevels_quiet c cause time (s.formed c ch) ch.conditions LevelName.all hr' hp'
    rw [← State.reform_some hc] at honly hget
    have hform : ∀ k, (s.form c (s.formed c ch)).probe.channels.get? k = if k = c then (s.probe.channels.get? k).map fun ch' =>
        { ch' with conditions := s.formed c ch } else s.probe.channels.get? k := fun k => Table.get?_modify ..
    refine ⟨hone.trans honly, fun k hk => ?_, fun ch' hch' ⟨hres, hcond, hlat⟩ => ?_⟩
    · rw [hget, if_neg hk, hform, if_neg hk]
    · cases hch'
      have hformed : s.formed c ch = s.forcing c := by
        rw [State.formed, hres]
        rfl
      have hraised : LevelMap.raised (s.forcing c) ch.conditions ch.latches LevelName.all = s.forcing c := by
        refine LevelMap.ext_look fun l => ?_
        rw [LevelMap.look_raised, hcond, hlat]
        cases l <;> simp [LevelMap.const, LevelMap.look, LevelName.all]
      rw [hget, if_pos rfl, hform, if_pos rfl, hc, hformed]
      exact congrArg (fun m => some { ch with conditions := s.forcing c, latches := m }) hraised

/-- R87, R89: channels formed in a row, each number once. -/
theorem reformEach_quiet (cs : List Nat) (hd : cs.Nodup) {s : State} (hr : s.line.state.runs = false)
    (hp : s.parcel.parcels = []) :
    OnlyChannels s (State.each (fun c s => s.reform c .external s.time.lineTime) cs s) ∧
    (∀ k, k ∉ cs → (State.each (fun c s => s.reform c .external s.time.lineTime) cs s).probe.channels.get? k =
      s.probe.channels.get? k) ∧
    ∀ k ∈ cs, ∀ ch, s.probe.channels.get? k = some ch → ch.clear →
      (State.each (fun c s => s.reform c .external s.time.lineTime) cs s).probe.channels.get? k =
        some { ch with conditions := s.forcing k, latches := s.forcing k } := by
  induction cs generalizing s with
  | nil => exact ⟨.refl s, fun _ _ => rfl, fun _ hk => nomatch hk⟩
  | cons c cs ih =>
    obtain ⟨hnot, hd'⟩ := List.nodup_cons.mp hd
    obtain ⟨hone, hother, hself⟩ := State.reform_quiet hr hp c .external s.time.lineTime
    obtain ⟨hr', hp'⟩ := hone.rests hr hp
    obtain ⟨honly, hout, hin⟩ := ih hd' hr' hp'
    rw [State.each]
    refine ⟨hone.trans honly, fun k hk => ?_, fun k hk ch hch hclear => ?_⟩
    · obtain ⟨hkc, hks⟩ := not_or.mp (List.mem_cons.not.mp hk)
      rw [hout k hks, hother k hkc]
    · rcases List.mem_cons.mp hk with rfl | hks
      · rw [hout k hnot, hself ch hch hclear]
      · have hkc : k ≠ c := fun e => hnot (e ▸ hks)
        rw [hin k hks ch ((hother k hkc).trans hch) hclear, hone.forcing]

/-! ### Power-on -/

/-- R98: a channel from the stored set is clear. -/
theorem ChannelSetting.load_clear (x : ChannelSetting) : x.load.clear := ⟨rfl, rfl, rfl⟩

theorem channelNumbers_nodup : channelNumbers.Nodup := by decide

theorem mem_channelNumbers {c : Nat} (h1 : 1 ≤ c) (h16 : c ≤ 16) : c ∈ channelNumbers := by
  unfold channelNumbers
  interval_cases c <;> decide

/-- R16: the state with the LINE STATE notice of power-on offered. -/
def State.woken (s : State) (d : StoredSet) (seen : List FieldInput) (baud : Nat) : State :=
  let u := State.fresh s.store.keptImage d seen baud s.draws s.pending
  u.notify (.lineState u.line.state none .powerOn none .absent)

theorem State.powerUp_eq (s : State) (seen : List FieldInput) (baud : Nat) : s.powerUp seen baud =
    State.each (fun c s => s.reform c .external s.time.lineTime) channelNumbers (s.woken (loadedSet s.store.keptImage) seen baud) := rfl

/-- R2, R15: at rest with gates, lanes and shuttle as at power-on every output is withdrawn. -/
theorem State.drivenPins_fresh {u : State} (hr : u.line.state.runs = false) (hgate : u.dist.openGate = none)
    (hlane : ∀ n l, u.dist.lanes.get? n = some l → l.state = .closed) (hshuttle : u.transfer.shuttle.state = .idle) :
    u.drivenPins = .withdrawn := by
  have hseal : ∀ n, u.sealDemand n = false := by
    intro n
    unfold State.sealDemand
    cases hl : u.dist.lanes.get? n with
    | none => rfl
    | some l => simp [hlane n l hl]
  unfold State.drivenPins
  split
  · rfl
  · simp [State.trackRun_rest hr, State.infeedRun_rest hr, hgate, hseal, Shuttle.station, hshuttle, Pins.withdrawn]

theorem StoreUnit.loadedSet_keptImage (u : StoreUnit) :
    loadedSet u.keptImage = (if u.save.isSome then none else u.image).getD StoredSet.factory := rfl

/-- R141: every lane is CLOSED at power-on. -/
theorem closed_of_freshLane {d : StoredSet} {seen : List FieldInput} {n : Nat} {l : Lane}
    (h : (n, l) ∈ (DistributionUnit.fresh d seen).lanes) : l.state = .closed := by
  simp only [DistributionUnit.fresh, Table.fill, List.mem_cons, Prod.mk.injEq, List.not_mem_nil, or_false] at h
  rcases h with ⟨-, rfl⟩ | ⟨-, rfl⟩ | ⟨-, rfl⟩ | ⟨-, rfl⟩ <;> rfl

/-- R16, R191: the link after power-on: LINE STATE at the head of the queue, nothing received. -/
theorem LinkUnit.choose_woken (baud : Nat) (b : NoticeBody) (bs : List NoticeBody) {u : LinkUnit}
    (h : u = (LinkUnit.fresh baud).offerAll 0 (b :: bs)) :
    u.choose.baud = baud ∧ u.choose.receive = [] ∧ u.choose.busy = [] ∧ u.choose.waiting = [] ∧ u.choose.receiver = none ∧
      ∃ more, u.choose.notices = ⟨0, b⟩ :: more := by
  rw [LinkUnit.offerAll_eq _ _ rfl] at h
  refine ⟨?_, LinkUnit.choose_receive_nil (by rw [h]; rfl), LinkUnit.choose_busy_nil (by rw [h]; rfl), ?_, ?_, ?_⟩
  · rw [LinkUnit.choose_frame, h]
    rfl
  · rw [LinkUnit.choose_frame, h]
    rfl
  · rw [LinkUnit.choose_frame, h]
    rfl
  · rw [LinkUnit.choose_notices, h]
    exact ⟨_, rfl⟩

/-- POWER LOSS of a powered part. -/
theorem exec_powerLoss {s : State} (hw : s.powered = true) : exec .powerLoss s = .next s.powerDown.finish := by
  rw [exec, execPowerLoss, State.act_powered _ _ hw]

/-- Settles O16: power-on is the fresh state with the channels formed from the external inputs and notices offered. -/
theorem powerOnAndLoss : Obligations.PowerOnAndLoss := by
  refine ⟨fun s seen a b d hok hd => ?_, fun s hw => ?_⟩
  · rw [← StoreUnit.loadedSet_keptImage] at hd
    have hform : (Instr.powerOn seen a b).wellFormed = true := hok
    have hexec : exec (.powerOn seen a b) s = .next (s.powerUp seen (baudOf a b)).finish := by
      rw [exec, execPowerOn, if_pos hform]
    obtain ⟨honly, -, hchannels⟩ := reformEach_quiet channelNumbers channelNumbers_nodup
      (s := s.woken d seen (baudOf a b)) (restState_runs d.locked) rfl
    rw [hd, ← State.powerUp_eq] at honly hchannels
    rw [← hd] at honly hchannels
    obtain ⟨cs, bs, hup⟩ := honly
    have hlink : (s.powerUp seen (baudOf a b)).link = (LinkUnit.fresh (baudOf a b)).offerAll 0
        (.lineState (restState d.locked) none .powerOn none .absent :: bs) := by rw [hup]; rfl
    have hfinish : (s.powerUp seen (baudOf a b)).finish.link = (s.powerUp seen (baudOf a b)).link.choose :=
      State.finish_link _ (by rw [hup]; rfl) (by rw [hup]; rfl)
    obtain ⟨hbaud, hreceive, hbusy, hwaiting, hreceiver, hnotices⟩ := LinkUnit.choose_woken _ _ _ hlink
    rw [← hfinish] at hbaud hreceive hbusy hwaiting hreceiver hnotices
    have hline : (s.powerUp seen (baudOf a b)).finish.line.state = restState d.locked := by
      rw [State.finish_line, hup]
      rfl
    refine ⟨_, hexec, ?_, ?_, ?_, ?_, ?_, ?_, ?_, ?_, ?_, ?_, ?_, ?_, ?_, ?_, fun c x h1 h16 hx => ?channels, ?_, ?_, fun hs => ?factory,
      rfl, rfl, rfl, rfl, ?_, ?_, ?speed, hreceive, hbusy, hwaiting, hreceiver, ?notices, ?pins⟩
    case channels =>
      have hfresh : (s.woken d seen (baudOf a b)).probe.channels.get? c = some x.load := by
        show (d.channels.mapVals fun _ c => c.load).get? c = _
        rw [Table.get?_mapVals, hx]
        rfl
      have hforced : (s.powerUp seen (baudOf a b)).finish.forced = (s.woken d seen (baudOf a b)).forced := by
        funext k l
        unfold State.forced
        rw [State.finish_probe, hup]
      rw [State.finish_probe, hforced]
      refine ⟨_, hchannels c (mem_channelNumbers h1 h16) _ hfresh x.load_clear, ⟨rfl, rfl, rfl, rfl, rfl, rfl, rfl, rfl, rfl, rfl⟩,
        fun m => ?_, rfl⟩
      cases m <;> rfl
    case factory =>
      rw [hd, StoreUnit.loadedSet_keptImage]
      rcases hs with hs | hs
      · rw [if_pos (Option.isSome_iff_ne_none.mpr hs)]
        rfl
      · rw [hs, ite_self]
        rfl
    case speed =>
      rw [hbaud]
      cases a <;> cases b <;> rfl
    case notices => rwa [hline]
    case pins =>
      rw [State.finish_pins]
      refine State.drivenPins_fresh ?_ ?_ (fun n l hl => ?_) ?_
      · rw [← State.finish_line, hline, restState_runs]
      · rw [hup]
        rfl
      · rw [hup] at hl
        exact closed_of_freshLane (Table.mem_of_get? hl)
      · rw [hup]
        rfl
    all_goals
      rw [State.finish_frame, hup]
      rfl
  · refine ⟨_, exec_powerLoss hw, rfl, rfl, ?_⟩
    rw [State.finish_pins, State.drivenPins_withdrawn (Or.inr rfl)]

end Sys2Proof.Machine
end

section
/-! ## What an index reads, and what a departure leaves of it (R43, R68, R125) -/

namespace Sys2Proof.Machine

/-! ### The view of an index -/

/-- What the index of a track reads and a distribution leaves alone. -/
structure IndexView where
  lineTime : Nat
  baseMs : Nat
  line : LineUnit
  comm : CommissionUnit
  track : TrackUnit
  probe : ProbeUnit
  parcels : Table Parcel
  current : Option Nat
  staged : Option Staged
  lastSeq : Seq

def State.indexView (s : State) : IndexView :=
  ⟨s.time.lineTime, s.time.baseMs, s.line, s.comm, s.track, s.probe, s.parcel.parcels, s.parcel.current, s.parcel.staged,
    s.parcel.lastSeq⟩

section View
variable (s : State)

@[simp] theorem indexView_notify (b : NoticeBody) : (s.notify b).indexView = s.indexView := rfl
@[simp] theorem indexView_onLot (slot : Nat) (f : Lot → Lot) : (s.onLot slot f).indexView = s.indexView := rfl
@[simp] theorem indexView_onDist (f : DistributionUnit → DistributionUnit) : (s.onDist f).indexView = s.indexView := rfl
@[simp] theorem indexView_onLane (n : Nat) (f : Lane → Lane) : (s.onLane n f).indexView = s.indexView := rfl
@[simp] theorem indexView_onLink (f : LinkUnit → LinkUnit) : (s.onLink f).indexView = s.indexView := rfl
@[simp] theorem indexView_armFor (id : TimerId) (ms : Nat) : (s.armFor id ms).indexView = s.indexView := rfl
@[simp] theorem indexView_cancel (id : TimerId) : (s.cancel id).indexView = s.indexView := rfl
@[simp] theorem indexView_closeGate (pending : Option Nat) : (s.closeGate pending).indexView = s.indexView := rfl
@[simp] theorem indexView_lotBreak (lanes : List Nat) (slot : Nat) : (s.lotBreak lanes slot).indexView = s.indexView := rfl

@[simp] theorem indexView_retireTest (slot : Nat) : (s.retireTest slot).indexView = s.indexView := by
  obtain ⟨hp, hc, hs, hq⟩ := s.retireTest_parcels slot
  simp [State.indexView, hp, hc, hs, hq]

@[simp] theorem indexView_requestGate (b : Nat) : (s.requestGate b).indexView = s.indexView := by
  unfold State.requestGate
  (repeat' split) <;> simp

@[simp] theorem indexView_toLaneZero (c : LaneZeroCause) : (s.toLaneZero c).1.indexView = s.indexView := by
  unfold State.toLaneZero State.requestLaneZero State.countLaneZero
  dsimp only
  split <;> simp

@[simp] theorem indexView_joinBag (k n : Nat) (p : Parcel) : (s.joinBag k n p).indexView = s.indexView := by
  unfold State.joinBag
  dsimp only
  (repeat' split) <;> simp

@[simp] theorem indexView_divert (n stamp : Nat) (p : Parcel) : (s.divert n stamp p).1.indexView = s.indexView := by
  unfold State.divert
  split
  · simp
  · split <;> simp [State.openBag]

@[simp] theorem indexView_passGate (n : Nat) (p : Parcel) (stamp : Nat) : (s.passGate n p stamp).1.indexView = s.indexView := by
  unfold State.passGate
  dsimp only
  split <;> simp [State.countRun, State.countLaneZero]

@[simp] theorem indexView_useLane (n : Nat) (p : Parcel) (stamp : Nat) : (s.useLane n p stamp).1.indexView = s.indexView := by
  unfold State.useLane
  dsimp only
  split <;> simp

@[simp] theorem indexView_chooseLane (e : ClassEntry) (p : Parcel) (stamp : Nat) :
    (s.chooseLane e p stamp).1.indexView = s.indexView := by
  unfold State.chooseLane
  dsimp only
  split <;> simp

/-- R125: the lane choice touches nothing an index reads. -/
@[simp] theorem indexView_distribute (p : Parcel) (v : VerdictRecord) : (s.distribute p v).1.indexView = s.indexView := by
  unfold State.distribute
  (repeat' split) <;> simp

end View

/-! ### The plan of the tracks -/

/-- R35, R36: a track's definition and zones, without what moves. -/
def Track.bare (t : Track) : Track :=
  { t with head := 0, counter := 0, backedUp := false, stalled := false, queue := [], mode := .off, staged := none }

/-- R35, R36: the definitions and zones that cells and zone map are counted from. -/
def TrackUnit.plan (u : TrackUnit) : Table Track := u.tracks.mapVals fun _ t => t.bare

theorem cellBase_bare (n : Nat) (ts : Table Track) : cellBase n (ts.mapVals fun _ t => t.bare) = cellBase n ts := by
  induction ts with
  | nil => rfl
  | cons e ts ih =>
    obtain ⟨m, t⟩ := e
    simp only [Table.mapVals, cellBase, ih]
    rfl

theorem zoneMapFrom_bare (id : Nat) (ts : Table Track) : zoneMapFrom id (ts.mapVals fun _ t => t.bare) = zoneMapFrom id ts := by
  induction ts generalizing id with
  | nil => rfl
  | cons e ts ih =>
    obtain ⟨n, t⟩ := e
    simp only [Table.mapVals, zoneMapFrom, ih]
    rfl

section Plan
variable {u v : TrackUnit} (h : u.plan = v.plan)
include h

theorem TrackUnit.cellOf_of_plan (n : Nat) (t : Track) (pos : Nat) : u.cellOf n t pos = v.cellOf n t pos := by
  have hbase : cellBase n u.tracks = cellBase n v.tracks :=
    (cellBase_bare n u.tracks).symm.trans ((congrArg (cellBase n) h).trans (cellBase_bare n v.tracks))
  rw [TrackUnit.cellOf, hbase, TrackUnit.cellOf]

theorem TrackUnit.zoneAt_of_plan (n pos : Nat) : u.zoneAt n pos = v.zoneAt n pos := by
  have hmap : u.zoneMap = v.zoneMap :=
    (zoneMapFrom_bare 0 u.tracks).symm.trans ((congrArg (zoneMapFrom 0) h).trans (zoneMapFrom_bare 0 v.tracks))
  rw [TrackUnit.zoneAt, hmap, TrackUnit.zoneAt]

end Plan

/-- A change of what moves on a track leaves the plan. -/
theorem plan_modify (u : TrackUnit) (n : Nat) {f : Track → Track} (hf : ∀ t, (f t).bare = t.bare) :
    ({ u with tracks := u.tracks.modify n f } : TrackUnit).plan = u.plan := by
  rw [TrackUnit.plan, Table.modify, Table.mapVals_mapVals]
  refine Table.mapVals_congr fun e _ => ?_
  split
  · exact hf _
  · rfl

theorem plan_mapVals (u : TrackUnit) {f : Nat → Track → Track} (hf : ∀ n t, (f n t).bare = t.bare) :
    ({ u with tracks := u.tracks.mapVals f } : TrackUnit).plan = u.plan := by
  rw [TrackUnit.plan, Table.mapVals_mapVals]
  exact Table.mapVals_congr fun e _ => hf _ _

/-! ### The departure -/

/-- What a departure leaves of what an index reads: clock, settings, declarations and numbers stay, the plan and the head
pointers of the tracks and the cells stay, no record comes into use, and the line passes at most from DRAINING to READY. -/
structure Departed (s t : State) : Prop where
  lineTime : t.time.lineTime = s.time.lineTime
  baseMs : t.time.baseMs = s.time.baseMs
  probe : t.probe = s.probe
  current : t.parcel.current = s.parcel.current
  staged : t.parcel.staged = s.parcel.staged
  lastSeq : t.parcel.lastSeq = s.parcel.lastSeq
  cells : t.track.cells = s.track.cells
  plan : t.track.plan = s.track.plan
  head : ∀ n, (t.track.tracks.get? n).map Track.head = (s.track.tracks.get? n).map Track.head
  free : ∀ k, s.parcel.parcels.get? k = none → t.parcel.parcels.get? k = none
  line : t.line = s.line ∨ s.line.state = .draining ∧ t.line.state = .ready

theorem Departed.refl (s : State) : Departed s s :=
  ⟨rfl, rfl, rfl, rfl, rfl, rfl, rfl, rfl, fun _ => rfl, fun _ h => h, Or.inl rfl⟩

theorem Departed.trans {s t u : State} (h : Departed s t) (h' : Departed t u) : Departed s u where
  lineTime := h'.lineTime.trans h.lineTime
  baseMs := h'.baseMs.trans h.baseMs
  probe := h'.probe.trans h.probe
  current := h'.current.trans h.current
  staged := h'.staged.trans h.staged
  lastSeq := h'.lastSeq.trans h.lastSeq
  cells := h'.cells.trans h.cells
  plan := h'.plan.trans h.plan
  head n := (h'.head n).trans (h.head n)
  free k hk := h'.free k (h.free k hk)
  line := by
    rcases h.line with hl | ⟨hd, hr⟩
    · rw [← hl]
      exact h'.line
    · rcases h'.line with hl' | ⟨-, hr'⟩
      · exact Or.inr ⟨hd, by rw [hl', hr]⟩
      · exact Or.inr ⟨hd, hr'⟩

theorem Departed.of_view {s t : State} (h : t.indexView = s.indexView) : Departed s t := by
  obtain ⟨htime, hms, hline, -, htrack, hprobe, hparcels, hcurrent, hstaged, hseq⟩ := IndexView.mk.inj h
  exact ⟨htime, hms, hprobe, hcurrent, hstaged, hseq, by rw [htrack], by rw [htrack], fun n => by rw [htrack], fun k hk => by rw [hparcels, hk],
    Or.inl hline⟩

/-- A change of the tracks that leaves plan and head pointers. -/
theorem Departed.onTrack (s : State) {f : TrackUnit → TrackUnit} (hcells : (f s.track).cells = s.track.cells)
    (hplan : (f s.track).plan = s.track.plan)
    (hhead : ∀ n, ((f s.track).tracks.get? n).map Track.head = (s.track.tracks.get? n).map Track.head) :
    Departed s (s.onTrack f) :=
  ⟨rfl, rfl, rfl, rfl, rfl, rfl, hcells, hplan, hhead, fun _ h => h, Or.inl rfl⟩

theorem Departed.onTrackRec (s : State) (n : Nat) {f : Track → Track} (hf : ∀ t, (f t).bare = t.bare)
    (hh : ∀ t, (f t).head = t.head) : Departed s (s.onTrackRec n f) := by
  refine Departed.onTrack s rfl (plan_modify _ n hf) fun m => ?_
  show ((s.track.tracks.modify n f).get? m).map Track.head = _
  rw [Table.get?_modify]
  split
  · rw [Option.map_map]
    congr 1
    funext t
    exact hh t
  · rfl

theorem Departed.onTracks (s : State) {f : Track → Track} (hf : ∀ t, (f t).bare = t.bare) (hh : ∀ t, (f t).head = t.head) :
    Departed s (s.onTrack fun u => { u with tracks := u.tracks.mapVals fun _ t => f t }) := by
  refine Departed.onTrack s rfl (plan_mapVals _ fun _ => hf) fun m => ?_
  show ((s.track.tracks.mapVals fun _ t => f t).get? m).map Track.head = _
  rw [Table.get?_mapVals, Option.map_map]
  congr 1
  funext t
  exact hh t

/-- A change of the live parcels that brings no record into use. -/
theorem Departed.onParcels (s : State) {f : Table Parcel → Table Parcel}
    (hf : ∀ k, s.parcel.parcels.get? k = none → (f s.parcel.parcels).get? k = none) :
    Departed s (s.onParcel fun u => { u with parcels := f u.parcels }) :=
  ⟨rfl, rfl, rfl, rfl, rfl, rfl, rfl, rfl, fun _ => rfl, hf, Or.inl rfl⟩

/-- A deletion brings no record into use. -/
theorem Table.get?_del_none {α : Type} {t : Table α} {j : Nat} (k : Nat) (h : t.get? j = none) : (t.del k).get? j = none := by
  induction t with
  | nil => rfl
  | cons e t ih =>
    obtain ⟨m, v⟩ := e
    simp only [Table.get?] at h
    split at h
    · nomatch h
    · next hj =>
      unfold Table.del
      split
      · exact h
      · rw [Table.get?, if_neg hj, ih h]

/-! ### The steps of a departure -/

theorem Departed.retireParcel (s : State) (k slot : Nat) (f : Lot → Lot) : Departed s (s.retireParcel k slot f) :=
  (Departed.onParcels s (f := fun t => t.del k) fun _ h => Table.get?_del_none k h).trans
    ((Departed.of_view (indexView_onLot _ slot f)).trans (.of_view (indexView_retireTest _ slot)))

/-- R5: the end of a drain. -/
theorem Departed.emptyTest (s : State) : Departed s s.emptyTest := by
  by_cases h : s.line.state = .draining ∧ s.lineEmpty = true
  · obtain ⟨hd, he⟩ := h
    rw [State.emptyTest_drained hd he]
    have hreleased := Departed.onTracks s (f := Track.released) (fun _ => rfl) fun _ => rfl
    have hparcel : s.drained.parcel = s.parcel := by simp [State.drained]
    constructor
    case lineTime => rw [State.drained_time]
    case baseMs => rw [State.drained_time]
    case probe => simp [State.drained]
    case cells => rw [State.drained_track]
    case plan =>
      rw [State.drained_track]
      exact hreleased.plan
    case head =>
      intro n
      rw [State.drained_track]
      exact hreleased.head n
    case line => exact Or.inr ⟨hd, by simp [State.drained]⟩
    case free =>
      rw [hparcel]
      exact fun _ h => h
    all_goals rw [hparcel]
  · rw [State.emptyTest_keep s h]
    exact .refl s

theorem Departed.takeEntry (s : State) (p : Parcel) (entry : ProvingRun → ProvingEntry) : Departed s (s.takeEntry p entry) := by
  unfold State.takeEntry
  split
  · exact ⟨rfl, rfl, rfl, rfl, rfl, rfl, rfl, rfl, fun _ => rfl, fun _ h => h, Or.inl rfl⟩
  · exact .refl s

theorem Departed.outfeed (k : Nat) (p : Parcel) (stamp : Nat) (s : State) : Departed s (s.outfeed k p stamp) := by
  unfold State.outfeed
  refine Departed.trans ?_ (.emptyTest _)
  refine Departed.trans ?_ (.retireParcel ..)
  refine Departed.trans ?_ (.takeEntry ..)
  split
  · exact .of_view (by simp)
  · exact .of_view (by simp)

theorem Departed.joinQueue (k n place : Nat) (s : State) : Departed s (s.joinQueue k n place) := by
  refine (Departed.onTrackRec s n (f := fun t => { t with queue := t.queue ++ [k] }) (fun _ => rfl) fun _ => rfl).trans ?_
  refine Departed.onParcels _ (f := fun t => t.modify k fun p => { p.leaveZone s.time.baseMs with loc := .queue n place })
    fun j hj => ?_
  rw [Table.get?_modify, hj]
  split <;> rfl

theorem Departed.backpressure (k n : Nat) (p : Parcel) (stamp : Nat) (s : State) : Departed s (s.backpressure k n p stamp) := by
  unfold State.backpressure
  refine Departed.trans ?_ (.emptyTest _)
  refine Departed.trans ?_ (.of_view (indexView_cancel ..))
  refine Departed.trans ?_ (.onTrackRec _ n (f := fun t => { t with backedUp := true }) (fun _ => rfl) fun _ => rfl)
  refine Departed.trans ?_ (.of_view (indexView_notify ..))
  exact (Departed.takeEntry ..).trans (.retireParcel ..)

/-- A deletion of a key that is absent changes nothing. -/
theorem Table.del_absent {α : Type} {t : Table α} {k : Nat} (h : t.get? k = none) : t.del k = t := by
  induction t with
  | nil => rfl
  | cons e t ih =>
    obtain ⟨m, v⟩ := e
    simp only [Table.get?] at h
    split at h
    · nomatch h
    · next hk => rw [Table.del, if_neg hk, ih h]

/-- R43: the last cell of a track emptied. -/
def State.vacated (n : Nat) (t : Track) (s : State) : State :=
  s.onTrack fun u => { u with cells := u.cells.del (s.track.cellOf n t (t.segments - 1)) }

/-- R43: from an empty last cell nothing departs. -/
theorem State.depart_empty {s : State} {n : Nat} {t : Track} (h : s.track.cells.get? (s.track.cellOf n t (t.segments - 1)) = none)
    (stamp : Nat) : s.depart n t stamp = s := by simp [State.depart, h]

theorem State.vacated_empty {s : State} {n : Nat} {t : Track}
    (h : s.track.cells.get? (s.track.cellOf n t (t.segments - 1)) = none) : s.vacated n t = s := by
  have hcells := Table.del_absent h
  show ({ s with track := { s.track with cells := s.track.cells.del (s.track.cellOf n t (t.segments - 1)) } } : State) = s
  rw [hcells]

/-- R43: the departure from the last position of a track. -/
theorem Departed.depart (n : Nat) (t : Track) (stamp : Nat) (s : State) : Departed (s.vacated n t) (s.depart n t stamp) := by
  cases hcell : s.track.cells.get? (s.track.cellOf n t (t.segments - 1)) with
  | none =>
    rw [State.depart_empty hcell, State.vacated_empty hcell]
    exact .refl s
  | some k =>
    unfold State.depart
    simp only [hcell]
    split
    · exact .refl _
    · split
      · exact .outfeed ..
      · split
        · exact .joinQueue ..
        · exact .backpressure ..

/-! ### The proving entry of a departure (R168) -/

/-- R168: the commissioning unit after at most one entry more. -/
def OneEntry (u v : CommissionUnit) : Prop :=
  v = u ∨ ∃ r e, u.record = ⟨.running, some r⟩ ∧ v = { u with record := ⟨.running, some { r with entries := r.entries ++ [e] }⟩ }

theorem State.takeEntry_comm (s : State) (p : Parcel) (entry : ProvingRun → ProvingEntry) :
    OneEntry s.comm (s.takeEntry p entry).comm := by
  unfold State.takeEntry
  split
  · next r hp hres hrun => exact Or.inr ⟨r, entry r, by cases h : s.comm.record; simp_all, rfl⟩
  · exact Or.inl rfl

theorem State.retireParcel_comm (s : State) (k slot : Nat) (f : Lot → Lot) : (s.retireParcel k slot f).comm = s.comm :=
  comm_of_lineView (lineView_retireParcel s k slot f)

theorem State.outfeed_comm (k : Nat) (p : Parcel) (stamp : Nat) (s : State) : OneEntry s.comm (s.outfeed k p stamp).comm := by
  have hout : (s.distribute p (s.verdict p stamp)).1.comm = s.comm := comm_of_lineView (lineView_distribute ..)
  unfold State.outfeed
  dsimp only
  rw [State.emptyTest_comm, State.retireParcel_comm]
  split
  · have h := State.takeEntry_comm ((s.distribute p (s.verdict p stamp)).1.notify (.outfeed (s.verdict p stamp)
      (s.distribute p (s.verdict p stamp)).2.lane (s.distribute p (s.verdict p stamp)).2.cause
      (s.distribute p (s.verdict p stamp)).2.bag)) p fun r => judgedEntry r (s.verdict p stamp)
    rwa [State.notify_comm, hout] at h
  · have h := State.takeEntry_comm (s.distribute p (s.verdict p stamp)).1 p fun r => judgedEntry r (s.verdict p stamp)
    rwa [hout] at h

theorem State.backpressure_comm (k n : Nat) (p : Parcel) (stamp : Nat) (s : State) :
    OneEntry s.comm (s.backpressure k n p stamp).comm := by
  unfold State.backpressure
  dsimp only
  rw [State.emptyTest_comm, State.cancel_comm, State.onTrackRec, State.onTrack_comm, State.notify_comm, State.retireParcel_comm]
  exact s.takeEntry_comm p _

/-- R168: a departure gives a proving run at most one entry. -/
theorem State.depart_comm (n : Nat) (t : Track) (stamp : Nat) (s : State) : OneEntry s.comm (s.depart n t stamp).comm := by
  unfold State.depart
  dsimp only
  split
  · exact Or.inl rfl
  · split
    · exact Or.inl rfl
    · split
      · exact State.outfeed_comm _ _ _ (s.onTrack _)
      · split
        · exact Or.inl rfl
        · exact State.backpressure_comm _ _ _ _ (s.onTrack _)

end Sys2Proof.Machine
end

section
/-! ## An index of track 1 (R43 to R47, R61) -/

namespace Sys2Proof.Machine

/-! ### The pulse that completes a segment (R40, R52) -/

/-- R40, R52: the counter at 0 and the stall timer re-armed while RUN is asserted. -/
def State.segmentDone (tr : Track) (s : State) : State := { s with
  track := { s.track with tracks := s.track.tracks.modify 1 fun x => { x with counter := 0 } }
  time := if s.line.state.runs = true ∧ tr.backedUp = false then
      { s.time with timers := s.time.timers.put 0 (min (s.time.lineTime + tr.stallLimit) 281474976710655) }
    else s.time }

theorem State.counting_of_indexes {s : State} {input : Nat} {tr : Track} (h : Indexes s input 1 tr) : s.counting tr = true := by
  obtain ⟨-, hp, -, -, -, -, hr, -⟩ := h
  rcases hr with hr | ⟨hs, hc⟩
  · simp [State.counting, hp, hr]
  · simp [State.counting, hp, hs, hc]

/-- R40: the index a completing pulse of track 1 starts. -/
theorem State.pulse_indexes {s : State} {input : Nat} {tr : Track} (h : Indexes s input 1 tr) (presence : Bool) :
    s.pulse presence 1 = (s.segmentDone tr).index 1 { tr with counter := 0 } presence s.time.lineTime := by
  have hcount := State.counting_of_indexes h
  obtain ⟨-, -, -, -, -, hget, -, hpulses⟩ := h
  have hrun : s.trackRun 1 = (s.line.state.runs && !tr.backedUp) := by simp [State.trackRun, hget]
  unfold State.pulse
  simp only [hget, hcount, if_true]
  rw [if_neg (by omega), hrun]
  congr 1
  unfold State.segmentDone
  cases s.line.state.runs <;> cases tr.backedUp <;> rfl

theorem exec_encoderPulse {s : State} {input : Nat} {tr : Track} (h : Indexes s input 1 tr) (presence : Bool) :
    exec (.encoderPulse input presence) s =
      .next ((s.segmentDone tr).index 1 { tr with counter := 0 } presence s.time.lineTime).finish := by
  have hpulse := State.pulse_indexes h presence
  obtain ⟨hw, -, h1, h4, hcounted, -, -, -⟩ := h
  have hone : s.encoder input presence = s.pulse presence 1 := by simp [State.encoder, hcounted, State.each]
  rw [exec, execEncoderPulse, if_pos (by simp [Instr.wellFormed, h1, h4]), State.act_powered _ _ hw, hone, hpulse]

/-! ### The end of a proving run -/

/-- R169: a run that still waits for an entry goes on. -/
theorem State.completeProving_open {s : State} (h : ∀ run, s.comm.record = ⟨.running, some run⟩ → run.entries.length < run.count) :
    s.completeProving = s := by
  unfold State.completeProving
  split
  · next r hres hrun =>
    have hopen := h r (by cases hrec : s.comm.record; simp_all)
    rw [if_neg (by omega)]
  · rfl

/-- R43 to R47: an index of track 1 behind its departure, up to the end of a proving run. -/
def State.afterDeparture (presence : Bool) (stamp : Nat) (s : State) : State :=
  (((s.advance 1 stamp).fill 1 presence stamp).applyStaged 1 stamp).indexNotice 1 (s.crosses 1) stamp

theorem State.afterDeparture_comm (presence : Bool) (stamp : Nat) (s : State) :
    (s.afterDeparture presence stamp).comm = s.comm := by
  have hview : (s.afterDeparture presence stamp).lineView = s.lineView := by simp [State.afterDeparture]
  exact comm_of_lineView hview

theorem State.index_open {s u : State} {t : Track} {presence : Bool} {stamp : Nat} (hu : u = s.depart 1 t stamp)
    (h : ∀ run, u.comm.record = ⟨.running, some run⟩ → run.entries.length < run.count) :
    s.index 1 t presence stamp = u.afterDeparture presence stamp := by
  have hcomplete : (u.afterDeparture presence stamp).completeProving = u.afterDeparture presence stamp :=
    State.completeProving_open (by rwa [State.afterDeparture_comm])
  rw [← hcomplete, hu]
  rfl

/-! ### The advance (R38, R44) -/

theorem State.entering_seq (s : State) (z : ZoneInfo) (stamp : Nat) (p : Parcel) : (s.entering z stamp p).seq = p.seq := by
  have hzone : ∀ stale marked, (p.enterZone z stale marked s.time.baseMs stamp).seq = p.seq := by
    intro stale marked
    unfold Parcel.enterZone Parcel.freezer Parcel.creditZone Parcel.addTrip Parcel.addGap
    dsimp only
    (repeat' split) <;> rfl
  unfold State.entering
  split <;> exact hzone ..

/-- R44: an advance gives no parcel another number. -/
theorem State.advanceParcel_seq (s : State) (n stamp : Nat) (p : Parcel) : (s.advanceParcel n stamp p).seq = p.seq := by
  unfold State.advanceParcel
  dsimp only
  (repeat' split) <;> simp only [State.entering_seq]

theorem Table.any_mapVals {α β : Type} (f : Nat → α → β) (p : Nat × β → Bool) (t : Table α) :
    (t.mapVals f).any p = t.any fun e => p (e.1, f e.1 e.2) := by
  induction t with
  | nil => rfl
  | cons e t ih => exact congrArg _ ih

/-- R62: the free number is read off the numbers in use. -/
theorem freeSeq_mapVals {f : Nat → Parcel → Parcel} (hf : ∀ k p, (f k p).seq = p.seq) (t : Table Parcel) (n : Nat) (q : Seq) :
    freeSeq (t.mapVals f) n q = freeSeq t n q := by
  induction n generalizing q with
  | zero => rfl
  | succ n ih =>
    have hany : (t.mapVals f).any (fun e => decide (e.2.seq = q)) = t.any fun e => decide (e.2.seq = q) := by
      rw [Table.any_mapVals]
      simp only [hf]
    rw [freeSeq, freeSeq, hany, ih]

/-- The lowest free key is read off the keys. -/
theorem Table.freeKey_mapVals {α β : Type} (f : Nat → α → β) (t : Table α) (k n : Nat) :
    (t.mapVals f).freeKey k n = t.freeKey k n := by
  induction n generalizing k with
  | zero => rfl
  | succ n ih => rw [Table.freeKey, Table.freeKey, Table.get?_mapVals, Option.isNone_map, ih]

/-- R45: an entry is judged by the probes and the clock. -/
theorem State.entering_congr {s t : State} (hp : t.probe = s.probe) (hms : t.time.baseMs = s.time.baseMs) :
    t.entering = s.entering := by
  have hmarks : t.markHolds = s.markHolds := by
    have hcond : ∀ c l, t.condition (.level c l) = s.condition (.level c l) := fun c l => by simp only [State.condition, hp]
    have hstale : ∀ c, t.condition (.stale c) = s.condition (.stale c) := fun c => by simp only [State.condition, hp]
    funext c
    simp [State.markHolds, TripSource.ofChannel, LevelName.all, hcond, hstale, State.route_congr hp]
  funext z stamp p
  unfold State.entering
  rw [hp, hms, hmarks]

/-! ### Position 0 -/

/-- A record of the plan in use. -/
theorem TrackUnit.track_of_plan {u v : TrackUnit} (h : u.plan = v.plan) {n : Nat} {t : Track} (hv : v.tracks.get? n = some t) :
    ∃ t', u.tracks.get? n = some t' ∧ t'.bare = t.bare := by
  have hget : (u.tracks.get? n).map Track.bare = some t.bare := by
    have hmap := congrArg (fun ts => Table.get? ts n) h
    simpa [TrackUnit.plan, hv] using hmap
  obtain ⟨t', hu, hb⟩ := Option.map_eq_some_iff.mp hget
  exact ⟨t', hu, hb⟩

/-- R38: the cell an index frees at the last position is the one it fills at position 0. -/
theorem TrackUnit.cellOf_advanced (u : TrackUnit) {t t' : Track} (n : Nat) (hs : t'.segments = t.segments)
    (hh : t'.head = (t.head + 1) % t.segments) (hlt : t.head < t.segments) : u.cellOf n t' 0 = u.cellOf n t (t.segments - 1) := by
  have hlast : t.head + t.segments - (t.segments - 1) = t.head + 1 := by omega
  rw [TrackUnit.cellOf, TrackUnit.cellOf, hs, hh, hlast, Nat.sub_zero, Nat.add_mod_right, Nat.mod_mod]

/-- R61: the conditions of a creation. -/
theorem State.creation_eq_some (s : State) (presence : Bool) (slot : Nat) (l : Lot) (k : Nat) :
    s.creation presence = some (slot, l, k) ↔ s.infeedRun = true ∧ presence = true ∧ s.parcel.current = some slot ∧
      s.parcel.lots.get? slot = some l ∧ s.parcel.parcels.freeKey 0 1024 = some k ∧ s.mayCreate l = true := by
  constructor
  · intro h
    unfold State.creation at h
    split at h
    · next hrun =>
      obtain ⟨hr, hp⟩ := Bool.and_eq_true_iff.mp hrun
      split at h
      · next slot' hc =>
        split at h
        · next l' k' hl hk =>
          split at h
          · next hm =>
            cases h
            exact ⟨hr, hp, hc, hl, hk, hm⟩
          · nomatch h
        · nomatch h
      · nomatch h
    · nomatch h
  · rintro ⟨hr, hp, hc, hl, hk, hm⟩
    simp [State.creation, hr, hp, hc, hl, hk, hm, Config.parcelCount]

/-- R61: what a creation asks of the line, the hold and the run. -/
theorem State.mayCreate_iff (s : State) (l : Lot) : s.mayCreate l = true ↔
    (s.line.state = .proving → ∃ run, s.comm.record.run = some run ∧ l.created.toNat < run.count) := by
  unfold State.mayCreate
  by_cases hs : s.line.state = .proving
  · rw [if_pos hs]
    cases s.comm.record.run <;> simp [hs]
  · simp [hs]

theorem State.infeedRun_iff (s : State) : s.infeedRun = true ↔
    (s.line.state = .running ∨ s.line.state = .proving) ∧ s.infeedHold = false := by simp [State.infeedRun]

/-- R45, R61: a new parcel as it stands at position 0. -/
def State.placed (stamp : Nat) (s : State) (p : Parcel) : Parcel :=
  match s.track.zoneAt 1 0 with
  | some z => s.entering z stamp { p with loc := .track 1 0 }
  | none => { p with loc := .track 1 0 }

/-- R45, R61: the fill of position 0 of track 1 by a creation. -/
theorem State.fill_created {s : State} {presence : Bool} {slot : Nat} {l : Lot} {k : Nat}
    (h : s.creation presence = some (slot, l, k)) {t : Track} (ht : s.track.tracks.get? 1 = some t) (stamp : Nat) {q : Seq}
    (hq : q = freeSeq s.parcel.parcels 1024 (s.parcel.lastSeq + 1)) :
    s.fill 1 presence stamp = { s with
      track := { s.track with cells := s.track.cells.put (s.track.cellOf 1 t 0) k }
      parcel := { s.parcel with
        parcels := (s.parcel.parcels.put k (Parcel.new q slot l stamp)).modify k (s.placed stamp)
        lots := s.parcel.lots.modify slot (Lot.create q), lastSeq := q } } := by
  have htrack : (s.createParcel slot l k stamp).track.tracks.get? 1 = some t := ht
  rw [State.fill, if_pos rfl, h, hq]
  dsimp only
  rw [State.place, htrack]
  rfl

theorem State.fill_nothing {s : State} {presence : Bool} (h : s.creation presence = none) (stamp : Nat) :
    s.fill 1 presence stamp = s := by simp [State.fill, h]

end Sys2Proof.Machine
end

section
/-! ## The end of an index of track 1 (R45 to R48, R59, R61) -/

namespace Sys2Proof.Machine

/-! ### Staged edits and the index notice -/

theorem State.makeCurrent_keeps (s : State) (slot : Nat) : (s.makeCurrent slot).track = s.track ∧
    (s.makeCurrent slot).parcel.parcels = s.parcel.parcels ∧ (s.makeCurrent slot).parcel.lastSeq = s.parcel.lastSeq := by
  refine ⟨State.makeCurrent_track .., ?_, ?_⟩
  all_goals
    unfold State.makeCurrent
    dsimp only
    split
    · split
      · rfl
      · simp [State.retireTest_parcels]
    · rfl

/-- R59: a lookup changes lots and declarations alone. -/
theorem State.applyDeclaration_keeps (s : State) (stamp : Nat) : (s.applyDeclaration stamp).track = s.track ∧
    (s.applyDeclaration stamp).parcel.parcels = s.parcel.parcels ∧
    (s.applyDeclaration stamp).parcel.lastSeq = s.parcel.lastSeq := by
  unfold State.applyDeclaration State.tableFull
  split
  · exact ⟨rfl, rfl, rfl⟩
  · split
    · split
      · exact State.makeCurrent_keeps (State.revive _ s) _
      · exact State.makeCurrent_keeps ..
    · split
      · exact State.makeCurrent_keeps (State.newLot s _ _) _
      · split <;> exact ⟨rfl, rfl, rfl⟩

theorem State.applyDeclaration_none {s : State} (h : s.parcel.staged = none) (stamp : Nat) : s.applyDeclaration stamp = s := by
  simp [State.applyDeclaration, h]

/-- R46: what the staged edits of an index of track 1 leave to the declaration. -/
theorem State.applyStaged_one (s : State) (stamp : Nat) : (s.applyStaged 1 stamp).parcel = (s.applyDeclaration stamp).parcel ∧
    (s.applyStaged 1 stamp).track.cells = (s.applyDeclaration stamp).track.cells ∧
    (s.applyStaged 1 stamp).link = (s.applyDeclaration stamp).link := by
  unfold State.applyStaged
  dsimp only
  rw [if_pos rfl]
  split <;> exact ⟨rfl, rfl, rfl⟩

/-- R47: the index notice changes the link alone. -/
theorem State.indexNotice_frame (s : State) (n : Nat) (moved : Bool) (stamp : Nat) :
    s.indexNotice n moved stamp = { s with link := (s.indexNotice n moved stamp).link } := by
  unfold State.indexNotice
  split
  · split
    · rfl
    · rfl
    · split <;> rfl
  · rfl

/-- R46, R47: behind the fill, parcels, numbers and cells stay. -/
theorem State.afterDeparture_keeps (presence : Bool) (stamp : Nat) (s : State) :
    (s.afterDeparture presence stamp).parcel.parcels = ((s.advance 1 stamp).fill 1 presence stamp).parcel.parcels ∧
    (s.afterDeparture presence stamp).parcel.lastSeq = ((s.advance 1 stamp).fill 1 presence stamp).parcel.lastSeq ∧
    (s.afterDeparture presence stamp).track.cells = ((s.advance 1 stamp).fill 1 presence stamp).track.cells := by
  obtain ⟨hparcel, hcells, -⟩ := ((s.advance 1 stamp).fill 1 presence stamp).applyStaged_one stamp
  obtain ⟨htrack, hparcels, hseq⟩ := ((s.advance 1 stamp).fill 1 presence stamp).applyDeclaration_keeps stamp
  rw [State.afterDeparture, State.indexNotice_frame]
  exact ⟨(congrArg ParcelUnit.parcels hparcel).trans hparcels, (congrArg ParcelUnit.lastSeq hparcel).trans hseq,
    hcells.trans (congrArg TrackUnit.cells htrack)⟩

/-- R59: without a staged declaration the lots stand as the fill left them. -/
theorem State.afterDeparture_undeclared (presence : Bool) (stamp : Nat) (s : State)
    (h : ((s.advance 1 stamp).fill 1 presence stamp).parcel.staged = none) :
    (s.afterDeparture presence stamp).parcel = ((s.advance 1 stamp).fill 1 presence stamp).parcel := by
  obtain ⟨hparcel, -, -⟩ := ((s.advance 1 stamp).fill 1 presence stamp).applyStaged_one stamp
  rw [State.afterDeparture, State.indexNotice_frame]
  exact hparcel.trans (congrArg State.parcel (State.applyDeclaration_none h stamp))

/-! ### An index that creates a parcel, and one that does not (R45, R61) -/

/-- R61: the conditions of a creation behind the departure. -/
theorem State.advance_creation (s : State) (presence : Bool) (stamp slot : Nat) (l : Lot) (k : Nat) :
    (s.advance 1 stamp).creation presence = some (slot, l, k) ↔ ((s.line.state = .running ∨ s.line.state = .proving) ∧
      s.infeedHold = false) ∧ presence = true ∧ s.parcel.current = some slot ∧ s.parcel.lots.get? slot = some l ∧
      s.parcel.parcels.freeKey 0 1024 = some k ∧
      (s.line.state = .proving → ∃ run, s.comm.record.run = some run ∧ l.created.toNat < run.count) := by
  have hfree : (s.advance 1 stamp).parcel.parcels.freeKey 0 1024 = s.parcel.parcels.freeKey 0 1024 := Table.freeKey_mapVals ..
  have hhold : (s.advance 1 stamp).infeedHold = s.infeedHold := State.infeedHold_congr rfl
  rw [State.creation_eq_some, State.infeedRun_iff, State.mayCreate_iff, hfree, hhold]
  rfl

/-- R35: the advance moves a head pointer and leaves the plan. -/
theorem State.advance_plan (s : State) (stamp : Nat) : (s.advance 1 stamp).track.plan = s.track.plan :=
  plan_modify s.track 1 fun _ => rfl

/-- R45, R61, R62: what a creation leaves of parcels, numbers, cells and lots. -/
theorem State.afterDeparture_created {s : State} {presence : Bool} {stamp slot : Nat} {l : Lot} {k : Nat}
    (h : (s.advance 1 stamp).creation presence = some (slot, l, k)) {t : Track} (ht : s.track.tracks.get? 1 = some t)
    (hlt : t.head < t.segments) {q : Seq} (hq : q = freeSeq s.parcel.parcels 1024 (s.parcel.lastSeq + 1)) :
    (s.afterDeparture presence stamp).parcel.lastSeq = q ∧
    (s.afterDeparture presence stamp).parcel.parcels.get? k =
      some ((s.advance 1 stamp).placed stamp (Parcel.new q slot l stamp)) ∧
    (s.afterDeparture presence stamp).track.cells.get? (s.track.cellOf 1 t (t.segments - 1)) = some k ∧
    (s.parcel.staged = none → (s.afterDeparture presence stamp).parcel.lots.get? slot = some (Lot.create q l)) := by
  have hseq : q = freeSeq (s.advance 1 stamp).parcel.parcels 1024 ((s.advance 1 stamp).parcel.lastSeq + 1) := by
    rw [hq]
    exact (freeSeq_mapVals (fun _ p => s.advanceParcel_seq 1 stamp p) ..).symm
  have htrack : (s.advance 1 stamp).track.tracks.get? 1 = some { t with head := (t.head + 1) % t.segments } := by
    show (s.track.tracks.modify 1 _).get? 1 = _
    rw [Table.get?_modify_self, ht]
    rfl
  have hfill := State.fill_created h htrack stamp hseq
  obtain ⟨hparcels, hlast, hcells⟩ := s.afterDeparture_keeps presence stamp
  have hcell : (s.advance 1 stamp).track.cellOf 1 { t with head := (t.head + 1) % t.segments } 0 =
      s.track.cellOf 1 t (t.segments - 1) :=
    (TrackUnit.cellOf_of_plan (s.advance_plan stamp) ..).trans (TrackUnit.cellOf_advanced s.track 1 rfl rfl hlt)
  obtain ⟨-, -, -, hlot, -⟩ := (s.advance_creation presence stamp slot l k).mp h
  refine ⟨by rw [hlast, hfill], ?_, ?_, fun hstaged => ?_⟩
  · rw [hparcels, hfill, Table.get?_modify_self, Table.get?_put_self]
    rfl
  · rw [hcells, hfill, hcell, Table.get?_put_self]
  · rw [State.afterDeparture_undeclared _ _ _ (by rw [hfill]; exact hstaged), hfill, Table.get?_modify_self]
    exact congrArg (Option.map (Lot.create q)) hlot

/-- R61: without a creation nothing is recorded. -/
theorem State.afterDeparture_nothing {s : State} {presence : Bool} {stamp : Nat}
    (h : (s.advance 1 stamp).creation presence = none) :
    (s.afterDeparture presence stamp).parcel.lastSeq = s.parcel.lastSeq ∧
    (s.afterDeparture presence stamp).track.cells = s.track.cells ∧
    (s.afterDeparture presence stamp).parcel.parcels = s.parcel.parcels.mapVals (fun _ p => s.advanceParcel 1 stamp p) ∧
    (s.parcel.staged = none → (s.afterDeparture presence stamp).parcel.lots = s.parcel.lots) := by
  have hfill := State.fill_nothing h stamp
  obtain ⟨hparcels, hlast, hcells⟩ := s.afterDeparture_keeps presence stamp
  rw [hfill] at hparcels hlast hcells
  refine ⟨hlast, hcells, hparcels, fun hstaged => ?_⟩
  rw [State.afterDeparture_undeclared _ _ _ (by rw [hfill]; exact hstaged), hfill]
  rfl

end Sys2Proof.Machine
end

section
/-! ## What an index of track 1 creates and declares (R45, R59, R61) -/

namespace Sys2Proof.Machine

/-! ### The state a completing pulse hands on -/

section SegmentDone
variable (s : State) (tr : Track)

theorem State.segmentDone_lineTime : (s.segmentDone tr).time.lineTime = s.time.lineTime := by
  unfold State.segmentDone
  dsimp only
  split <;> rfl

theorem State.segmentDone_baseMs : (s.segmentDone tr).time.baseMs = s.time.baseMs := by
  unfold State.segmentDone
  dsimp only
  split <;> rfl

theorem State.segmentDone_plan : (s.segmentDone tr).track.plan = s.track.plan := plan_modify s.track 1 fun _ => rfl

theorem State.segmentDone_get? (h : s.track.tracks.get? 1 = some tr) :
    (s.segmentDone tr).track.tracks.get? 1 = some { tr with counter := 0 } := by
  show (s.track.tracks.modify 1 _).get? 1 = _
  rw [Table.get?_modify_self, h]
  rfl

/-- R38: the last cell does not move with the counter. -/
theorem State.segmentDone_cell : (s.segmentDone tr).track.cellOf 1 { tr with counter := 0 } (tr.segments - 1) =
    s.track.cellOf 1 tr (tr.segments - 1) := TrackUnit.cellOf_of_plan (s.segmentDone_plan tr) ..

end SegmentDone

/-- R44, R45, R106: a parcel that stands at position 0 has entered the zone there. -/
theorem State.placed_entered {s a : State} (hplan : a.track.plan = s.track.plan) (hprobe : a.probe = s.probe)
    (hms : a.time.baseMs = s.time.baseMs) {p : Parcel} (hloc : p.loc = .track 1 0) :
    (s.track.zoneAt 1 0 = none → a.placed s.time.lineTime p = p) ∧
    ∀ z, s.track.zoneAt 1 0 = some z → EnteredZone s z p (a.placed s.time.lineTime p) := by
  have hp : ({ p with loc := .track 1 0 } : Parcel) = p := by rw [← hloc]
  have hzone : a.track.zoneAt 1 0 = s.track.zoneAt 1 0 := TrackUnit.zoneAt_of_plan hplan 1 0
  unfold State.placed
  rw [hp, hzone, State.entering_congr hprobe hms]
  refine ⟨fun hz => by rw [hz], fun z hz => ?_⟩
  rw [hz]
  exact s.entering_entered z p

/-- R61: what a zone entry leaves of a new parcel. -/
theorem EnteredZone.keeps {s : State} {z : ZoneInfo} {p p' : Parcel} (h : EnteredZone s z p p') :
    p'.seq = p.seq ∧ p'.slot = p.slot ∧ p'.recipe = p.recipe ∧ p'.cls = p.cls ∧ p'.loc = p.loc ∧ p'.created = p.created ∧
      p'.credit = p.credit ∧ p'.armed = false ∧ p'.deviation.manual = p.deviation.manual ∧ p'.proving = p.proving := by
  obtain ⟨he, hm, -⟩ := h
  rw [hm]
  rw [he]
  exact ⟨rfl, rfl, rfl, rfl, rfl, rfl, rfl, rfl, rfl, rfl⟩

/-- R61: a new parcel at position 0, in its zone or in none. -/
theorem placed_new_keeps {s : State} {q : Seq} {slot : Nat} {l : Lot} {stamp : Nat} {p : Parcel}
    (hnone : s.track.zoneAt 1 0 = none → p = Parcel.new q slot l stamp)
    (hzone : ∀ z, s.track.zoneAt 1 0 = some z → EnteredZone s z (Parcel.new q slot l stamp) p) :
    p.seq = q ∧ p.slot = slot ∧ p.recipe = l.recipe ∧ p.cls = l.cls ∧ p.loc = .track 1 0 ∧ p.created = stamp ∧ p.credit = 0 ∧
      p.armed = false ∧ p.deviation.manual = false ∧ p.proving = l.proving := by
  cases hz : s.track.zoneAt 1 0 with
  | none =>
    rw [hnone hz]
    exact ⟨rfl, rfl, rfl, rfl, rfl, rfl, rfl, rfl, rfl, rfl⟩
  | some z => exact (hzone z hz).keeps

theorem Lot.create_eq (q : Seq) (l : Lot) : Lot.create q l = { l with
    created := l.created + 1, live := l.live + 1, lastSeq := some q, firstSeq := some (l.firstSeq.getD q) } := by
  unfold Lot.create
  cases l.firstSeq <;> rfl

/-! ### Any last cell (R43) -/

/-- R61, R168: the count of a run does not move with its entries. -/
theorem OneEntry.count {u v : CommissionUnit} (h : OneEntry u v) (n : Nat) :
    (∃ run, v.record.run = some run ∧ n < run.count) ↔ ∃ run, u.record.run = some run ∧ n < run.count := by
  rcases h with rfl | ⟨r, e, hr, rfl⟩
  · rfl
  · simp [hr]

theorem OneEntry.open {u v : CommissionUnit} (h : OneEntry u v)
    (hopen : ∀ run, u.record = ⟨.running, some run⟩ → run.entries.length + 1 < run.count) :
    ∀ run, v.record = ⟨.running, some run⟩ → run.entries.length < run.count := by
  rcases h with rfl | ⟨r, e, hr, rfl⟩
  · exact fun run hrun => by have := hopen run hrun; omega
  · rintro run ⟨⟩
    have := hopen r hr
    simpa using this

section Behind
variable {s s1 : State} {tr : Track} (hd : Departed ((s.segmentDone tr).vacated 1 { tr with counter := 0 }) s1)
include hd

theorem Departed.states : (s1.line.state = .running ↔ s.line.state = .running) ∧
    (s1.line.state = .proving ↔ s.line.state = .proving) := by
  rcases hd.line with hl | ⟨hdrain, hready⟩
  · rw [hl]
    exact ⟨Iff.rfl, Iff.rfl⟩
  · have hs : s.line.state = .draining := hdrain
    simp [hs, hready]

/-- R61: the conditions of a creation, on the state before the index. -/
theorem Departed.creation_iff (hc : OneEntry s.comm s1.comm) (presence : Bool) (slot : Nat) (l : Lot) (k : Nat) :
    (s1.advance 1 s.time.lineTime).creation presence = some (slot, l, k) ↔
      (s.line.state = .running ∨ s.line.state = .proving) ∧ presence = true ∧ s.infeedHold = false ∧
        s.parcel.current = some slot ∧ s1.parcel.lots.get? slot = some l ∧ s1.parcel.parcels.freeKey 0 1024 = some k ∧
        (s.line.state = .proving → ∃ run, s.comm.record.run = some run ∧ l.created.toNat < run.count) := by
  obtain ⟨hrunning, hproving⟩ := hd.states
  have hcur : s1.parcel.current = s.parcel.current := hd.current
  have hhold : s1.infeedHold = s.infeedHold := State.infeedHold_congr hd.probe
  rw [State.advance_creation, hrunning, hproving, hc.count, hcur, hhold]
  tauto

/-- R33, R38: track 1 behind the departure. -/
theorem Departed.track (hget : s.track.tracks.get? 1 = some tr) : ∃ t, s1.track.tracks.get? 1 = some t ∧
    t.segments = tr.segments ∧ t.head = tr.head ∧
    s1.track.cellOf 1 t (t.segments - 1) = s.track.cellOf 1 tr (tr.segments - 1) := by
  have hplan : s1.track.plan = s.track.plan := hd.plan.trans (s.segmentDone_plan tr)
  obtain ⟨t, ht, hbare⟩ := TrackUnit.track_of_plan hplan hget
  have hsegments : t.segments = tr.segments := by
    show t.bare.segments = tr.bare.segments
    rw [hbare]
  have hhead : t.head = tr.head := by
    have hmap := hd.head 1
    have hdone : ((s.segmentDone tr).vacated 1 { tr with counter := 0 }).track.tracks.get? 1 = some { tr with counter := 0 } :=
      s.segmentDone_get? tr hget
    rw [ht, hdone] at hmap
    exact Option.some.inj hmap
  refine ⟨t, ht, hsegments, hhead, ?_⟩
  rw [TrackUnit.cellOf_of_plan hplan, TrackUnit.cellOf, TrackUnit.cellOf, hsegments, hhead]

/-- R45, R61, R62: what a creation behind the departure leaves. -/
theorem Departed.created (hget : s.track.tracks.get? 1 = some tr) (hlt : tr.head < tr.segments) {presence : Bool} {slot k : Nat}
    {l : Lot} (hsome : (s1.advance 1 s.time.lineTime).creation presence = some (slot, l, k)) :
    ∃ p q, q = freeSeq s1.parcel.parcels 1024 (s1.parcel.lastSeq + 1) ∧
      (s1.afterDeparture presence s.time.lineTime).parcel.lastSeq = q ∧
      (s1.afterDeparture presence s.time.lineTime).parcel.parcels.get? k = some p ∧
      (s1.afterDeparture presence s.time.lineTime).track.cells.get? (s.track.cellOf 1 tr (tr.segments - 1)) = some k ∧
      (s.track.zoneAt 1 0 = none → p = Parcel.new q slot l s.time.lineTime) ∧
      (∀ z, s.track.zoneAt 1 0 = some z → EnteredZone s z (Parcel.new q slot l s.time.lineTime) p) ∧
      (s.parcel.staged = none →
        (s1.afterDeparture presence s.time.lineTime).parcel.lots.get? slot = some { l with
          created := l.created + 1, live := l.live + 1, lastSeq := some q, firstSeq := some (l.firstSeq.getD q) }) := by
  have hms : s1.time.baseMs = s.time.baseMs := hd.baseMs.trans (s.segmentDone_baseMs tr)
  have hplan : s1.track.plan = s.track.plan := hd.plan.trans (s.segmentDone_plan tr)
  have hstaged : s1.parcel.staged = s.parcel.staged := hd.staged
  obtain ⟨t, ht, hsegments, hhead, hlast⟩ := hd.track hget
  obtain ⟨hseq, hp, hfilled, hlots⟩ := State.afterDeparture_created hsome ht (by rw [hsegments, hhead]; exact hlt) rfl
  obtain ⟨hnone, hzone⟩ := State.placed_entered (s := s) (a := s1.advance 1 s.time.lineTime)
    ((s1.advance_plan _).trans hplan) hd.probe hms
    (p := Parcel.new (freeSeq s1.parcel.parcels 1024 (s1.parcel.lastSeq + 1)) slot l s.time.lineTime) rfl
  refine ⟨_, _, rfl, hseq, hp, by rw [← hlast]; exact hfilled, hnone, hzone, fun hst => ?_⟩
  rw [hlots (hstaged.trans hst), Lot.create_eq]

/-- R43, R61: what an index behind the departure leaves without a creation. -/
theorem Departed.nothing (hwf : s.track.cells.wf = true) {presence : Bool}
    (hnone : (s1.advance 1 s.time.lineTime).creation presence = none) :
    (s1.afterDeparture presence s.time.lineTime).parcel.lastSeq = s.parcel.lastSeq ∧
      (s1.afterDeparture presence s.time.lineTime).track.cells.get? (s.track.cellOf 1 tr (tr.segments - 1)) = none ∧
      (∀ k, s.parcel.parcels.get? k = none →
        (s1.afterDeparture presence s.time.lineTime).parcel.parcels.get? k = none) ∧
      (s.parcel.staged = none → (s1.afterDeparture presence s.time.lineTime).parcel.lots = s1.parcel.lots) := by
  have hstaged : s1.parcel.staged = s.parcel.staged := hd.staged
  obtain ⟨hseq, hcells, hparcels, hlots⟩ := State.afterDeparture_nothing hnone
  have hempty : s1.track.cells.get? (s.track.cellOf 1 tr (tr.segments - 1)) = none := by
    rw [hd.cells, ← s.segmentDone_cell tr]
    exact Table.get?_del_self _ hwf
  refine ⟨hseq.trans hd.lastSeq, by rw [hcells, hempty], fun k hk => ?_, fun hst => hlots (hstaged.trans hst)⟩
  rw [hparcels, Table.get?_mapVals, hd.free k hk]
  rfl

end Behind

/-- R43: from an empty last cell the pulse's index goes straight on. -/
theorem State.segmentDone_depart {s : State} {tr : Track}
    (h : s.track.cells.get? (s.track.cellOf 1 tr (tr.segments - 1)) = none) (stamp : Nat) :
    (s.segmentDone tr).depart 1 { tr with counter := 0 } stamp = s.segmentDone tr :=
  State.depart_empty (by rw [State.segmentDone_cell]; exact h) _

theorem creation_none {s : State} {presence : Bool} (h : ∀ slot l k, s.creation presence ≠ some (slot, l, k)) :
    s.creation presence = none := Option.eq_none_iff_forall_ne_some.mpr fun ⟨slot, l, k⟩ => h slot l k

/-- R9, R43, R61: where no parcel is created. -/
theorem creation_excluded {s s1 : State} {presence : Bool} {slot k : Nat} {l : Lot}
    (h : s.line.state = .draining ∨ s.line.state = .halted ∨ s.parcel.current = none ∨
      ∀ k, k < 1024 → s1.parcel.parcels.get? k ≠ none) :
    ¬((s.line.state = .running ∨ s.line.state = .proving) ∧ presence = true ∧ s.infeedHold = false ∧
        s.parcel.current = some slot ∧ s1.parcel.lots.get? slot = some l ∧ s1.parcel.parcels.freeKey 0 1024 = some k ∧
        (s.line.state = .proving → ∃ run, s.comm.record.run = some run ∧ l.created.toNat < run.count)) := by
  rintro ⟨hstate, -, -, hcur, -, hfree, -⟩
  obtain ⟨-, hlt, hnone⟩ := Table.freeKey_spec hfree
  rcases h with h | h | h | h
  · simp [h] at hstate
  · simp [h] at hstate
  · simp [h] at hcur
  · exact h k (by omega) hnone

end Sys2Proof.Machine
end

section
/-! ## The staged declaration at an index of track 1 (R46, R59) -/

namespace Sys2Proof.Machine

/-! ### Looking a lot up -/

theorem Table.first?_mapVals {α β : Type} {f : Nat → α → β} {p : Nat → α → Bool} {p' : Nat → β → Bool}
    (h : ∀ k v, p' k (f k v) = p k v) (t : Table α) :
    (t.mapVals f).first? p' = (t.first? p).map fun e => (e.1, f e.1 e.2) := by
  induction t with
  | nil => rfl
  | cons e t ih =>
    obtain ⟨k, v⟩ := e
    rw [Table.mapVals, Table.first?, Table.first?, h]
    split
    · rfl
    · exact ih

/-- A record found is an entry of the table that satisfies the test. -/
theorem Table.first?_some {α : Type} {p : Nat → α → Bool} {t : Table α} {k : Nat} {v : α} (h : t.first? p = some (k, v)) :
    (k, v) ∈ t ∧ p k v = true := by
  induction t with
  | nil => nomatch h
  | cons e t ih =>
    obtain ⟨k', v'⟩ := e
    rw [Table.first?] at h
    split at h
    · next hp =>
      cases h
      exact ⟨List.mem_cons_self .., hp⟩
    · obtain ⟨hmem, hp⟩ := ih h
      exact ⟨List.mem_cons_of_mem _ hmem, hp⟩

theorem Table.first?_none {α : Type} {p : Nat → α → Bool} {t : Table α} (h : ∀ e ∈ t, p e.1 e.2 = false) : t.first? p = none := by
  induction t with
  | nil => rfl
  | cons e t ih =>
    obtain ⟨k, v⟩ := e
    have hhead : p k v = false := h (k, v) (List.mem_cons_self ..)
    rw [Table.first?, hhead, if_neg (by simp)]
    exact ih fun e he => h e (List.mem_cons_of_mem _ he)

theorem Table.mapVals_id {α : Type} (t : Table α) : (t.mapVals fun _ v => v) = t := by
  induction t with
  | nil => rfl
  | cons e t ih => exact congrArg _ ih

/-! ### A lot made current (R59, R60) -/

theorem State.retireTest_waiting_new {s : State} {r : Retained} {k : Nat} (h : r ∈ (s.retireTest k).link.waiting) :
    r ∈ s.link.waiting ∨ r = .lotSummary k := by
  unfold State.retireTest State.offerSummary State.enterSummary at h
  (repeat' split at h) <;> simp_all [State.await, State.enter]

/-- R59, R60: the lot made current is not tested itself. -/
theorem State.makeCurrent_self (s : State) (slot : Nat) : (s.makeCurrent slot).parcel.current = some slot ∧
    (s.makeCurrent slot).parcel.staged = none ∧ (s.makeCurrent slot).parcel.lots.get? slot = s.parcel.lots.get? slot ∧
    (.lotSummary slot ∈ (s.makeCurrent slot).link.waiting → .lotSummary slot ∈ s.link.waiting) := by
  unfold State.makeCurrent
  dsimp only
  split
  · next old hold =>
    split
    · exact ⟨rfl, rfl, rfl, id⟩
    · next hne =>
      obtain ⟨-, hcur, hst, -⟩ := (s.onParcel fun u => { u with current := some slot, staged := none }).retireTest_parcels old
      refine ⟨hcur, hst, State.retireTest_get?_ne _ (Ne.symm hne), fun hw => ?_⟩
      rcases State.retireTest_waiting_new hw with hw | hw
      · exact hw
      · exact absurd (Retained.lotSummary.inj hw).symm hne
  · exact ⟨rfl, rfl, rfl, id⟩

/-! ### The declaration on the state the fill leaves -/

/-- R61: a creation changes counts and numbers of lots, and nothing a lookup reads. -/
structure LotsKept (s f : State) : Prop where
  staged : f.parcel.staged = s.parcel.staged
  current : f.parcel.current = s.parcel.current
  link : f.link = s.link
  lots : ∃ g : Nat → Lot → Lot, (∀ k l, (g k l).code = l.code ∧ (g k l).proving = l.proving ∧ (g k l).retired = l.retired) ∧
    f.parcel.lots = s.parcel.lots.mapVals g

theorem Lot.create_keeps (q : Seq) (l : Lot) :
    (Lot.create q l).code = l.code ∧ (Lot.create q l).proving = l.proving ∧ (Lot.create q l).retired = l.retired := ⟨rfl, rfl, rfl⟩

theorem LotsKept.place {s f : State} (h : LotsKept s f) (k n stamp : Nat) : LotsKept s (f.place k n stamp) := by
  unfold State.place
  split
  · exact h
  · exact ⟨h.staged, h.current, h.link, h.lots⟩

theorem LotsKept.fill (s : State) (presence : Bool) (stamp : Nat) : LotsKept s ((s.advance 1 stamp).fill 1 presence stamp) := by
  unfold State.fill
  rw [if_pos rfl]
  split
  · next slot l k hcreation =>
    have hcreate : LotsKept s ((s.advance 1 stamp).createParcel slot l k stamp) := by
      refine ⟨rfl, rfl, rfl, fun j x => if j = slot then Lot.create (freeSeq (s.advance 1 stamp).parcel.parcels Config.parcelCount
        ((s.advance 1 stamp).parcel.lastSeq + 1)) x else x, fun j x => ?_, rfl⟩
      dsimp only
      split
      · exact Lot.create_keeps ..
      · exact ⟨rfl, rfl, rfl⟩
    exact hcreate.place k 1 stamp
  · exact ⟨rfl, rfl, rfl, fun _ l => l, fun _ _ => ⟨rfl, rfl, rfl⟩, (Table.mapVals_id _).symm⟩

section Declared
variable {s f : State} {d : Staged} (h : LotsKept s f) (hd : s.parcel.staged = some d) (stamp : Nat)
include h

/-- R59: the fill moves no lookup. -/
theorem LotsKept.lookup_eq (code : List Byte) : ∃ g : Nat → Lot → Lot,
    (∀ k l, (g k l).code = l.code ∧ (g k l).retired = l.retired) ∧ f.parcel.lots = s.parcel.lots.mapVals g ∧
    f.parcel.lookup code =
      (s.parcel.lots.first? fun _ x => decide (x.code = code) && !x.proving).map fun e => (e.1, g e.1 e.2) := by
  obtain ⟨g, hg, hlots⟩ := h.lots
  refine ⟨g, fun k l => ?_, hlots, ?_⟩
  · obtain ⟨hcode, -, hretired⟩ := hg k l
    exact ⟨hcode, hretired⟩
  · rw [ParcelUnit.lookup, hlots]
    refine Table.first?_mapVals (fun k l => ?_) _
    obtain ⟨hcode, hproving, -⟩ := hg k l
    rw [hcode, hproving]

include hd

/-- R59: a code that a lot carries. -/
theorem LotsKept.found {slot : Nat} {l : Lot} (hwf : s.parcel.lots.wf = true)
    (hl : s.parcel.lots.first? (fun _ x => decide (x.code = d.code) && !x.proving) = some (slot, l)) :
    (f.applyDeclaration stamp).parcel.current = some slot ∧ (f.applyDeclaration stamp).parcel.staged = none ∧
      Retained.lotSummary slot ∉ (if l.retired.isSome then (f.applyDeclaration stamp).link.waiting else []) ∧
      ∃ l', (f.applyDeclaration stamp).parcel.lots.get? slot = some l' ∧ l'.code = d.code ∧ l'.retired = none := by
  obtain ⟨g, hg, hlots, hlook⟩ := h.lookup_eq d.code
  obtain ⟨hmem, htest⟩ := Table.first?_some hl
  have hcode : l.code = d.code := by simp_all
  have hget : f.parcel.lots.get? slot = some (g slot l) := by
    rw [hlots, Table.get?_mapVals, Table.get?_of_mem hwf hmem]
    rfl
  rw [hl, Option.map_some] at hlook
  obtain ⟨hgcode, hgretired⟩ := hg slot l
  unfold State.applyDeclaration
  rw [h.staged, hd]
  dsimp only
  rw [hlook]
  dsimp only
  rw [hgretired]
  cases hr : l.retired with
  | none =>
    obtain ⟨hcur, hst, hsame, -⟩ := f.makeCurrent_self slot
    exact ⟨hcur, hst, by simp, _, hsame.trans hget, hgcode.trans hcode, hgretired.trans hr⟩
  | some at' =>
    obtain ⟨hcur, hst, hsame, hwait⟩ := (f.revive slot).makeCurrent_self slot
    have hrevived : (f.revive slot).parcel.lots.get? slot = some { g slot l with retired := none } := by
      show (f.parcel.lots.modify slot _).get? slot = _
      rw [Table.get?_modify_self, hget]
      rfl
    refine ⟨hcur, hst, fun hin => ?_, _, hsame.trans hrevived, hgcode.trans hcode, rfl⟩
    have hin' := hwait hin
    simp [State.revive, State.withdraw] at hin'

/-- R59: what a lookup of an unknown code comes to. -/
theorem LotsKept.unknown (hnone : ∀ e ∈ s.parcel.lots, e.2.code = d.code → e.2.proving = true) :
    (∀ slot, s.parcel.lots.freeKey 0 16 = some slot →
      f.applyDeclaration stamp = (f.newLot slot (Lot.new d.code d.recipe d.cls false)).makeCurrent slot) ∧
    (s.parcel.lots.freeKey 0 16 = none → f.applyDeclaration stamp = f.tableFull d stamp) := by
  obtain ⟨g, -, hlots, hlook⟩ := h.lookup_eq d.code
  have hfirst : s.parcel.lots.first? (fun _ x => decide (x.code = d.code) && !x.proving) = none :=
    Table.first?_none fun e he => by
      cases hp : e.2.proving with
      | true => simp
      | false =>
        have hcode : e.2.code ≠ d.code := fun hc => by simp [hnone e he hc] at hp
        simp [hcode]
  rw [hfirst, Option.map_none] at hlook
  have hfree : f.parcel.lots.freeKey 0 Config.lotCount = s.parcel.lots.freeKey 0 16 := by
    rw [hlots]
    exact Table.freeKey_mapVals ..
  unfold State.applyDeclaration
  simp only [h.staged, hd, hlook, hfree]
  exact ⟨fun slot hk => by rw [hk], fun hk => by rw [hk]⟩

/-- R59: a code no lot carries takes the lowest FREE slot. -/
theorem LotsKept.opened (hnone : ∀ e ∈ s.parcel.lots, e.2.code = d.code → e.2.proving = true) {k : Nat}
    (hk : s.parcel.lots.freeKey 0 16 = some k) :
    (f.applyDeclaration stamp).parcel.current = some k ∧ (f.applyDeclaration stamp).parcel.staged = none ∧
      (f.applyDeclaration stamp).parcel.lots.get? k = some (Lot.new d.code d.recipe d.cls false) := by
  obtain ⟨hopened, -⟩ := h.unknown hd stamp hnone
  rw [hopened k hk]
  obtain ⟨hcur, hst, hsame, -⟩ := (f.newLot k (Lot.new d.code d.recipe d.cls false)).makeCurrent_self k
  exact ⟨hcur, hst, hsame.trans (Table.get?_put_self ..)⟩

/-- R59: with no FREE slot the declaration stays staged, and LOT TABLE FULL is queued once. -/
theorem LotsKept.full (hnone : ∀ e ∈ s.parcel.lots, e.2.code = d.code → e.2.proving = true)
    (hk : s.parcel.lots.freeKey 0 16 = none) :
    (f.applyDeclaration stamp).parcel.current = s.parcel.current ∧
      (f.applyDeclaration stamp).parcel.staged = some { d with tableFull := true } ∧
      (d.tableFull = false → Room s 1 → Queued (f.applyDeclaration stamp) (.lotTableFull d.code stamp)) := by
  obtain ⟨-, hfull⟩ := h.unknown hd stamp hnone
  rw [hfull hk]
  unfold State.tableFull
  cases hflag : d.tableFull with
  | true =>
    refine ⟨h.current, ?_, nofun⟩
    rw [if_pos rfl, h.staged, hd, ← hflag]
  | false =>
    refine ⟨h.current, rfl, fun _ hroom => ?_⟩
    exact State.notify_queued (s := f.onParcel _) _ ((room_congr h.link).mpr hroom)

end Declared

/-! ### The index -/

theorem State.indexNotice_waiting (s : State) (n : Nat) (moved : Bool) (stamp : Nat) :
    (s.indexNotice n moved stamp).link.waiting = s.link.waiting := by
  unfold State.indexNotice
  split
  · split
    · rfl
    · exact State.notify_waiting ..
    · split
      · exact State.notify_waiting ..
      · rfl
  · rfl

theorem Queued.indexNotice {s : State} {b : NoticeBody} (h : Queued s b) (n : Nat) (moved : Bool) (stamp : Nat) :
    Queued (s.indexNotice n moved stamp) b := by
  unfold State.indexNotice
  split
  · split
    · exact h
    · exact h.notify _
    · split
      · exact h.notify _
      · exact h
  · exact h

/-- R46, R59: the declaration decides what an index leaves of declarations, lots and waiting list. -/
theorem State.afterDeparture_declared (presence : Bool) (stamp : Nat) (s : State) :
    (s.afterDeparture presence stamp).parcel =
      (((s.advance 1 stamp).fill 1 presence stamp).applyDeclaration stamp).parcel ∧
    (s.afterDeparture presence stamp).link.waiting =
      (((s.advance 1 stamp).fill 1 presence stamp).applyDeclaration stamp).link.waiting ∧
    ∀ b, Queued (((s.advance 1 stamp).fill 1 presence stamp).applyDeclaration stamp) b →
      Queued (s.afterDeparture presence stamp) b := by
  obtain ⟨hparcel, -, hlink⟩ := ((s.advance 1 stamp).fill 1 presence stamp).applyStaged_one stamp
  refine ⟨?_, ?_, fun b hb => ?_⟩
  · rw [State.afterDeparture, State.indexNotice_frame]
    exact hparcel
  · rw [State.afterDeparture, State.indexNotice_waiting, hlink]
  · exact Queued.indexNotice ((queued_congr (congrArg LinkUnit.notices hlink)).mpr hb) ..

/-- Settles O28: the pulse is one index of track 1; behind the departure the fill creates a parcel exactly where R61's
conditions hold, and the staged declaration is looked up on the lots the fill leaves. -/
theorem indexOfTrackOneCreates : Obligations.IndexOfTrackOneCreates := by
  refine ⟨fun s input presence tr slot l k hw hp h1 h4 hin hget hlt hstate hpulses hcell hstaged hcur hl hk hopen may hmay => ?_,
    fun s s1 input presence tr cell hi hlt hcw hpw hcell hs1 hopen may hmay => ?_,
    fun s input presence tr d hw hp h1 h4 hin hget hstate hpulses hcell hd hwf hopen => ?_⟩
  · have hruns : s.line.state.runs = true := by rcases hstate with h | h <;> rw [h] <;> rfl
    have hexec := exec_encoderPulse ⟨hw, hp, h1, h4, hin, hget, Or.inl hruns, hpulses⟩ presence
    have hd := Departed.depart 1 { tr with counter := 0 } s.time.lineTime (s.segmentDone tr)
    have hcreation := (s.segmentDone tr).advance_creation presence s.time.lineTime
    rw [State.segmentDone_depart hcell] at hd
    rw [State.index_open (State.segmentDone_depart hcell _).symm hopen] at hexec
    refine ⟨_, hexec, fun hm => ?_, fun hm => ?_⟩ <;> rw [State.finish_parcel, State.finish_track]
    · rw [hmay] at hm
      obtain ⟨hpres, hhold, hrun⟩ := hm
      have hsome := (hcreation slot l k).mpr ⟨⟨hstate, hhold⟩, hpres, hcur, hl, hk, hrun⟩
      obtain ⟨p, q, hq, hseq, hparcel, hfilled, hnone, hzone, hlot⟩ := hd.created hget hlt hsome
      obtain ⟨e1, e2, e3, e4, e5, e6, e7, e8, e9, e10⟩ := placed_new_keeps hnone hzone
      exact ⟨p, q, hq, hseq, hparcel, e1, e2, e3, e4, e5, e6, e7, e8, e9, e10, hzone, hlot hstaged, hfilled⟩
    · have hnone := creation_none fun slot' l' k' hsome => hm <| by
        obtain ⟨⟨-, hhold⟩, hpres, hcur', hl', -, hrun⟩ := (hcreation slot' l' k').mp hsome
        obtain rfl : slot = slot' := Option.some.inj (hcur.symm.trans hcur')
        obtain rfl : l = l' := Option.some.inj (hl.symm.trans hl')
        rw [hmay]
        exact ⟨hpres, hhold, hrun⟩
      obtain ⟨hseq, hcells, hparcels, hlots⟩ := State.afterDeparture_nothing hnone
      exact ⟨hlots hstaged, hseq, by rw [hparcels]; exact Table.length_mapVals .., hcells⟩
  · have hexec := exec_encoderPulse hi presence
    obtain ⟨-, -, -, -, -, hget, -⟩ := hi
    have hs1 : s1 = (s.segmentDone tr).depart 1 { tr with counter := 0 } s.time.lineTime := hs1
    have hd := Departed.depart 1 { tr with counter := 0 } s.time.lineTime (s.segmentDone tr)
    have hc : OneEntry s.comm s1.comm := by rw [hs1]; exact (s.segmentDone tr).depart_comm ..
    rw [← hs1] at hd
    rw [State.index_open hs1 (hc.open hopen)] at hexec
    have hcreation := hd.creation_iff hc presence
    subst hcell
    refine ⟨_, hexec, fun slot l k hm => ?_, fun hm => ?_, fun h slot l k hm => creation_excluded h ((hmay slot l k).mp hm)⟩ <;>
      rw [State.finish_parcel, State.finish_track]
    · exact hd.created hget hlt ((hcreation slot l k).mpr ((hmay slot l k).mp hm))
    · exact hd.nothing hcw (creation_none fun slot l k hsome => hm slot l k ((hmay slot l k).mpr ((hcreation slot l k).mp hsome)))
  · have hexec := exec_encoderPulse ⟨hw, hp, h1, h4, hin, hget, hstate, hpulses⟩ presence
    rw [State.index_open (State.segmentDone_depart hcell _).symm hopen] at hexec
    have hkept := LotsKept.fill (s.segmentDone tr) presence s.time.lineTime
    obtain ⟨hparcel, hwaiting, hqueued⟩ := (s.segmentDone tr).afterDeparture_declared presence s.time.lineTime
    refine ⟨_, hexec, fun slot l hl => ?_, fun hnone => ⟨fun k hk => ?_, fun hk => ?_⟩⟩
    · rw [State.finish_parcel, State.finish_waiting, hparcel, hwaiting]
      exact hkept.found hd _ hwf hl
    · rw [State.finish_parcel, hparcel]
      exact hkept.opened hd _ hnone hk
    · obtain ⟨hcur, hst, hfull⟩ := hkept.full hd s.time.lineTime hnone hk
      rw [State.finish_parcel, hparcel, queued_finish]
      exact ⟨hcur, hst, fun hf hroom => hqueued _ (hfull hf hroom)⟩

end Sys2Proof.Machine
end

section
/-! ## Ranges and places kept (R17, R18, R22, R24, R182, R185)

Time base and link are touched by few operations: a timer is armed or cancelled, a notice is queued where there is a free entry.
`RangesKept` follows both through the parts of a step; this file has the operations of the time base and the link, the shared
operations, and the halts and trip events. -/

namespace Sys2Proof.Machine

-- One declaration after the other, so that the text needs one thread for them and not one each.
set_option Elab.async false

/-! ### The invariants of the two units -/

/-- A write into a table adds the entry written and no other. -/
theorem Table.mem_put {α : Type} {t : Table α} {k : Nat} {v : α} {e : Nat × α} (h : e ∈ t.put k v) : e = (k, v) ∨ e ∈ t := by
  induction t with
  | nil => simpa [Table.put] using h
  | cons a t ih =>
    obtain ⟨k', v'⟩ := a
    unfold Table.put at h
    split at h
    · simpa using h
    · split at h
      · exact (List.mem_cons.mp h).imp_right (List.mem_cons_of_mem _)
      · rcases List.mem_cons.mp h with h | h
        · exact Or.inr (h ▸ List.mem_cons_self ..)
        · exact (ih h).imp_right (List.mem_cons_of_mem _)

/-- R24: every due lies in the range of line time. -/
def DuesInRange (ts : Table Nat) : Prop := ∀ e ∈ ts, e.2 ≤ Config.lineTimeMax

theorem DuesInRange.nil : DuesInRange [] := fun _ h => nomatch h

theorem DuesInRange.put {ts : Table Nat} (h : DuesInRange ts) (k due : Nat) :
    DuesInRange (ts.put k (min due Config.lineTimeMax)) := by
  intro e he
  rcases Table.mem_put he with rfl | he
  · exact Nat.min_le_right ..
  · exact h e he

theorem DuesInRange.sublist {ts us : Table Nat} (h : DuesInRange ts) (hs : List.Sublist us ts) : DuesInRange us :=
  fun e he => h e (hs.subset he)

/-- R17, R18, R22, R24: what `TimeInRange` says of the time base. -/
def TimeUnit.InRange (u : TimeUnit) : Prop :=
  u.lineTime ≤ Config.lineTimeMax ∧ u.accumulator < Config.trimModulus ∧ -500 ≤ u.trim ∧ u.trim ≤ 500 ∧ DuesInRange u.timers

/-- R182, R185: what `LinkInBounds` says of the link. -/
def LinkUnit.InBounds (u : LinkUnit) : Prop :=
  u.receive.length ≤ Config.receiveDepth ∧ u.busy.length ≤ Config.busyDepth ∧ u.notices.length ≤ Config.noticeDepth

theorem timeInRange_iff (s : State) : TimeInRange s ↔ s.time.InRange := by
  simp [TimeInRange, TimeUnit.InRange, DuesInRange]

theorem linkInBounds_iff (s : State) : LinkInBounds s ↔ s.link.InBounds := Iff.rfl

theorem TimeUnit.InRange.withTimers {u : TimeUnit} (h : u.InRange) {ts : Table Nat} (ht : DuesInRange u.timers → DuesInRange ts) :
    ({ u with timers := ts } : TimeUnit).InRange := by
  obtain ⟨hline, hacc, hlow, hhigh, hdues⟩ := h
  exact ⟨hline, hacc, hlow, hhigh, ht hdues⟩

theorem LinkUnit.InBounds.withNotices {u : LinkUnit} (h : u.InBounds) {ns : List Notice} (hn : ns.length ≤ Config.noticeDepth) :
    ({ u with notices := ns } : LinkUnit).InBounds := by
  obtain ⟨hreceive, hbusy, -⟩ := h
  exact ⟨hreceive, hbusy, hn⟩

/-- The ranges of the time base and the bounds of the link, each on its own, carry over from `s₀` to `s`. -/
def RangesKept (s₀ s : State) : Prop :=
  (s₀.time.InRange → s.time.InRange) ∧ (s₀.link.InBounds → s.link.InBounds)

theorem RangesKept.refl (s : State) : RangesKept s s := ⟨id, id⟩

/-- States whose time base is in range and whose link is in bounds, whatever went before. -/
theorem RangesKept.of_inRange {s₀ s : State} (ht : s.time.InRange) (hl : s.link.InBounds) : RangesKept s₀ s :=
  ⟨fun _ => ht, fun _ => hl⟩

section Shared
variable {s₀ s : State} (h : RangesKept s₀ s)
include h

/-- Nothing but time base and link is read; most updates leave both by definition. -/
theorem RangesKept.of_eq {t : State} (ht : t.time = s.time := by rfl) (hl : t.link = s.link := by rfl) : RangesKept s₀ t := by
  unfold RangesKept
  rw [ht, hl]
  exact h

theorem RangesKept.onTime (f : TimeUnit → TimeUnit) (hf : s.time.InRange → (f s.time).InRange) : RangesKept s₀ (s.onTime f) :=
  ⟨fun h₀ => hf (h.1 h₀), h.2⟩

theorem RangesKept.onLink (f : LinkUnit → LinkUnit) (hf : s.link.InBounds → (f s.link).InBounds) : RangesKept s₀ (s.onLink f) :=
  ⟨h.1, fun h₀ => hf (h.2 h₀)⟩

/-! ### Timers (R24, R26) -/

theorem RangesKept.arm (id : TimerId) (due : Nat) : RangesKept s₀ (s.arm id due) :=
  h.onTime _ fun ht => ht.withTimers fun hd => hd.put _ _

theorem RangesKept.armFor (id : TimerId) (ms : Nat) : RangesKept s₀ (s.armFor id ms) := h.arm ..

theorem RangesKept.cancel (id : TimerId) : RangesKept s₀ (s.cancel id) :=
  h.onTime _ fun ht => ht.withTimers fun hd => hd.sublist (Table.del_sublist ..)

theorem RangesKept.cancelStalls : RangesKept s₀ s.cancelStalls := (((h.cancel _).cancel _).cancel _).cancel _

theorem RangesKept.armStalls : RangesKept s₀ s.armStalls := by
  refine State.each_induct (RangesKept s₀) _ _ _ h fun e _ t ht => ?_
  split
  · exact ht
  · exact ht.armFor ..

/-! ### The notice queue (R185) -/

theorem RangesKept.notify (b : NoticeBody) : RangesKept s₀ (s.notify b) := by
  refine ⟨h.1, fun h₀ => ?_⟩
  rw [State.notify_link]
  obtain ⟨hreceive, hbusy, hnotices⟩ := h.2 h₀
  exact ⟨hreceive, hbusy, State.notify_bound s b hnotices⟩

/-- A retained notice enters where the queue has a free entry. -/
theorem RangesKept.enter (hr : s₀.link.InBounds → s.link.hasRoom = true) (b : NoticeBody) : RangesKept s₀ (s.enter b) := by
  refine ⟨h.1, fun h₀ => (h.2 h₀).withNotices ?_⟩
  have hroom : s.link.notices.length < Config.noticeDepth := of_decide_eq_true (hr h₀)
  simpa using hroom

theorem RangesKept.await (r : Retained) : RangesKept s₀ (s.await r) := h

theorem RangesKept.answer (f : Frame) (b : ReplyBody) : RangesKept s₀ (s.answer f b) := by
  refine h.onLink _ fun hb => ?_
  obtain ⟨hreceive, hbusy, hnotices⟩ := hb
  exact ⟨by rwa [answerOldest_length], hbusy, hnotices⟩

/-! ### Lots (R59, R60, R73) -/

theorem RangesKept.enterSummary (hr : s₀.link.InBounds → s.link.hasRoom = true) (slot : Nat) :
    RangesKept s₀ (s.enterSummary slot) := by
  unfold State.enterSummary
  split
  · exact h.enter hr _
  · exact h

theorem RangesKept.offerSummary (slot : Nat) : RangesKept s₀ (s.offerSummary slot) := by
  unfold State.offerSummary
  split
  · next hr => exact h.enterSummary (fun _ => hr) slot
  · exact h.await _

theorem RangesKept.retireTest (slot : Nat) : RangesKept s₀ (s.retireTest slot) := by
  unfold State.retireTest
  split
  · split
    · exact RangesKept.offerSummary h.of_eq slot
    · exact h
  · exact h

theorem RangesKept.makeCurrent (slot : Nat) : RangesKept s₀ (s.makeCurrent slot) := by
  have hcur : RangesKept s₀ (s.onParcel fun u => { u with current := some slot, staged := none }) := h
  unfold State.makeCurrent
  split
  · split
    · exact hcur
    · exact hcur.retireTest _
  · exact hcur

theorem RangesKept.dropCurrent : RangesKept s₀ s.dropCurrent := by
  have hcur : RangesKept s₀ (s.onParcel fun u => { u with current := none }) := h
  unfold State.dropCurrent
  split
  · exact hcur.retireTest _
  · exact hcur

/-! ### The line state -/

theorem RangesKept.setLine (state : LineState) (origin : Option LineState) (cause : Option HaltCause) (why : LineCause)
    (detail : CauseDetail) : RangesKept s₀ (s.setLine state origin cause why detail) :=
  RangesKept.notify h.of_eq _

theorem RangesKept.releaseSync : RangesKept s₀ s.releaseSync := RangesKept.armStalls h.of_eq

theorem RangesKept.endProving : RangesKept s₀ s.endProving := by
  unfold State.endProving
  split
  · exact RangesKept.dropCurrent h.of_eq
  · exact h

theorem RangesKept.abortProving : RangesKept s₀ s.abortProving := by
  unfold State.abortProving
  split
  · exact h.endProving.notify _
  · exact h

theorem RangesKept.enterHalted (cause : HaltCause) : RangesKept s₀ (s.enterHalted cause) := by
  have hdrain : RangesKept s₀ (if s.line.state = .draining then s.cancelStalls.cancel .drain else s.cancelStalls) := by
    split
    · exact h.cancelStalls.cancel _
    · exact h.cancelStalls
  unfold State.enterHalted
  dsimp only
  split
  · exact (hdrain.setLine ..).abortProving
  · exact hdrain.setLine ..

theorem RangesKept.raiseHalt (cause : HaltCause) : RangesKept s₀ (s.raiseHalt cause) := by
  unfold State.raiseHalt
  split
  · exact h.enterHalted _
  · exact h

theorem RangesKept.emptyTest : RangesKept s₀ s.emptyTest := by
  have hdrained : RangesKept s₀ ((s.cancel .drain).cancelStalls.holdCounters).clearBacked :=
    (h.cancel .drain).cancelStalls.of_eq
  unfold State.emptyTest
  split
  · exact hdrained.setLine ..
  · exact h

/-! ### Trip events -/

theorem RangesKept.markZone (x : TripSource) : RangesKept s₀ (s.markZone x) := h.of_eq (by simp) (by simp)

theorem RangesKept.fire (x : TripSource) (cause : TripCause) (pallet time : Nat) : RangesKept s₀ (s.fire x cause pallet time) := by
  have hlatch : RangesKept s₀ (s.setLatch x true) := h
  have hnote : RangesKept s₀ (if (s.route x).notify then
      (s.setLatch x true).notify (.trip x cause (s.tripChannel x) pallet (s.route x) time) else s.setLatch x true) := by
    split
    · exact hlatch.notify _
    · exact hlatch
  have hmark : ∀ u, RangesKept s₀ u → RangesKept s₀ (if (s.route x).markZone then u.markZone x else u) := fun u hu => by
    split
    · exact hu.markZone x
    · exact hu
  unfold State.fire
  dsimp only
  split
  · exact (hmark _ hnote).raiseHalt _
  · exact hmark _ hnote

theorem RangesKept.reform (c : Nat) (cause : TripCause) (time : Nat) : RangesKept s₀ (s.reform c cause time) := by
  unfold State.reform
  split
  · refine State.each_induct (RangesKept s₀) _ _ _ h fun l _ t ht => ?_
    split
    · exact ht.fire ..
    · exact ht
  · exact h

theorem RangesKept.reformBound (time : Nat) (b : Option (Nat × LevelName)) : RangesKept s₀ (s.reformBound time b) := by
  unfold State.reformBound
  split
  · exact h.reform ..
  · exact h

/-! ### The end of a command -/

/-- R184: a reply chosen leaves its place; the notices stay. -/
theorem RangesKept.choose : RangesKept s₀ (s.onLink LinkUnit.choose) := by
  refine h.onLink _ fun hb => ?_
  obtain ⟨hreceive, hbusy, hnotices⟩ := hb
  rw [LinkUnit.InBounds, LinkUnit.choose_notices]
  unfold LinkUnit.choose
  split
  · split
    · next heq =>
      rw [heq] at hreceive
      exact ⟨Nat.le_of_succ_le hreceive, hbusy, hnotices⟩
    · split
      · next heq =>
        rw [heq] at hbusy
        exact ⟨hreceive, Nat.le_of_succ_le hbusy, hnotices⟩
      · split <;> exact ⟨hreceive, hbusy, hnotices⟩
  · exact ⟨hreceive, hbusy, hnotices⟩

theorem RangesKept.finish : RangesKept s₀ s.finish := by
  unfold State.finish
  dsimp only
  split
  · exact h
  · exact h.choose

/-! ### Edges and expiries -/

theorem RangesKept.deliver {i : FieldInput} {owner : Edge → State → State}
    (ho : ∀ e t, RangesKept s₀ t → RangesKept s₀ (owner e t)) : RangesKept s₀ (s.deliver i owner) := by
  unfold State.deliver
  split
  · exact ho _ _ (h.onTime _ id)
  · exact h

theorem RangesKept.expire {id : TimerId} {owner : State → State} (ho : ∀ t, RangesKept s₀ t → RangesKept s₀ (owner t)) :
    RangesKept s₀ (s.expire id owner) := by
  have htaken : RangesKept s₀ (s.onTime fun u => { u with expired := u.expired.erase id }) := h
  unfold State.expire
  split
  · dsimp only
    split
    · exact htaken
    · exact ho _ htaken
  · exact h

end Shared

end Sys2Proof.Machine
end

section
/-! ## Ranges and places kept: the units

The operations of the distribution unit, the transfer unit, the index and the probe unit: what they do to time base and link is a
timer armed or cancelled, or a notice offered. -/

namespace Sys2Proof.Machine

-- One declaration after the other, so that the text needs one thread for them and not one each.
set_option Elab.async false

/-! ### Lanes, gates and bags -/

section Lanes
variable {s₀ s : State} (h : RangesKept s₀ s)
include h

theorem RangesKept.sealLane (n stamp : Nat) : RangesKept s₀ (s.sealLane n stamp) := by
  unfold State.sealLane
  split
  · exact h.notify _
  · exact h

theorem RangesKept.closeGate (pending : Option Nat) : RangesKept s₀ (s.closeGate pending) :=
  RangesKept.armFor h.of_eq ..

theorem RangesKept.requestGate (b : Nat) : RangesKept s₀ (s.requestGate b) := by
  unfold State.requestGate
  split
  · split
    · exact h
    · exact h.closeGate _
  · split <;> exact h

theorem RangesKept.requestLaneZero : RangesKept s₀ s.requestLaneZero := by
  unfold State.requestLaneZero
  split
  · exact h.closeGate none
  · exact h

theorem RangesKept.unblock : RangesKept s₀ s.unblock := by
  unfold State.unblock
  split <;> exact h

theorem RangesKept.freeBag (k : Nat) : RangesKept s₀ (s.freeBag k) := by
  unfold State.freeBag
  split
  · next b _ =>
    have hfreed : RangesKept s₀ ((s.onDist fun u => { u with bags := u.bags.del k }).onLot b.slot Lot.dropBag) := h
    exact (hfreed.retireTest _).unblock
  · exact h

/-! ### The lane choice -/

theorem RangesKept.toLaneZero (c : LaneZeroCause) : RangesKept s₀ (s.toLaneZero c).1 :=
  RangesKept.requestLaneZero h.of_eq

theorem RangesKept.joinBag (k n : Nat) (p : Parcel) : RangesKept s₀ (s.joinBag k n p) := by
  unfold State.joinBag
  dsimp only
  (repeat' split) <;> exact h

theorem RangesKept.divert (n stamp : Nat) (p : Parcel) : RangesKept s₀ (s.divert n stamp p).1 := by
  unfold State.divert
  split
  · exact h.joinBag ..
  · split <;> exact h

theorem RangesKept.passGate (n : Nat) (p : Parcel) (stamp : Nat) : RangesKept s₀ (s.passGate n p stamp).1 := by
  unfold State.passGate
  dsimp only
  split
  · exact (h.requestGate n).divert n stamp p
  · exact h.requestGate n

theorem RangesKept.useLane (n : Nat) (p : Parcel) (stamp : Nat) : RangesKept s₀ (s.useLane n p stamp).1 := by
  unfold State.useLane
  dsimp only
  split
  · exact RangesKept.toLaneZero h.of_eq _
  · exact h.passGate ..

theorem RangesKept.chooseLane (e : ClassEntry) (p : Parcel) (stamp : Nat) : RangesKept s₀ (s.chooseLane e p stamp).1 := by
  have hbreak : RangesKept s₀ (s.lotBreak e.lanes p.slot) := h
  unfold State.chooseLane
  dsimp only
  split
  · exact RangesKept.useLane hbreak.of_eq ..
  · exact hbreak.toLaneZero _

theorem RangesKept.distribute (p : Parcel) (v : VerdictRecord) : RangesKept s₀ (s.distribute p v).1 := by
  unfold State.distribute
  split
  · exact h.toLaneZero _
  · split
    · exact h.toLaneZero _
    · split
      · exact h.toLaneZero _
      · split
        · exact h.chooseLane ..
        · exact h.toLaneZero _

end Lanes

/-! ### Counting bags and the arbiter -/

section Counting
variable {s₀ s : State} (h : RangesKept s₀ s)
include h

theorem RangesKept.grant (r : Nat) (p : Pallet) : RangesKept s₀ (s.grant r p) := RangesKept.armFor h.of_eq ..

theorem RangesKept.arbitrate : RangesKept s₀ s.arbitrate := by
  unfold State.arbitrate
  split
  · split
    · exact h.grant ..
    · exact h
  · exact h

theorem RangesKept.becomeReady (r : Nat) : RangesKept s₀ (s.becomeReady r) :=
  RangesKept.arbitrate h.of_eq

theorem RangesKept.countOnto (r k : Nat) : RangesKept s₀ (s.countOnto r k) := by
  unfold State.countOnto
  split
  · next p b _ _ =>
    have hcounted : ∀ p', RangesKept s₀ (((s.onPallet r fun _ => p').arm (.exposure r) p'.exposureDue).freeBag k) := fun p' =>
      (RangesKept.arm h.of_eq ..).freeBag k
    dsimp only
    split
    · exact (hcounted _).becomeReady r
    · exact hcounted _
  · exact h

theorem RangesKept.countNew (k : Nat) (b : Bag) : RangesKept s₀ (s.countNew k b).1 := by
  unfold State.countNew
  split
  · next r _ => exact RangesKept.countOnto h.of_eq ..
  · exact h

theorem RangesKept.tryCount (k : Nat) : RangesKept s₀ (s.tryCount k).1 := by
  unfold State.tryCount
  split
  · exact h
  · split
    · split
      · exact h.countOnto ..
      · exact (h.becomeReady _).countNew ..
    · exact h.countNew ..

theorem RangesKept.submitBag (k : Nat) (b : Bag) : RangesKept s₀ (s.submitBag k b) := by
  unfold State.submitBag
  split
  · exact h
  · dsimp only
    split <;> exact h.tryCount k

omit h in
theorem RangesKept.walk {s₀ s : State} (h : RangesKept s₀ s) (numbers lanes : List Nat) : RangesKept s₀ (walk numbers lanes s).1 := by
  induction numbers generalizing lanes s with
  | nil => exact h
  | cons number rest ih =>
    unfold Machine.walk
    split
    · exact ih h lanes
    · next k b _ =>
      dsimp only
      split
      · exact ih h lanes
      · split
        · exact ih (h.tryCount k) lanes
        · exact ih (h.tryCount k) _

theorem RangesKept.walkWaiting : RangesKept s₀ s.walkWaiting := h.walk s.transfer.waiting []

theorem RangesKept.weigh (k : Nat) (b : Bag) (grams : Nat) : RangesKept s₀ (s.weigh k b grams).1 := by
  unfold State.weigh
  dsimp only
  split
  · exact RangesKept.submitBag h.of_eq ..
  · exact (RangesKept.notify h.of_eq _).freeBag k

end Counting

/-! ### PALLET TRANSFER (R159, R185) -/

section Transfer
variable {s₀ s : State} (h : RangesKept s₀ s)
include h

theorem RangesKept.freePallet (r : Nat) : RangesKept s₀ (s.freePallet r) := by
  unfold State.freePallet
  split
  · next p _ =>
    have hcancel : RangesKept s₀ ((s.onTransfer fun u => { u with pallets := u.pallets.del r }).cancel (.exposure r)) :=
      RangesKept.cancel h.of_eq _
    have hexpired := hcancel.onTime (fun u => { u with expired := u.expired.filter fun x => !decide (x = .exposure r) }) id
    exact (RangesKept.retireTest hexpired.of_eq _).walkWaiting
  · exact h

theorem RangesKept.enterTransfer (hr : s₀.link.InBounds → s.link.hasRoom = true) (r part : Nat) :
    RangesKept s₀ (s.enterTransfer r part) := by
  unfold State.enterTransfer
  split
  · exact h.enter hr _
  · exact h

theorem RangesKept.enterLast (hr : s₀.link.InBounds → s.link.hasRoom = true) (r part : Nat) :
    RangesKept s₀ (s.enterLast r part) := (h.enterTransfer hr r part).freePallet r

theorem RangesKept.offerLast (r part : Nat) : RangesKept s₀ (s.offerLast r part) := by
  unfold State.offerLast
  split
  · next hr => exact h.enterLast (fun _ => hr) ..
  · exact h.await _

theorem RangesKept.enterPart (hr : s₀.link.InBounds → s.link.hasRoom = true) (r part : Nat) :
    RangesKept s₀ (s.enterPart r part) := by
  unfold State.enterPart
  split
  · split
    · exact (h.enterTransfer hr ..).offerLast ..
    · exact h.enterLast hr ..
  · exact h

theorem RangesKept.offerPart (r part : Nat) : RangesKept s₀ (s.offerPart r part) := by
  unfold State.offerPart
  split
  · next hr => exact h.enterPart (fun _ => hr) ..
  · exact h.await _

end Transfer

/-! ### The shuttle, the door and faults -/

section Shuttle
variable {s₀ s : State} (h : RangesKept s₀ s)
include h

theorem RangesKept.expose (r : Nat) (p : Pallet) : RangesKept s₀ (s.expose r p) :=
  (RangesKept.fire h.of_eq ..).notify _

theorem RangesKept.exposureExpired (r : Nat) : RangesKept s₀ (s.exposureExpired r) := by
  unfold State.exposureExpired
  split
  · exact h
  · split
    · exact h
    · split
      · exact (h.expose ..).becomeReady r
      · exact h.expose ..

theorem RangesKept.returnPallet (r : Nat) (p : Pallet) : RangesKept s₀ (s.returnPallet r p) := by
  unfold State.returnPallet
  split
  · exact h.becomeReady r
  · split <;> exact h

theorem RangesKept.faultShuttle (cause : ShuttleCause) : RangesKept s₀ (s.faultShuttle cause) := by
  have hfailed : ∀ stranded, RangesKept s₀ ((s.cancel .shuttleJob).onShuttle (Shuttle.fail cause stranded)) := fun _ =>
    h.cancel .shuttleJob
  unfold State.faultShuttle
  dsimp only
  split
  · exact ((hfailed _).returnPallet ..).fire ..
  · exact (hfailed _).fire ..

theorem RangesKept.accepted : RangesKept s₀ s.accepted := by
  unfold State.accepted
  split
  · exact h
  · exact h.notify _

theorem RangesKept.loaded : RangesKept s₀ s.loaded := by
  unfold State.loaded
  split
  · dsimp only
    split <;> exact h
  · exact h.notify _

theorem RangesKept.jobDone : RangesKept s₀ s.jobDone := by
  unfold State.jobDone
  split
  · split
    · exact RangesKept.arbitrate (h.cancel .shuttleJob).of_eq
    · exact h.notify _
  · exact h.notify _

theorem RangesKept.judgeDoor (r stamp : Nat) : RangesKept s₀ (s.judgeDoor r stamp) := by
  unfold State.judgeDoor
  split
  · split
    · exact h.expose ..
    · exact h
  · exact h

theorem RangesKept.storePallet (r : Nat) : RangesKept s₀ (s.storePallet r) := by
  unfold State.storePallet
  split
  · exact RangesKept.offerPart h.of_eq ..
  · exact h

theorem RangesKept.doorPass (r stamp : Nat) : RangesKept s₀ (s.doorPass r stamp) := by
  unfold State.doorPass
  exact ((RangesKept.cancel h.of_eq (.exposure r)).judgeDoor r stamp).storePallet r

theorem RangesKept.doorEdge (stamp : Nat) : RangesKept s₀ (s.doorEdge stamp) := by
  unfold State.doorEdge
  split
  · split
    · exact h.notify _
    · split
      · exact h.doorPass ..
      · exact h
  · exact h.notify _

theorem RangesKept.recoverShuttle : RangesKept s₀ s.recoverShuttle := by
  have hidle : RangesKept s₀ (s.onShuttle Shuttle.recover) := h
  unfold State.recoverShuttle
  dsimp only
  split
  · exact hidle.becomeReady _
  · exact hidle.arbitrate

end Shuttle

/-! ### Parcels, declarations and the index -/

section Index
variable {s₀ s : State} (h : RangesKept s₀ s)
include h

theorem RangesKept.retireParcel (k slot : Nat) (f : Lot → Lot) : RangesKept s₀ (s.retireParcel k slot f) :=
  RangesKept.retireTest h.of_eq slot

theorem RangesKept.takeEntry (p : Parcel) (entry : ProvingRun → ProvingEntry) : RangesKept s₀ (s.takeEntry p entry) := by
  unfold State.takeEntry
  split <;> exact h

theorem RangesKept.outfeed (k : Nat) (p : Parcel) (stamp : Nat) : RangesKept s₀ (s.outfeed k p stamp) := by
  have hout : ∀ v b, RangesKept s₀ (if (s.distribute p v).1.credit.outfeedNotices then (s.distribute p v).1.notify b
      else (s.distribute p v).1) := fun v b => by
    split
    · exact (h.distribute p v).notify b
    · exact h.distribute p v
  exact (((hout ..).takeEntry ..).retireParcel ..).emptyTest

theorem RangesKept.backpressure (k n : Nat) (p : Parcel) (stamp : Nat) : RangesKept s₀ (s.backpressure k n p stamp) := by
  have hlost := ((h.takeEntry p fun _ => lostEntry p).retireParcel k p.slot Lot.lose).notify (.lost p.seq p.slot n stamp)
  exact (RangesKept.cancel hlost.of_eq (.stall n)).emptyTest

theorem RangesKept.depart (n : Nat) (t : Track) (stamp : Nat) : RangesKept s₀ (s.depart n t stamp) := by
  have hcell : ∀ cell, RangesKept s₀ (s.onTrack fun u => { u with cells := u.cells.del cell }) := fun _ => h
  unfold State.depart
  dsimp only
  split
  · exact h
  · split
    · exact hcell _
    · split
      · exact (hcell _).outfeed ..
      · split
        · exact hcell (s.track.cellOf n t (t.segments - 1))
        · exact (hcell _).backpressure ..

theorem RangesKept.place (k n stamp : Nat) : RangesKept s₀ (s.place k n stamp) := by
  unfold State.place
  split <;> exact h

theorem RangesKept.recover (n : Nat) : RangesKept s₀ (s.recover n) := by
  unfold State.recover
  split
  · split
    · exact RangesKept.armFor h.of_eq ..
    · exact h
  · exact h

theorem RangesKept.takeQueue (n stamp : Nat) : RangesKept s₀ (s.takeQueue n stamp) := by
  unfold State.takeQueue
  split
  · exact (RangesKept.place h.of_eq ..).recover n
  · exact h

theorem RangesKept.fill (n : Nat) (presence : Bool) (stamp : Nat) : RangesKept s₀ (s.fill n presence stamp) := by
  unfold State.fill
  split
  · split
    · exact RangesKept.place h.of_eq ..
    · exact h
  · exact h.takeQueue ..

/-- R59: a summary withdrawn leaves the waiting list alone. -/
theorem RangesKept.revive (slot : Nat) : RangesKept s₀ (s.revive slot) := h

theorem RangesKept.applyDeclaration (stamp : Nat) : RangesKept s₀ (s.applyDeclaration stamp) := by
  unfold State.applyDeclaration State.tableFull
  split
  · exact h
  · split
    · split
      · exact (h.revive _).makeCurrent _
      · exact h.makeCurrent _
    · split
      · exact RangesKept.makeCurrent h.of_eq _
      · split
        · exact h
        · exact RangesKept.notify h.of_eq _

theorem RangesKept.applyStaged (n stamp : Nat) : RangesKept s₀ (s.applyStaged n stamp) := by
  have hdeclared : RangesKept s₀ (if n = 1 then s.applyDeclaration stamp else s) := by
    split
    · exact h.applyDeclaration stamp
    · exact h
  unfold State.applyStaged
  dsimp only
  generalize (if n = 1 then s.applyDeclaration stamp else s) = u at hdeclared
  split <;> exact hdeclared

theorem RangesKept.indexNotice (n : Nat) (moved : Bool) (stamp : Nat) : RangesKept s₀ (s.indexNotice n moved stamp) := by
  unfold State.indexNotice
  split
  · split
    · exact h
    · exact h.notify _
    · split
      · exact h.notify _
      · exact h
  · exact h

theorem RangesKept.endProvingLine : RangesKept s₀ s.endProvingLine :=
  RangesKept.setLine h.cancelStalls.of_eq ..

theorem RangesKept.completeProving : RangesKept s₀ s.completeProving := by
  unfold State.completeProving
  split
  · split
    · exact ((RangesKept.dropCurrent h.of_eq).notify _).endProvingLine
    · exact h
  · exact h

theorem RangesKept.index (n : Nat) (t : Track) (presence : Bool) (stamp : Nat) : RangesKept s₀ (s.index n t presence stamp) := by
  have hadvanced : RangesKept s₀ ((s.depart n t stamp).advance n stamp) := h.depart n t stamp
  exact (((hadvanced.fill ..).applyStaged ..).indexNotice ..).completeProving

theorem RangesKept.pulse (presence : Bool) (n : Nat) : RangesKept s₀ (s.pulse presence n) := by
  unfold State.pulse
  split
  · exact h
  · next t _ =>
    split
    · have hrun : RangesKept s₀ (if s.trackRun n then s.armFor (.stall n) t.stallLimit else s) := by
        split
        · exact h.armFor ..
        · exact h
      dsimp only
      generalize (if s.trackRun n then s.armFor (.stall n) t.stallLimit else s) = u at hrun
      split
      · exact hrun
      · exact RangesKept.index hrun.of_eq ..
    · exact h

theorem RangesKept.encoder (input : Nat) (presence : Bool) : RangesKept s₀ (s.encoder input presence) := by
  have hpulses : ∀ l u, RangesKept s₀ u → RangesKept s₀ (State.each (State.pulse presence) l u) := fun l u hu =>
    State.each_induct (RangesKept s₀) _ _ _ hu fun n _ _ ht => ht.pulse presence n
  unfold State.encoder
  dsimp only
  split
  · exact hpulses _ { s with draws := s.draws + 1 } h
  · exact hpulses _ _ h

end Index

/-! ### Probes -/

section Probes
variable {s₀ s : State} (h : RangesKept s₀ s)
include h

theorem RangesKept.bind (input : Nat) (b : Option (Nat × LevelName)) : RangesKept s₀ (s.bind input b) := by
  unfold State.bind
  split
  · exact (RangesKept.reformBound h.of_eq ..).reformBound ..
  · exact h

theorem RangesKept.creditSample (c : Nat) (v : Int) (t : Nat) (wasStale : Bool) : RangesKept s₀ (s.creditSample c v t wasStale) := by
  rw [State.creditSample_frame]
  exact h

theorem RangesKept.creditStale (c : Nat) : RangesKept s₀ (s.creditStale c) := h

theorem RangesKept.goodSample (c : Nat) (raw : Int) (stamp : Nat) : RangesKept s₀ (s.goodSample c raw stamp) := by
  have hsample : RangesKept s₀ (s.onChannel c (Channel.sample raw stamp)) := h
  have hcredit : ∀ u v w, RangesKept s₀ u → RangesKept s₀ (if u.track.watchesBlanch c then u.creditSample c v stamp w else u) :=
    fun u v w hu => by
      split
      · exact hu.creditSample ..
      · exact hu
  unfold State.goodSample
  split
  · exact h
  · refine hcredit _ _ _ (RangesKept.reform ?_ ..)
    split
    · exact hsample.notify _
    · exact hsample

theorem RangesKept.missed (c : Nat) (cause : MissCause) : RangesKept s₀ (s.missed c cause) := by
  have hmiss : RangesKept s₀ (s.onChannel c (Channel.miss cause)) := h
  unfold State.missed
  split
  · exact h
  · dsimp only
    split
    · exact (hmiss.fire ..).creditStale c
    · exact hmiss

theorem RangesKept.judgeFrame (e : Exchange) (frame : List Byte) : RangesKept s₀ (s.judgeFrame e frame) := by
  unfold State.judgeFrame
  split
  · split
    · split
      · exact RangesKept.missed h.of_eq ..
      · exact h.goodSample ..
    · exact h.missed ..
  · exact h

theorem RangesKept.endExchange (e : Exchange) {outcome : State → State} (ho : RangesKept s₀ (outcome s)) :
    RangesKept s₀ (s.endExchange e outcome) := by
  unfold State.endExchange
  dsimp only
  split
  · exact h
  · exact ho

theorem RangesKept.sampleBytes (bytes : List Byte) : RangesKept s₀ (s.sampleBytes bytes) := by
  unfold State.sampleBytes
  split
  · exact h
  · split
    · dsimp only
      split
      · exact h.endExchange _ (h.judgeFrame ..)
      · exact h
    · exact h

theorem RangesKept.closeWindow : RangesKept s₀ s.closeWindow := by
  unfold State.closeWindow
  split
  · exact h
  · split
    · exact h
    · exact h.endExchange _ (h.missed ..)

theorem RangesKept.externalEdge (i : Nat) (rising : Bool) (stamp : Nat) : RangesKept s₀ (s.externalEdge i rising stamp) := by
  unfold State.externalEdge
  split
  · exact RangesKept.reformBound h.of_eq ..
  · exact h

end Probes

end Sys2Proof.Machine
end

section
/-! ## Ranges and places kept: every command

The link's own operations, the owners of the requests, resets and power; then the step. -/

namespace Sys2Proof.Machine

-- One declaration after the other, so that the text needs one thread for them and not one each.
set_option Elab.async false

/-! ### The base millisecond, TIME SET and TIME TRIM (R17, R18, R21, R22) -/

/-- R18: below the modulus the accumulator takes the trim, and line time steps by one. -/
theorem TimeUnit.step_below {u : TimeUnit} (h : u.accumulator + u.trim.natAbs < Config.trimModulus) :
    u.step = (1, u.accumulator + u.trim.natAbs) := if_neg (Nat.not_le_of_lt h)

/-- R18: at the modulus the accumulator wraps, and line time steps by two or not at all. -/
theorem TimeUnit.step_wrap {u : TimeUnit} (h : Config.trimModulus ≤ u.accumulator + u.trim.natAbs) :
    u.step = (if 0 < u.trim then 2 else 0, u.accumulator + u.trim.natAbs - Config.trimModulus) := if_pos h

/-- R18: with the trim in its range the accumulator stays below its modulus. -/
theorem TimeUnit.InRange.advance {u : TimeUnit} (h : u.InRange) : u.advance.InRange := by
  obtain ⟨-, hacc, hlow, hhigh, hdues⟩ := h
  refine ⟨Nat.min_le_right .., ?_, hlow, hhigh, hdues⟩
  show u.step.2 < Config.trimModulus
  by_cases hsum : u.accumulator + u.trim.natAbs < Config.trimModulus
  · rw [TimeUnit.step_below hsum]
    exact hsum
  · rw [TimeUnit.step_wrap (Nat.le_of_not_lt hsum)]
    simp only [Config.trimModulus] at hacc ⊢
    omega

/-- R25: a timer that expires only leaves the table. -/
theorem TimeUnit.InRange.test {u : TimeUnit} (h : u.InRange) (pin : Bool) : (u.test pin).InRange :=
  h.withTimers fun hd => hd.sublist List.filter_sublist

theorem TimeUnit.InRange.reset {u : TimeUnit} (h : u.InRange) : u.reset.InRange := h.withTimers fun _ => .nil

section Time
variable {s₀ s : State} (h : RangesKept s₀ s)
include h

theorem RangesKept.millisecond (seen : List FieldInput) : RangesKept s₀ (s.millisecond seen) :=
  h.onTime _ fun ht => ht.advance.test s.pin

theorem RangesKept.doTimeSet (a : Nat) : RangesKept s₀ (doTimeSet a s).1 := by
  unfold Machine.doTimeSet
  split
  · next ha =>
    refine h.onTime (fun u => { u with lineTime := a }) fun ht => ?_
    obtain ⟨-, hrest⟩ := ht
    exact ⟨ha.trans (by decide), hrest⟩
  · exact h

theorem RangesKept.doTimeTrim (a : Int) : RangesKept s₀ (doTimeTrim a s).1 := by
  unfold Machine.doTimeTrim
  split
  · next ha =>
    refine h.onTime (fun u => { u with trim := a, accumulator := 0 }) fun ht => ?_
    obtain ⟨hline, -, -, -, hdues⟩ := ht
    exact ⟨hline, (by decide : 0 < Config.trimModulus), ha.1, ha.2, hdues⟩
  · exact h

end Time

/-! ### The receiver (R181, R182) -/

theorem LinkUnit.InBounds.arrive {u : LinkUnit} (h : u.InBounds) (pin : Bool) (f : Frame) : (u.arrive pin f).InBounds := by
  obtain ⟨hreceive, hbusy, hnotices⟩ := h
  unfold LinkUnit.arrive
  split
  · exact ⟨hreceive, hbusy, hnotices⟩
  · split
    · next hroom => exact ⟨by simpa using hroom, hbusy, hnotices⟩
    · split
      · next hroom => exact ⟨hreceive, by simpa using hroom, hnotices⟩
      · exact ⟨hreceive, hbusy, hnotices⟩

theorem LinkUnit.InBounds.takeByte {u : LinkUnit} (h : u.InBounds) (pin : Bool) (b : Byte) : (u.takeByte pin b).InBounds := by
  have hhunt : ∀ r, ({ u with receiver := r } : LinkUnit).InBounds := fun _ => h
  unfold LinkUnit.takeByte LinkUnit.readByte
  split
  · split
    · exact hhunt _
    · exact h
  · dsimp only
    split
    · exact hhunt _
    · split
      · exact hhunt _
      · split
        · exact (hhunt none).arrive ..
        · exact hhunt _

theorem LinkUnit.InBounds.takeBytes {u : LinkUnit} (h : u.InBounds) (pin : Bool) (bs : List Byte) :
    (LinkUnit.takeBytes pin bs u).InBounds := by
  induction bs generalizing u with
  | nil => exact h
  | cons b bs ih => exact ih (h.takeByte pin b)

theorem LinkUnit.InBounds.dropGap {u : LinkUnit} (h : u.InBounds) (now : Nat) : (u.dropGap now).InBounds := by
  unfold LinkUnit.dropGap
  split <;> exact h

theorem LinkUnit.InBounds.receiveBytes {u : LinkUnit} (h : u.InBounds) (pin : Bool) (now : Nat) (bs : List Byte) :
    (u.receiveBytes pin now bs).InBounds := by
  unfold LinkUnit.receiveBytes
  split
  · exact h
  · exact (h.dropGap now).takeBytes pin bs

/-! ### The end of a frame sent (R184, R185) -/

section Link
variable {s₀ s : State} (h : RangesKept s₀ s)
include h

theorem RangesKept.enterOldest (hr : s₀.link.InBounds → s.link.hasRoom = true) : RangesKept s₀ s.enterOldest := by
  have htaken : ∀ rest, RangesKept s₀ (s.onLink fun u => { u with waiting := rest }) := fun _ => h
  unfold State.enterOldest
  split
  · exact h
  · next slot rest _ => exact (htaken rest).enterSummary hr slot
  · next r part rest _ => exact (htaken rest).enterPart hr r part

/-- R185: the notice sent to its end leaves the free entry the oldest waiting one takes. -/
theorem RangesKept.frameSent : RangesKept s₀ s.frameSent := by
  unfold State.frameSent
  split
  · exact h
  · exact h
  · split
    · have hdrop : s.link.InBounds → (s.link.notices.drop 1).length < Config.noticeDepth := fun hb => by
        obtain ⟨-, -, hnotices⟩ := hb
        rw [List.length_drop]
        simp only [Config.noticeDepth] at hnotices ⊢
        omega
      have hfreed := h.onLink (fun u => { u with transmitter := .idle, notices := u.notices.drop 1 }) fun hb =>
        hb.withNotices (hdrop hb).le
      exact hfreed.enterOldest fun h₀ => decide_eq_true (hdrop (h.2 h₀))
    · exact h

theorem RangesKept.answerUnknown : RangesKept s₀ s.answerUnknown := by
  unfold State.answerUnknown
  split
  · exact h
  · split
    · split
      · exact h
      · exact h.answer ..
    · exact h

end Link

/-! ### START to CLEAR -/

section Line
variable {s₀ s : State} (h : RangesKept s₀ s)
include h

theorem RangesKept.doStart (a : Unit) : RangesKept s₀ (doStart a s).1 := by
  unfold Machine.doStart
  (repeat' split) <;> try exact h
  exact h.releaseSync.setLine ..

theorem RangesKept.armDrain : RangesKept s₀ s.armDrain := h.armFor ..

theorem RangesKept.stop (limit : Option Nat) : RangesKept s₀ (s.stop limit) := by
  have hlimit : RangesKept s₀ (match limit with
      | some l => s.onLine fun u => { u with drainLimit := l }
      | none => s) := by
    split <;> exact h
  unfold State.stop
  dsimp only
  split
  · exact (hlimit.armDrain.setLine ..).emptyTest
  · split
    · exact hlimit.armDrain
    · exact hlimit

theorem RangesKept.doStop (limit : Option Nat) : RangesKept s₀ (doStop limit s).1 := by
  unfold Machine.doStop
  split
  · exact h.stop _
  · split
    · exact h.stop _
    · exact h

theorem RangesKept.doHalt (a : Unit) : RangesKept s₀ (doHalt a s).1 := by
  unfold Machine.doHalt
  split
  · exact h
  · exact h.enterHalted _

theorem RangesKept.resumeTo (origin : LineState) : RangesKept s₀ (s.resumeTo origin) := by
  have harmed : RangesKept s₀ (s.onTrack fun u => { u with tracks := u.tracks.mapVals fun _ t => t.resume }).armStalls :=
    RangesKept.armStalls h.of_eq
  unfold State.resumeTo
  dsimp only
  split
  · exact (harmed.armDrain.setLine ..).emptyTest
  · exact (harmed.setLine ..).emptyTest

theorem RangesKept.doResume (a : Unit) : RangesKept s₀ (doResume a s).1 := by
  unfold Machine.doResume
  (repeat' split) <;> try exact h
  exact h.resumeTo _

theorem RangesKept.loseAll : RangesKept s₀ s.loseAll := by
  have hlost : RangesKept s₀ (State.each (fun p s => s.onLot p.slot Lot.lose) s.parcel.parcels.vals s) :=
    State.each_induct (RangesKept s₀) _ _ _ h fun _ _ _ ht => ht
  exact hlost.of_eq

theorem RangesKept.doClear (a : Unit) : RangesKept s₀ (doClear a s).1 :=
  State.each_induct (RangesKept s₀) _ _ _ (h.loseAll.setLine ..) fun k _ _ ht => ht.retireTest k

/-! ### Proving runs and saves -/

theorem RangesKept.doProveStart (a : Nat × Nat × Nat) : RangesKept s₀ (doProveStart a s).1 := by
  unfold Machine.doProveStart
  (repeat' split) <;> try exact h
  next k _ =>
    have hlot := RangesKept.makeCurrent (s := s.newLot k (Lot.new provingCode a.1 0 true)) h k
    exact (RangesKept.releaseSync hlot.of_eq).setLine ..

theorem RangesKept.doProveAbort (a : Unit) : RangesKept s₀ (doProveAbort a s).1 := h.enterHalted _

theorem RangesKept.lineAfterSave (k : SaveKind) : RangesKept s₀ (s.lineAfterSave k) := by
  unfold State.lineAfterSave
  split
  · exact RangesKept.setLine h.of_eq ..
  · exact h.setLine ..
  · exact h

theorem RangesKept.endSave (v : Save) (ok : Bool) : RangesKept s₀ (s.endSave v ok) := by
  have hlock : RangesKept s₀ ((s.onStore (StoreUnit.finishSave v ok)).onComm fun u =>
      { u with locked := v.kind.lockAfter ok u.locked }) := h
  unfold State.endSave
  dsimp only
  split
  · exact hlock.of_eq
  · split
    · exact (hlock.notify _).lineAfterSave _
    · exact hlock.notify _

end Line

/-! ### Line reset (R15, R191) -/

theorem uptoOldest_length_le (l : List Place) : (uptoOldest l).length ≤ l.length := by
  induction l with
  | nil => exact le_rfl
  | cons p l ih =>
    cases p with
    | answered r => exact Nat.succ_le_succ ih
    | waiting f => exact Nat.succ_le_succ (Nat.zero_le _)

theorem LinkUnit.InBounds.resetByRequest {u : LinkUnit} (h : u.InBounds) : u.resetByRequest.InBounds := by
  obtain ⟨hreceive, -, -⟩ := h
  exact ⟨(uptoOldest_length_le _).trans hreceive, Nat.zero_le _, Nat.zero_le _⟩

theorem LinkUnit.inBounds_resetByPin (u : LinkUnit) : u.resetByPin.InBounds := ⟨Nat.zero_le _, Nat.zero_le _, Nat.zero_le _⟩

section Reset
variable {s₀ s : State} (h : RangesKept s₀ s)
include h

theorem RangesKept.resetUnits : RangesKept s₀ s.resetUnits := ⟨fun h₀ => (h.1 h₀).reset, h.2⟩

omit h in
theorem RangesKept.notifyDiscard {s₀ s : State} (h : RangesKept s₀ s) (parcels parts part : Nat) (ls : List (List (Nat × Lot))) :
    RangesKept s₀ (s.notifyDiscard parcels parts part ls) := by
  induction ls generalizing part s with
  | nil => exact h
  | cons l ls ih => exact ih (h.notify _) (part + 1)

theorem RangesKept.payProving : RangesKept s₀ s.payProving := by
  unfold State.payProving
  split
  · exact (h.notify _).of_eq
  · exact h

theorem RangesKept.refire : RangesKept s₀ s.refire := by
  refine State.each_induct (RangesKept s₀) _ _ _ h fun x _ t ht => ?_
  split
  · exact ht.fire ..
  · exact ht

theorem RangesKept.payStore : RangesKept s₀ s.payStore := by
  unfold State.payStore
  split
  · exact (h.notify _).of_eq
  · exact h

theorem RangesKept.lineReset : RangesKept s₀ s.lineReset := by
  unfold State.lineReset State.resetNotices
  exact (((h.resetUnits.notify _).notifyDiscard ..).payProving.refire).payStore

theorem RangesKept.doResetLine (a : Unit) : RangesKept s₀ (doResetLine a s).1 := by
  have hlink := h.onLink LinkUnit.resetByRequest fun hb => hb.resetByRequest
  simp only [Machine.doResetLine]
  exact hlink.lineReset

theorem RangesKept.assertPin : RangesKept s₀ s.assertPin := by
  have hcut : RangesKept s₀ (({ s with pin := true }.onLink fun u => { u with transmitter := .idle }).holdCounters) := h
  exact hcut.endProving.of_eq

theorem RangesKept.releasePin : RangesKept s₀ ({ s with pin := false }.onLink LinkUnit.resetByPin).lineReset := by
  have hreset : RangesKept s₀ ({ s with pin := false }.onLink LinkUnit.resetByPin) :=
    ⟨h.1, fun _ => LinkUnit.inBounds_resetByPin _⟩
  exact hreset.lineReset

end Reset

/-! ### Power (R16, R31, R174, R191) -/

theorem TimeUnit.inRange_fresh (seen : List FieldInput) : (TimeUnit.fresh seen).InRange := by
  simp [TimeUnit.InRange, TimeUnit.fresh, DuesInRange.nil, Config.trimModulus]

theorem LinkUnit.inBounds_fresh (baud : Nat) : (LinkUnit.fresh baud).InBounds := by
  simp [LinkUnit.InBounds, LinkUnit.fresh]

theorem RangesKept.fresh (s₀ : State) (image : Option StoredSet) (set : StoredSet) (seen : List FieldInput) (baud draws : Nat)
    (pending : List Instr) : RangesKept s₀ (State.fresh image set seen baud draws pending) :=
  .of_inRange (TimeUnit.inRange_fresh seen) (LinkUnit.inBounds_fresh baud)

theorem RangesKept.powerUp (s₀ s : State) (seen : List FieldInput) (baud : Nat) : RangesKept s₀ (s.powerUp seen baud) :=
  State.each_induct (RangesKept s₀) _ _ _ ((RangesKept.fresh ..).notify _) fun c _ _ ht => ht.reform c .external _

theorem RangesKept.powerDown (s₀ s : State) : RangesKept s₀ s.powerDown :=
  (RangesKept.fresh s₀ s.store.keptImage StoredSet.factory [] s.link.baud s.draws s.pending).of_eq

/-! ### Owners that leave time base and link -/

section Owners
variable {s₀ s : State} (h : RangesKept s₀ s)
include h

theorem RangesKept.doTrackDefine (a : TrackDefine) : RangesKept s₀ (doTrackDefine a s).1 := by
  unfold Machine.doTrackDefine
  (repeat' split) <;> exact h

theorem RangesKept.doZoneDefine (a : ZoneDefine) : RangesKept s₀ (doZoneDefine a s).1 := by
  unfold Machine.doZoneDefine
  (repeat' split) <;> exact h

theorem RangesKept.doTrackRead (a : Nat × Nat × Nat) : RangesKept s₀ (doTrackRead a s).1 := by
  unfold Machine.doTrackRead
  (repeat' split) <;> exact h

theorem RangesKept.doDividerReset (a : Nat) : RangesKept s₀ (doDividerReset a s).1 := by
  unfold Machine.doDividerReset
  (repeat' split) <;> exact h

theorem RangesKept.doNoticeModeSet (a : Nat × Nat × Option Nat) : RangesKept s₀ (doNoticeModeSet a s).1 := by
  unfold Machine.doNoticeModeSet
  (repeat' split) <;> exact h

theorem RangesKept.doInfeedDeclare (a : List Byte × Nat × Nat) : RangesKept s₀ (doInfeedDeclare a s).1 := by
  unfold Machine.doInfeedDeclare
  split <;> exact h

theorem RangesKept.doParcelRead (a : Seq) : RangesKept s₀ (doParcelRead a s).1 := by
  unfold Machine.doParcelRead
  split <;> exact h

theorem RangesKept.doLotRead (a : Nat) : RangesKept s₀ (doLotRead a s).1 := by
  unfold Machine.doLotRead
  split <;> exact h

theorem RangesKept.setChannel (c address : Nat) (enabled : Bool) (role : Role) :
    RangesKept s₀ (s.setChannel c address enabled role) := by
  unfold State.setChannel
  (repeat' split) <;> exact h

theorem RangesKept.doChannelSet (a : Nat × Nat × Nat × Nat) : RangesKept s₀ (doChannelSet a s).1 := by
  unfold Machine.doChannelSet
  (repeat' split) <;> try exact h
  exact (h.setChannel ..).of_eq

theorem RangesKept.doOffsetStep (a : Nat × Int) : RangesKept s₀ (doOffsetStep a s).1 := by
  unfold Machine.doOffsetStep
  dsimp only
  (repeat' split) <;> exact h

theorem RangesKept.doLevelsSet (a : LevelsSet) : RangesKept s₀ (doLevelsSet a s).1 := by
  unfold Machine.doLevelsSet
  (repeat' split) <;> exact h

theorem RangesKept.doRouteSet (a : Nat × Nat × Nat) : RangesKept s₀ (doRouteSet a s).1 := by
  unfold Machine.doRouteSet
  (repeat' split) <;> exact h

theorem RangesKept.doExternalTripSet (a : ExternalSet) : RangesKept s₀ (doExternalTripSet a s).1 := by
  unfold Machine.doExternalTripSet
  (repeat' split) <;> try exact h
  exact (h.bind ..).of_eq

theorem RangesKept.doSamplingSet (a : Nat) : RangesKept s₀ (doSamplingSet a s).1 := by
  unfold Machine.doSamplingSet
  split <;> exact h

theorem RangesKept.doTripAck (a : Nat × Nat) : RangesKept s₀ (doTripAck a s).1 := by
  unfold Machine.doTripAck
  (repeat' split) <;> exact h

theorem RangesKept.doChannelRead (a : Nat) : RangesKept s₀ (doChannelRead a s).1 := by
  unfold Machine.doChannelRead
  (repeat' split) <;> exact h

theorem RangesKept.doRateTableSet (a : List Band) : RangesKept s₀ (doRateTableSet a s).1 := by
  unfold Machine.doRateTableSet
  (repeat' split) <;> exact h

theorem RangesKept.doRecipeThermalSet (a : ThermalSet) : RangesKept s₀ (doRecipeThermalSet a s).1 := by
  unfold Machine.doRecipeThermalSet
  (repeat' split) <;> exact h

theorem RangesKept.doRecipePackingSet (a : PackingSet) : RangesKept s₀ (doRecipePackingSet a s).1 := by
  unfold Machine.doRecipePackingSet
  split <;> exact h

theorem RangesKept.doClassMapSet (a : List (Nat × Nat)) : RangesKept s₀ (doClassMapSet a s).1 := by
  unfold Machine.doClassMapSet
  split <;> exact h

theorem RangesKept.doDeadTimeSet (a : Nat) : RangesKept s₀ (doDeadTimeSet a s).1 := by
  unfold Machine.doDeadTimeSet
  split <;> exact h

theorem RangesKept.doLaneOpen (a : Nat) : RangesKept s₀ (doLaneOpen a s).1 := by
  unfold Machine.doLaneOpen
  split <;> exact h

theorem RangesKept.doLaneClose (a : Nat) : RangesKept s₀ (doLaneClose a s).1 := by
  unfold Machine.doLaneClose
  split <;> exact h

theorem RangesKept.doBagRead (a : Nat) : RangesKept s₀ (doBagRead a s).1 := by
  unfold Machine.doBagRead
  (repeat' split) <;> exact h

theorem RangesKept.doPalletRead (a : Nat × Option Nat) : RangesKept s₀ (doPalletRead a s).1 := by
  unfold Machine.doPalletRead
  dsimp only
  (repeat' split) <;> exact h

theorem RangesKept.doJobLimitSet (a : Nat) : RangesKept s₀ (doJobLimitSet a s).1 := by
  unfold Machine.doJobLimitSet
  split <;> exact h

theorem RangesKept.doCommission (a : Unit) : RangesKept s₀ (doCommission a s).1 := by
  unfold Machine.doCommission
  (repeat' split) <;> exact h

theorem RangesKept.doUnlock (a : Unit) : RangesKept s₀ (doUnlock a s).1 := by
  unfold Machine.doUnlock
  (repeat' split) <;> exact h

theorem RangesKept.doStoreSave (a : Unit) : RangesKept s₀ (doStoreSave a s).1 := by
  unfold Machine.doStoreSave
  split <;> exact h

/-! ### Owners in the transfer unit -/

theorem RangesKept.doBagWeight (a : Nat × Nat) : RangesKept s₀ (doBagWeight a s).1 := by
  unfold Machine.doBagWeight
  (repeat' split) <;> try exact h
  exact h.weigh ..

theorem RangesKept.doPalletClose (a : Nat) : RangesKept s₀ (doPalletClose a s).1 := by
  unfold Machine.doPalletClose
  (repeat' split) <;> try exact h
  exact h.becomeReady _

theorem RangesKept.doShuttleReset (a : Unit) : RangesKept s₀ (doShuttleReset a s).1 := by
  unfold Machine.doShuttleReset
  (repeat' split) <;> try exact h
  exact h.recoverShuttle

end Owners

/-! ### Every command -/

theorem RangesKept.act {s t : State} {effect : State → State} (hc : s.act effect = .next t) (he : RangesKept s (effect s)) :
    RangesKept s t := by
  cases hp : s.powered with
  | true =>
    rw [State.act_powered _ _ hp] at hc
    cases hc
    exact he.finish
  | false =>
    rw [State.act_unpowered _ _ hp] at hc
    cases hc
    exact .refl s

theorem RangesKept.handOn {α : Type} {s : State} {r : Request} {parse : List Byte → Option α}
    {owner : α → State → State × ReplyBody} (ho : ∀ a, RangesKept s (owner a s).1) : RangesKept s (s.handOn r parse owner) := by
  unfold State.handOn
  split
  · exact .refl s
  · split
    · exact .refl s
    · split
      · split
        · exact (RangesKept.refl s).answer ..
        · split
          · exact (RangesKept.refl s).answer ..
          · exact (ho _).answer ..
      · exact .refl s

/-- A command that names a line of the part, or faults. -/
theorem RangesKept.guarded {s t : State} {i : Instr} {o : Outcome} (h : (if i.wellFormed then o else .fault .noSuchLine) = .next t)
    (ho : o = .next t → RangesKept s t) : RangesKept s t := by
  split at h
  · exact ho h
  · nomatch h

/-- Whatever command is taken, ranges and bounds carry over. -/
theorem RangesKept.exec {c : Instr} {s t : State} (hc : exec c s = .next t) : RangesKept s t := by
  have h := RangesKept.refl s
  cases c with
  | start =>
    simp only [Machine.exec, execStart] at hc
    exact .act hc (.handOn h.doStart)
  | stop =>
    simp only [Machine.exec, execStop] at hc
    exact .act hc (.handOn h.doStop)
  | halt =>
    simp only [Machine.exec, execHalt] at hc
    exact .act hc (.handOn h.doHalt)
  | resume =>
    simp only [Machine.exec, execResume] at hc
    exact .act hc (.handOn h.doResume)
  | clear =>
    simp only [Machine.exec, execClear] at hc
    exact .act hc (.handOn h.doClear)
  | resetLine =>
    simp only [Machine.exec, execResetLine] at hc
    exact .act hc (.handOn h.doResetLine)
  | statusRead =>
    simp only [Machine.exec, execStatusRead] at hc
    exact .act hc (.handOn fun _ => h)
  | timeRead =>
    simp only [Machine.exec, execTimeRead] at hc
    exact .act hc (.handOn fun _ => h)
  | timeSet =>
    simp only [Machine.exec, execTimeSet] at hc
    exact .act hc (.handOn h.doTimeSet)
  | timeTrim =>
    simp only [Machine.exec, execTimeTrim] at hc
    exact .act hc (.handOn h.doTimeTrim)
  | trackDefine =>
    simp only [Machine.exec, execTrackDefine] at hc
    exact .act hc (.handOn h.doTrackDefine)
  | zoneDefine =>
    simp only [Machine.exec, execZoneDefine] at hc
    exact .act hc (.handOn h.doZoneDefine)
  | trackRead =>
    simp only [Machine.exec, execTrackRead] at hc
    exact .act hc (.handOn h.doTrackRead)
  | dividerReset =>
    simp only [Machine.exec, execDividerReset] at hc
    exact .act hc (.handOn h.doDividerReset)
  | noticeModeSet =>
    simp only [Machine.exec, execNoticeModeSet] at hc
    exact .act hc (.handOn h.doNoticeModeSet)
  | infeedDeclare =>
    simp only [Machine.exec, execInfeedDeclare] at hc
    exact .act hc (.handOn h.doInfeedDeclare)
  | parcelRead =>
    simp only [Machine.exec, execParcelRead] at hc
    exact .act hc (.handOn h.doParcelRead)
  | lotRead =>
    simp only [Machine.exec, execLotRead] at hc
    exact .act hc (.handOn h.doLotRead)
  | holdRange =>
    simp only [Machine.exec, execHoldRange] at hc
    exact .act hc (.handOn fun _ => h)
  | clearHoldRange =>
    simp only [Machine.exec, execClearHoldRange] at hc
    exact .act hc (.handOn fun _ => h)
  | channelSet =>
    simp only [Machine.exec, execChannelSet] at hc
    exact .act hc (.handOn h.doChannelSet)
  | offsetStep =>
    simp only [Machine.exec, execOffsetStep] at hc
    exact .act hc (.handOn h.doOffsetStep)
  | levelsSet =>
    simp only [Machine.exec, execLevelsSet] at hc
    exact .act hc (.handOn h.doLevelsSet)
  | routeSet =>
    simp only [Machine.exec, execRouteSet] at hc
    exact .act hc (.handOn h.doRouteSet)
  | externalTripSet =>
    simp only [Machine.exec, execExternalTripSet] at hc
    exact .act hc (.handOn h.doExternalTripSet)
  | samplingSet =>
    simp only [Machine.exec, execSamplingSet] at hc
    exact .act hc (.handOn h.doSamplingSet)
  | tripAck =>
    simp only [Machine.exec, execTripAck] at hc
    exact .act hc (.handOn h.doTripAck)
  | channelRead =>
    simp only [Machine.exec, execChannelRead] at hc
    exact .act hc (.handOn h.doChannelRead)
  | rateTableSet =>
    simp only [Machine.exec, execRateTableSet] at hc
    exact .act hc (.handOn h.doRateTableSet)
  | recipeThermalSet =>
    simp only [Machine.exec, execRecipeThermalSet] at hc
    exact .act hc (.handOn h.doRecipeThermalSet)
  | recipePackingSet =>
    simp only [Machine.exec, execRecipePackingSet] at hc
    exact .act hc (.handOn h.doRecipePackingSet)
  | classMapSet =>
    simp only [Machine.exec, execClassMapSet] at hc
    exact .act hc (.handOn h.doClassMapSet)
  | deadTimeSet =>
    simp only [Machine.exec, execDeadTimeSet] at hc
    exact .act hc (.handOn h.doDeadTimeSet)
  | laneOpen =>
    simp only [Machine.exec, execLaneOpen] at hc
    exact .act hc (.handOn h.doLaneOpen)
  | laneClose =>
    simp only [Machine.exec, execLaneClose] at hc
    exact .act hc (.handOn h.doLaneClose)
  | bagRead =>
    simp only [Machine.exec, execBagRead] at hc
    exact .act hc (.handOn h.doBagRead)
  | bagWeight =>
    simp only [Machine.exec, execBagWeight] at hc
    exact .act hc (.handOn h.doBagWeight)
  | palletClose =>
    simp only [Machine.exec, execPalletClose] at hc
    exact .act hc (.handOn h.doPalletClose)
  | palletRead =>
    simp only [Machine.exec, execPalletRead] at hc
    exact .act hc (.handOn h.doPalletRead)
  | shuttleReset =>
    simp only [Machine.exec, execShuttleReset] at hc
    exact .act hc (.handOn h.doShuttleReset)
  | jobLimitSet =>
    simp only [Machine.exec, execJobLimitSet] at hc
    exact .act hc (.handOn h.doJobLimitSet)
  | proveStart =>
    simp only [Machine.exec, execProveStart] at hc
    exact .act hc (.handOn h.doProveStart)
  | proveAbort =>
    simp only [Machine.exec, execProveAbort] at hc
    exact .act hc (.handOn h.doProveAbort)
  | provingRead =>
    simp only [Machine.exec, execProvingRead] at hc
    exact .act hc (.handOn fun _ => h)
  | commission =>
    simp only [Machine.exec, execCommission] at hc
    exact .act hc (.handOn h.doCommission)
  | unlock =>
    simp only [Machine.exec, execUnlock] at hc
    exact .act hc (.handOn h.doUnlock)
  | storeSave =>
    simp only [Machine.exec, execStoreSave] at hc
    exact .act hc (.handOn h.doStoreSave)
  | unknownKind =>
    simp only [Machine.exec, execUnknownKind] at hc
    exact .act hc h.answerUnknown
  | frameReceived bytes =>
    simp only [Machine.exec, execFrameReceived] at hc
    exact .act hc (h.onLink _ fun hb => hb.receiveBytes ..)
  | interByteGapTimeout =>
    simp only [Machine.exec, execInterByteGapTimeout] at hc
    exact .act hc (h.onLink _ fun hb => hb.dropGap _)
  | frameSent =>
    simp only [Machine.exec, execFrameSent] at hc
    exact .act hc h.frameSent
  | baseMillisecond seen =>
    simp only [Machine.exec, execBaseMillisecond] at hc
    exact .guarded hc fun hc => .act hc (h.millisecond seen)
  | encoderPulse input presence =>
    simp only [Machine.exec, execEncoderPulse] at hc
    exact .guarded hc fun hc => .act hc (h.encoder input presence)
  | pollRoundStart =>
    simp only [Machine.exec, execPollRoundStart] at hc
    refine .act hc ?_
    split <;> exact h
  | sampleFrame bytes =>
    simp only [Machine.exec, execSampleFrame] at hc
    exact .act hc (h.sampleBytes bytes)
  | answerWindowClose =>
    simp only [Machine.exec, execAnswerWindowClose] at hc
    exact .act hc h.closeWindow
  | externalTripEdge input =>
    simp only [Machine.exec, execExternalTripEdge] at hc
    exact .guarded hc fun hc => .act hc (h.deliver fun _ _ ht => ht.externalEdge ..)
  | stallTimerExpiry track =>
    simp only [Machine.exec, execStallTimerExpiry] at hc
    exact .guarded hc fun hc => .act hc (h.expire fun _ ht => RangesKept.raiseHalt ht.of_eq _)
  | drainTimerExpiry =>
    simp only [Machine.exec, execDrainTimerExpiry] at hc
    refine .act hc (h.expire fun t ht => ?_)
    split
    · exact ht.enterHalted _
    · exact ht
  | gateTimerExpiry =>
    simp only [Machine.exec, execGateTimerExpiry] at hc
    exact .act hc (h.expire fun _ ht => ht.of_eq)
  | exposureTimerExpiry record =>
    simp only [Machine.exec, execExposureTimerExpiry] at hc
    exact .guarded hc fun hc => .act hc (h.expire fun _ ht => ht.exposureExpired record)
  | shuttleJobTimerExpiry =>
    simp only [Machine.exec, execShuttleJobTimerExpiry] at hc
    refine .act hc (h.expire fun t ht => ?_)
    split
    · exact ht.faultShuttle _
    · exact ht
  | acceptEdge =>
    simp only [Machine.exec, execAcceptEdge] at hc
    refine .act hc (h.deliver fun e t ht => ?_)
    split
    · exact RangesKept.accepted ht.of_eq
    · exact ht.of_eq
  | loadedEdge =>
    simp only [Machine.exec, execLoadedEdge] at hc
    refine .act hc (h.deliver fun e t ht => ?_)
    split
    · exact RangesKept.loaded ht.of_eq
    · exact ht.of_eq
  | doneEdge =>
    simp only [Machine.exec, execDoneEdge] at hc
    refine .act hc (h.deliver fun e t ht => ?_)
    split
    · exact RangesKept.jobDone ht.of_eq
    · exact ht.of_eq
  | faultEdge =>
    simp only [Machine.exec, execFaultEdge] at hc
    refine .act hc (h.deliver fun e t ht => ?_)
    split
    · exact RangesKept.faultShuttle ht.of_eq _
    · exact ht.of_eq
  | doorEyeEdge =>
    simp only [Machine.exec, execDoorEyeEdge] at hc
    refine .act hc (h.deliver fun e t ht => ?_)
    split
    · exact ht.doorEdge _
    · exact ht
  | sealEdge lane =>
    simp only [Machine.exec, execSealEdge] at hc
    refine .guarded hc fun hc => .act hc (h.deliver fun e t ht => ?_)
    split
    · exact ht.sealLane ..
    · exact ht
  | readyEdge lane =>
    simp only [Machine.exec, execReadyEdge] at hc
    exact .guarded hc fun hc => .act hc (h.deliver fun _ _ ht => ht.of_eq)
  | commissionKeyEdge =>
    simp only [Machine.exec, execCommissionKeyEdge] at hc
    exact .act hc (h.deliver fun _ _ ht => ht.of_eq)
  | saveEnd ok =>
    simp only [Machine.exec, execSaveEnd] at hc
    refine .act hc ?_
    split
    · exact h.endSave ..
    · exact h
  | lineResetPinAssert =>
    simp only [Machine.exec, execLineResetPinAssert] at hc
    refine .act hc ?_
    split
    · exact h
    · exact h.assertPin
  | lineResetPinRelease =>
    simp only [Machine.exec, execLineResetPinRelease] at hc
    refine .act hc ?_
    split
    · exact h.releasePin
    · exact h
  | powerOn seen a b =>
    rw [execPowerOn_next hc]
    exact (RangesKept.powerUp s s seen (baudOf a b)).finish
  | powerLoss =>
    simp only [Machine.exec, execPowerLoss] at hc
    exact .act hc (.powerDown s s)
  | brokenCharacter =>
    simp only [Machine.exec, execBrokenCharacter] at hc
    exact .act hc h

theorem RangesKept.step {s t : State} (hstep : step s = .next t) : RangesKept s t := by
  unfold Machine.step at hstep
  split at hstep
  · cases hstep
    exact .refl s
  · next c rest _ =>
    exact RangesKept.exec (s := { s with pending := rest }) hstep

/-- Settles O56: the step carries the ranges of the time base over, and apart from them the bounds of the link. -/
theorem rangesAreKept : Obligations.RangesAreKept := by
  refine ⟨fun s t hs hstep => ?_, fun s t hs hstep => ?_⟩ <;> obtain ⟨htime, hlink⟩ := RangesKept.step hstep
  · exact (timeInRange_iff t).mpr (htime ((timeInRange_iff s).mp hs))
  · exact (linkInBounds_iff t).mpr (hlink ((linkInBounds_iff s).mp hs))

end Sys2Proof.Machine
end

section
/-! ## One base millisecond (R15, R17, R18, R25, R29) -/

namespace Sys2Proof.Machine

-- One declaration after the other, so that the text needs one thread for them and not one each.
set_option Elab.async false

/-! ### Line time and timers -/

/-- R18: the step of line time and the accumulator after it, by the sum of accumulator and trim. -/
theorem TimeUnit.step_eq (u : TimeUnit) : u.step =
    if u.accumulator + u.trim.natAbs < 1000000 then (1, u.accumulator + u.trim.natAbs)
    else (if 0 < u.trim then 2 else 0, u.accumulator + u.trim.natAbs - 1000000) := by
  by_cases hsum : u.accumulator + u.trim.natAbs < 1000000
  · rw [if_pos hsum]
    exact TimeUnit.step_below hsum
  · rw [if_neg hsum]
    exact TimeUnit.step_wrap (Nat.le_of_not_lt hsum)

theorem TimeUnit.advance_lineTime (u : TimeUnit) : u.advance.lineTime =
    min (u.lineTime + if u.accumulator + u.trim.natAbs < 1000000 then 1 else if 0 < u.trim then 2 else 0) 281474976710655 := by
  show min (u.lineTime + u.step.1) Config.lineTimeMax = _
  rw [TimeUnit.step_eq, apply_ite Prod.fst]
  rfl

theorem TimeUnit.advance_accumulator (u : TimeUnit) : u.advance.accumulator =
    if u.accumulator + u.trim.natAbs < 1000000 then u.accumulator + u.trim.natAbs
    else u.accumulator + u.trim.natAbs - 1000000 := by
  show u.step.2 = _
  rw [TimeUnit.step_eq, apply_ite Prod.snd]

/-- R25: the timers that stay ARMED are those whose due lies ahead. -/
theorem TimeUnit.test_timers (u : TimeUnit) (pin : Bool) :
    (u.test pin).timers = u.timers.filter fun e => decide (u.lineTime < e.2) :=
  List.filter_congr fun e _ => by rw [← decide_not, decide_eq_decide, Nat.not_le]

/-! ### The input filters (R29) -/

/-- R29: a filter takes its edge at the fifth sample in a row that differs from its level. -/
theorem Filter.observe_taken (f : Filter) (i : FieldInput) (asserted : Bool) (now : Nat) :
    (f.observe i asserted now).2 = decide (asserted ≠ f.level ∧ 5 ≤ f.differs + 1) := by
  unfold Filter.observe
  by_cases hlevel : asserted = f.level
  · simp [hlevel]
  · by_cases hrun : f.differs + 1 < Config.filterRun
    · have : ¬5 ≤ f.differs + 1 := Nat.not_le_of_lt hrun
      simp [hlevel, hrun, this]
    · have : 5 ≤ f.differs + 1 := Nat.le_of_not_lt hrun
      simp [hlevel, hrun, this]

/-- R29: the last-edge record is kept for the door eye and the SEAL inputs. -/
theorem Filter.observe_fst (f : Filter) (i : FieldInput) (asserted : Bool) (now : Nat) :
    (f.observe i asserted now).1 =
      if asserted = f.level then { f with differs := 0 }
      else if f.differs + 1 < 5 then { f with differs := f.differs + 1 }
      else ⟨asserted, 0, match i with
        | .doorEye => some (asserted, now)
        | .sealIn _ => some (asserted, now)
        | _ => none⟩ := by
  unfold Filter.observe
  by_cases hlevel : asserted = f.level
  · simp [hlevel]
  · by_cases hrun : f.differs + 1 < Config.filterRun
    · have : f.differs + 1 < 5 := hrun
      simp [hlevel, hrun, this]
    · have : ¬f.differs + 1 < 5 := hrun
      simp only [hlevel, hrun, this, if_false]
      cases i <;> rfl

theorem takenEdges_eq (seen : List FieldInput) (now : Nat) (fs : List (FieldInput × Filter)) :
    takenEdges seen now fs =
      (fs.filter fun e => decide (decide (e.1 ∈ seen) ≠ e.2.level ∧ 5 ≤ e.2.differs + 1)).map fun e =>
        ⟨e.1, decide (e.1 ∈ seen), now⟩ := by
  unfold takenEdges
  rw [List.filter_congr fun e _ => Filter.observe_taken e.2 e.1 _ now]

/-! ### The command -/

/-- R18, R25, R29: every input seen is one of the part's, so the millisecond is taken. -/
theorem exec_baseMillisecond {s : State} {seen : List FieldInput} (hw : s.powered = true) (hseen : ∀ i ∈ seen, i.ok = true) :
    exec (.baseMillisecond seen) s = .next (s.millisecond seen).finish := by
  have hformed : (Instr.baseMillisecond seen).wellFormed = true := List.all_eq_true.mpr hseen
  rw [exec, execBaseMillisecond, if_pos hformed, State.act_powered _ _ hw]

/-- Settles O17: the time base advances, tests its timers and observes its inputs; each part has its equation. -/
theorem baseMillisecondSteps : Obligations.BaseMillisecondSteps := by
  intro s seen hw hseen
  have htime : (s.millisecond seen).finish.time = (s.time.advance.test s.pin).observe seen := State.finish_time _
  refine ⟨_, s.time.advance.lineTime, _, exec_baseMillisecond hw hseen, ?_, rfl, s.time.advance_lineTime, ?_⟩
  · apply State.ext_fields <;> simp [State.millisecond]
  · rw [htime]
    refine ⟨rfl, s.time.advance_accumulator, rfl, rfl, TimeUnit.test_timers _ s.pin, rfl, ?_, ?_⟩
    · exact List.map_congr_left fun e _ => congrArg (Prod.mk e.1) (Filter.observe_fst e.2 e.1 _ _)
    · exact congrArg (s.time.edges ++ ·) (takenEdges_eq ..)

end Sys2Proof.Machine
end

section
/-! ## TIME SET and TIME TRIM (R21, R22, R27, R112) -/

namespace Sys2Proof.Machine

/-! ### Payloads of one number -/

theorem parseTime_of_length {bs : List Byte} (h : bs.length = 6) : parseTime bs = some (leNat bs) := by
  rcases bs with _ | ⟨a, _ | ⟨b, _ | ⟨c, _ | ⟨d, _ | ⟨e, _ | ⟨f, _ | ⟨g, l⟩⟩⟩⟩⟩⟩⟩ <;> simp_all [parseTime]

theorem parseSigned_of_length {bs : List Byte} (h : bs.length = 2) : parseSigned bs = some (leInt bs) := by
  rcases bs with _ | ⟨a, _ | ⟨b, _ | ⟨c, l⟩⟩⟩ <;> simp_all [parseSigned]

theorem parseBagNumber_of_length {bs : List Byte} (h : bs.length = 3) : parseBagNumber bs = some (leNat bs) := by
  rcases bs with _ | ⟨a, _ | ⟨b, _ | ⟨c, _ | ⟨d, l⟩⟩⟩⟩ <;> simp_all [parseBagNumber]

/-- R13: a request whose row says 'Yes' in every line state is taken. -/
theorem taken_of_always {s : State} {r : Request} {f : Frame} (h : AtHand s r f) (hr : ∀ l, r.cell l = .yes) : Taken s r f :=
  taken_of_mem h ((cell_yes_iff ..).mp (hr _))

/-! ### TIME SET -/

theorem exec_timeSet_taken {s : State} {f : Frame} (h : AtHand s .timeSet f) (hf : f.payload.length = 6)
    (hs : s.line.state = .setup ∨ s.line.state = .ready) :
    exec .timeSet s = .next ((doTimeSet (leNat f.payload) s).1.replied f (doTimeSet (leNat f.payload) s).2) :=
  State.act_handOn s .timeSet f parseTime doTimeSet (taken_of_mem h (by simpa [admittedIn] using hs)) _ (parseTime_of_length hf)

/-- Settles O18: in SETUP and READY the value is judged against the ceiling; elsewhere the table refuses. -/
theorem timeSetReplacesLineTime : Obligations.TimeSetReplacesLineTime := by
  intro s f h hf
  refine ⟨fun hs => ⟨fun hle => ?_, fun hgt => ?_⟩, fun hsetup hready => ?_⟩
  · rw [exec_timeSet_taken h hf hs, doTimeSet, if_pos (show leNat f.payload ≤ Config.timeSetMax from hle)]
    rfl
  · rw [exec_timeSet_taken h hf hs, doTimeSet, if_neg (show ¬leNat f.payload ≤ Config.timeSetMax from Nat.not_le_of_lt hgt)]
    rfl
  · exact exec_unavailable rfl h (by simp [payloadFits, hf]) (by simp [admittedIn, hsetup, hready])

/-! ### TIME TRIM -/

theorem exec_timeTrim_taken {s : State} {f : Frame} (h : AtHand s .timeTrim f) (hf : f.payload.length = 2) :
    exec .timeTrim s = .next ((doTimeTrim (leInt f.payload) s).1.replied f (doTimeTrim (leInt f.payload) s).2) :=
  State.act_handOn s .timeTrim f parseSigned doTimeTrim (taken_of_always h fun _ => rfl) _ (parseSigned_of_length hf)

/-- Settles O19: every line state admits the request, and the value decides. -/
theorem timeTrimReplacesTrim : Obligations.TimeTrimReplacesTrim := by
  intro s f h hf
  refine ⟨fun hin => ?_, fun hout => ?_⟩
  · rw [exec_timeTrim_taken h hf, doTimeTrim, if_pos hin]
    rfl
  · rw [exec_timeTrim_taken h hf, doTimeTrim, if_neg hout]
    rfl

end Sys2Proof.Machine
end

section
/-! ## The eight reads of records (R20, R54, R65, R75, R97, R140, R160, R177, R186)

Every line state admits a read; its owner answers from the records and hands back the state it was given. -/

namespace Sys2Proof.Machine

-- One declaration after the other, so that the text needs one thread for them and not one each.
set_option Elab.async false

/-! ### TIME READ and PROVING READ -/

theorem exec_timeRead_taken {s : State} {f : Frame} (h : AtHand s .timeRead f) (hf : f.payload = []) :
    exec .timeRead s = .next (s.replied f (.timeRead s.time.reading)) :=
  State.act_handOn s .timeRead f parseNone doTimeRead (taken_of_always h fun _ => rfl) () (by rw [hf]; rfl)

theorem exec_provingRead_taken {s : State} {f : Frame} (h : AtHand s .provingRead f) (hf : f.payload = []) :
    exec .provingRead s = .next (s.replied f (.provingRead s.provingReply)) :=
  State.act_handOn s .provingRead f parseNone doProvingRead (taken_of_always h fun _ => rfl) () (by rw [hf]; rfl)

/-! ### TRACK READ -/

/-- R2: RUN of a defined track. -/
theorem State.trackRun_of_get? {s : State} {n : Nat} {tr : Track} (h : s.track.tracks.get? n = some tr) :
    s.trackRun n = (s.line.state.runs && !tr.backedUp) := by simp [State.trackRun, h]

theorem exec_trackRead_taken {s : State} {f : Frame} {n a0 a1 c0 c1 : Byte} (h : AtHand s .trackRead f)
    (hf : f.payload = [n, a0, a1, c0, c1]) : exec .trackRead s =
      .next ((doTrackRead (n.toNat, leNat [a0, a1], leNat [c0, c1]) s).1.replied f
        (doTrackRead (n.toNat, leNat [a0, a1], leNat [c0, c1]) s).2) :=
  State.act_handOn s .trackRead f parseTrackRead doTrackRead (taken_of_always h fun _ => rfl) _ (by rw [hf]; rfl)

/-- R54: the checks of TRACK READ, and its reply. -/
theorem doTrackRead_cases (s : State) (n first count : Nat) :
    (s.track.tracks.get? n = none → doTrackRead (n, first, count) s = s.refuse .notFound) ∧
    ∀ tr, s.track.tracks.get? n = some tr →
      (1 ≤ count ∧ count ≤ 400 ∧ first + count ≤ tr.segments →
        doTrackRead (n, first, count) s = (s, .trackRead (s.trackReply n tr first count))) ∧
      (¬(1 ≤ count ∧ count ≤ 400 ∧ first + count ≤ tr.segments) → doTrackRead (n, first, count) s = s.refuse .badValue) := by
  refine ⟨fun hnone => by simp only [doTrackRead, hnone], fun tr htr => ⟨fun hin => ?_, fun hout => ?_⟩⟩
  · simp only [doTrackRead, htr, if_pos hin]
  · simp only [doTrackRead, htr, if_neg hout]

/-! ### CHANNEL READ -/

/-- A byte other than 0 is read as a number other than 0. -/
theorem toNat_ne_zero {c : Byte} (h : c ≠ 0) : c.toNat ≠ 0 := fun e => h (BitVec.eq_of_toNat_eq e)

theorem exec_channelRead_taken {s : State} {f : Frame} {c : Byte} (h : AtHand s .channelRead f) (hf : f.payload = [c]) :
    exec .channelRead s = .next ((doChannelRead c.toNat s).1.replied f (doChannelRead c.toNat s).2) :=
  State.act_handOn s .channelRead f parseByte doChannelRead (taken_of_always h fun _ => rfl) _ (by rw [hf]; rfl)

/-- R97: CHANNEL READ for channel 0, for a channel of the table, and for another number. -/
theorem doChannelRead_cases (s : State) (c : Nat) :
    (c = 0 → doChannelRead c s = (s, .probeSummary s.probeSummary)) ∧
    (∀ ch, c ≠ 0 → s.probe.channels.get? c = some ch → doChannelRead c s = (s, .channelRead (s.channelReply c ch))) ∧
    (c ≠ 0 → s.probe.channels.get? c = none → doChannelRead c s = s.refuse .badValue) := by
  refine ⟨fun hzero => ?_, fun ch hc hch => ?_, fun hc hnone => ?_⟩
  · simp only [doChannelRead, if_pos hzero]
  · simp only [doChannelRead, if_neg hc, hch]
  · simp only [doChannelRead, if_neg hc, hnone]

/-! ### PARCEL READ and LOT READ -/

theorem exec_parcelRead_taken {s : State} {f : Frame} {a b : Byte} (h : AtHand s .parcelRead f) (hf : f.payload = [a, b]) :
    exec .parcelRead s = .next ((doParcelRead (b ++ a) s).1.replied f (doParcelRead (b ++ a) s).2) :=
  State.act_handOn s .parcelRead f parseSeq doParcelRead (taken_of_always h fun _ => rfl) _ (by rw [hf]; rfl)

/-- R65: PARCEL READ of a number no live parcel holds, and of a live parcel's. -/
theorem doParcelRead_cases (s : State) (q : Seq) :
    ((∀ e ∈ s.parcel.parcels, e.2.seq ≠ q) → doParcelRead q s = s.refuse .notFound) ∧
    ∀ k p, s.parcel.parcels.first? (fun _ p => decide (p.seq = q)) = some (k, p) →
      ∃ code, doParcelRead q s = (s, .parcelRead ⟨k, p, code⟩) ∧ ∀ l, s.parcel.lots.get? p.slot = some l → code = l.code := by
  refine ⟨fun hfree => ?_, fun k p hfirst => ?_⟩
  · have hnone : s.parcel.find q = none := Table.first?_none fun e he => decide_eq_false (hfree e he)
    simp only [doParcelRead, hnone]
  · have hfound : s.parcel.find q = some (k, p) := hfirst
    simp only [doParcelRead, hfound]
    exact ⟨_, rfl, fun l hl => by rw [hl]⟩

theorem exec_lotRead_taken {s : State} {f : Frame} {k : Byte} (h : AtHand s .lotRead f) (hf : f.payload = [k]) :
    exec .lotRead s = .next ((doLotRead k.toNat s).1.replied f (doLotRead k.toNat s).2) :=
  State.act_handOn s .lotRead f parseByte doLotRead (taken_of_always h fun _ => rfl) _ (by rw [hf]; rfl)

/-- R71: the state of a FREE slot, and of a slot with a lot. -/
theorem ParcelUnit.slotState_none {u : ParcelUnit} {slot : Nat} (h : u.lots.get? slot = none) : u.slotState slot = .free := by
  simp [ParcelUnit.slotState, h]

theorem ParcelUnit.slotState_some {u : ParcelUnit} {slot : Nat} {l : Lot} (h : u.lots.get? slot = some l) :
    u.slotState slot = if l.retired.isSome then .retiring else .active := by simp only [ParcelUnit.slotState, h]

/-! ### BAG READ -/

theorem exec_bagRead_taken {s : State} {f : Frame} (h : AtHand s .bagRead f) (hf : f.payload.length = 3) :
    exec .bagRead s = .next ((doBagRead (leNat f.payload) s).1.replied f (doBagRead (leNat f.payload) s).2) :=
  State.act_handOn s .bagRead f parseBagNumber doBagRead (taken_of_always h fun _ => rfl) _ (parseBagNumber_of_length hf)

/-- R140: BAG READ of number 0, of a bag in use, and of another number. -/
theorem doBagRead_cases (s : State) (number : Nat) :
    (number = 0 → doBagRead number s = (s, .distribution s.distributionSummary)) ∧
    (∀ k b, number ≠ 0 → s.dist.findBag number = some (k, b) → doBagRead number s = (s, .bagRead k b)) ∧
    (number ≠ 0 → (∀ e ∈ s.dist.bags, e.2.number ≠ number) → doBagRead number s = s.refuse .notFound) := by
  refine ⟨fun hzero => ?_, fun k b hne hfound => ?_, fun hne hfree => ?_⟩
  · simp only [doBagRead, if_pos hzero]
  · simp only [doBagRead, if_neg hne, hfound]
  · have hnone : s.dist.findBag number = none := Table.first?_none fun e he => decide_eq_false (hfree e he)
    simp only [doBagRead, if_neg hne, hnone]

/-! ### PALLET READ -/

/-- R160, R186: the part a PALLET READ names after the pallet's number, where it names one. -/
def partField : List Byte → Option Nat
  | [] => none
  | p :: _ => some p.toNat

theorem parsePalletRead_cons {a b : Byte} {part : List Byte} (h : part.length ≤ 1) :
    parsePalletRead (a :: b :: part) = some (leNat [a, b], partField part) := by
  rcases part with _ | ⟨p, _ | ⟨q, rest⟩⟩
  · rfl
  · rfl
  · simp at h

/-- R186: the parts 1 and 2 are all there are; no part is part 1. -/
theorem partField_getD {part : List Byte} (h : part.length ≤ 1) :
    (part = [] ∨ part = [1] → (partField part).getD 1 = 1) ∧ (part = [2] → (partField part).getD 1 = 2) ∧
      (part ≠ [] → part ≠ [1] → part ≠ [2] → (partField part).getD 1 ≠ 1 ∧ (partField part).getD 1 ≠ 2) := by
  refine ⟨by rintro (rfl | rfl) <;> rfl, by rintro rfl; rfl, fun h0 h1 h2 => ?_⟩
  rcases part with _ | ⟨p, _ | ⟨q, rest⟩⟩
  · exact absurd rfl h0
  · exact ⟨fun e => h1 (congrArg (fun x => [x]) (BitVec.eq_of_toNat_eq e)),
      fun e => h2 (congrArg (fun x => [x]) (BitVec.eq_of_toNat_eq e))⟩
  · simp at h

/-- R159: part 2 holds the entries after the sixtieth, any other the first sixty. -/
theorem partEntries_partField (p : Pallet) {part : List Byte} (h : part = [] ∨ part = [1] ∨ part = [2]) :
    p.partEntries ((partField part).getD 1) = if part = [2] then p.bags.drop 60 else p.bags.take 60 := by
  rcases h with rfl | rfl | rfl <;> rfl

theorem exec_palletRead_taken {s : State} {f : Frame} {a b : Byte} {part : List Byte} (h : AtHand s .palletRead f)
    (hf : f.payload = a :: b :: part) (hpart : part.length ≤ 1) : exec .palletRead s =
      .next ((doPalletRead (leNat [a, b], partField part) s).1.replied f (doPalletRead (leNat [a, b], partField part) s).2) :=
  State.act_handOn s .palletRead f parsePalletRead doPalletRead (taken_of_always h fun _ => rfl) _
    (by rw [hf]; exact parsePalletRead_cons hpart)

theorem doPalletRead_badPart (s : State) (number : Nat) {field : Option Nat} (h : field.getD 1 ≠ 1 ∧ field.getD 1 ≠ 2) :
    doPalletRead (number, field) s = s.refuse .badValue := by simp only [doPalletRead, if_pos h]

/-- R160: with part 1 or 2, PALLET READ of number 0, of a pallet in use, and of another number. -/
theorem doPalletRead_cases (s : State) (number : Nat) {field : Option Nat} (h : field.getD 1 = 1 ∨ field.getD 1 = 2) :
    (number = 0 → doPalletRead (number, field) s = (s, .transfer s.transferSummary)) ∧
    (∀ k p, number ≠ 0 → s.transfer.findPallet number = some (k, p) →
      doPalletRead (number, field) s = (s, .palletRead (s.palletReply k p (field.getD 1)))) ∧
    (number ≠ 0 → (∀ e ∈ s.transfer.pallets, e.2.number ≠ number) → doPalletRead (number, field) s = s.refuse .notFound) := by
  have hpart : ¬(field.getD 1 ≠ 1 ∧ field.getD 1 ≠ 2) := fun hbad => h.elim hbad.1 hbad.2
  refine ⟨fun hzero => ?_, fun k p hne hfound => ?_, fun hne hfree => ?_⟩
  · simp only [doPalletRead, if_neg hpart, if_pos hzero]
  · simp only [doPalletRead, if_neg hpart, if_neg hne, hfound]
  · have hnone : s.transfer.findPallet number = none := Table.first?_none fun e he => decide_eq_false (hfree e he)
    simp only [doPalletRead, if_neg hpart, if_neg hne, hnone]

/-! ### The statement -/

/-- Settles O21: each read is taken in every line state, and its owner's answer is read off its cases. -/
theorem recordsAreRead : Obligations.RecordsAreRead := by
  refine ⟨⟨fun s f h hf => exec_timeRead_taken h hf, fun s f h hf => ?_, fun s f n a0 a1 c0 c1 h hf => ?_,
    fun s f c h hf => ?_⟩, fun s f a b h hf => ?_, fun s f k h hf => ?_, fun s f h hf => ?_, fun s f a b part h hf hpart => ?_⟩
  · exact ⟨_, exec_provingRead_taken h hf, rfl, rfl, rfl, rfl, rfl, rfl⟩
  · obtain ⟨hnone, hsome⟩ := doTrackRead_cases s n.toNat (leNat [a0, a1]) (leNat [c0, c1])
    rw [exec_trackRead_taken h hf]
    refine ⟨fun hn => ?_, fun tr htr => ?_⟩
    · rw [hnone hn]
      rfl
    · obtain ⟨hread, hrefused⟩ := hsome tr htr
      refine ⟨fun hin => ?_, fun hout => ?_⟩
      · rw [hread hin, State.trackReply, State.trackRun_of_get? htr]
        rfl
      · rw [hrefused hout]
        rfl
  · obtain ⟨hzero, hsome, hnone⟩ := doChannelRead_cases s c.toNat
    rw [exec_channelRead_taken h hf]
    refine ⟨fun hc => ?_, fun ch hc hch => ?_, fun hc hch => ?_⟩
    · rw [hzero (congrArg BitVec.toNat hc)]
      exact ⟨_, rfl, rfl, rfl, rfl, rfl, rfl, rfl⟩
    · rw [hsome ch (toNat_ne_zero hc) hch]
      exact ⟨_, rfl, rfl, decide_eq_true_iff, rfl⟩
    · rw [hnone (toNat_ne_zero hc) hch]
      rfl
  · obtain ⟨hnone, hsome⟩ := doParcelRead_cases s (b ++ a)
    rw [exec_parcelRead_taken h hf]
    refine ⟨fun hfree => ?_, fun k p hfirst => ?_⟩
    · rw [hnone hfree]
      rfl
    · obtain ⟨code, hread, hcode⟩ := hsome k p hfirst
      rw [hread]
      exact ⟨_, rfl, rfl, rfl, hcode⟩
  · rw [exec_lotRead_taken h hf]
    refine ⟨fun hk => ?_, fun hk => ?_⟩
    · rw [doLotRead, if_neg (Nat.not_le_of_lt hk)]
      rfl
    · rw [doLotRead, if_pos hk]
      refine ⟨_, rfl, rfl, fun hnone => ⟨ParcelUnit.slotState_none hnone, by rw [hnone]; rfl⟩, fun l hl => ?_⟩
      exact ⟨ParcelUnit.slotState_some hl, _, by rw [hl]; rfl⟩
  · obtain ⟨hzero, hsome, hnone⟩ := doBagRead_cases s (leNat f.payload)
    rw [exec_bagRead_taken h hf]
    refine ⟨fun hn => ?_, fun k b hn hb => ?_, fun hn hfree => ?_⟩
    · rw [hzero hn]
      exact ⟨_, rfl, rfl, rfl, rfl, rfl, rfl, rfl, rfl, rfl, rfl, rfl, List.map_map⟩
    · rw [hsome k b hn hb]
    · rw [hnone hn hfree]
      rfl
  · obtain ⟨hone, htwo, hbad⟩ := partField_getD hpart
    rw [exec_palletRead_taken h hf hpart]
    refine ⟨fun h0 h1 h2 => ?_, fun hin => ?_⟩
    · rw [doPalletRead_badPart s _ (hbad h0 h1 h2)]
      rfl
    · have hgood : (partField part).getD 1 = 1 ∨ (partField part).getD 1 = 2 :=
        hin.elim (fun h0 => .inl (hone (.inl h0))) fun h12 => h12.elim (fun h1 => .inl (hone (.inr h1))) fun h2 => .inr (htwo h2)
      obtain ⟨hzero, hsome, hnone⟩ := doPalletRead_cases s (leNat [a, b]) hgood
      refine ⟨fun hn => ?_, fun k p hn hp => ?_, fun hn hfree => ?_⟩
      · rw [hzero hn]
        exact ⟨_, rfl, rfl, rfl, rfl, rfl, rfl, rfl⟩
      · rw [hsome k p hn hp]
        exact ⟨_, rfl, rfl, rfl, rfl, rfl, partEntries_partField p hin⟩
      · rw [hnone hn hfree]
        rfl

end Sys2Proof.Machine
end

section
/-! ## Tables and numbers kept (R33, R80, R119, R122)

A table's entries come and go by a record written, deleted or changed, and each leaves the canonical form; a table of numbered
units is only ever changed record by record, apart from TRACK DEFINE. `TablesKept` follows both through the parts of a step; this
file has the rule for each table, the updates of one block, the shared operations, and the halts and trip events. -/

namespace Sys2Proof.Machine

-- One declaration after the other, so that the text needs one thread for them and not one each.
set_option Elab.async false

/-! ### Numbers of a table -/

theorem numbered_mapVals {α β : Type} (n : Nat) (f : Nat → α → β) (t : Table α) : numbered n (t.mapVals f) = numbered n t := by
  simp [numbered]

theorem numbered_modify {α : Type} (n : Nat) (t : Table α) (k : Nat) (f : α → α) : numbered n (t.modify k f) = numbered n t :=
  numbered_mapVals ..

theorem inOrder_modify {α : Type} (t : Table α) (k : Nat) (f : α → α) : inOrder (t.modify k f) = inOrder t := inOrder_mapVals ..

/-- R33: what it is for the numbers of a table to run from 1 on. -/
theorem inOrder_iff {α : Type} (t : Table α) :
    inOrder t = true ↔ (t.map fun e => e.1) = List.range' 1 t.length ∧ t.length ≤ 4 := by
  rw [inOrder, Bool.and_eq_true, decide_eq_true_iff, decide_eq_true_iff, List.range'_eq_map_range]
  simp only [Nat.add_comm 1]

/-- A record written under a number of the run, or under the next one. -/
theorem Table.keys_put_range' {α : Type} {t : Table α} {j n k : Nat} (h : (t.map fun e => e.1) = List.range' j n) (v : α)
    (hj : j ≤ k) (hk : k ≤ j + n) : ((t.put k v).map fun e => e.1) = List.range' j (max n (k - j + 1)) := by
  induction t generalizing j n with
  | nil =>
    obtain rfl : n = 0 := by simpa using (congrArg List.length h).symm
    obtain rfl : k = j := by omega
    simp [Table.put]
  | cons e t ih =>
    obtain ⟨m, w⟩ := e
    obtain ⟨n, rfl⟩ : ∃ n', n = n' + 1 := Nat.exists_eq_succ_of_ne_zero fun e => by subst e; simp at h
    rw [List.range'_succ, List.map_cons] at h
    obtain ⟨rfl, ht⟩ := List.cons.inj h
    by_cases hkm : k = m
    · subst hkm
      rw [Table.put, if_neg (Nat.lt_irrefl k), if_pos rfl, List.map_cons, ht, ← List.range'_succ]
      congr 1
      omega
    · rw [Table.put, if_neg (by omega), if_neg hkm, List.map_cons, ih ht (by omega) (by omega), ← List.range'_succ]
      congr 1
      omega

/-- The record of the last number of the run deleted. -/
theorem Table.keys_del_range' {α : Type} {t : Table α} {j n : Nat} (h : (t.map fun e => e.1) = List.range' j (n + 1)) :
    ((t.del (j + n)).map fun e => e.1) = List.range' j n := by
  induction t generalizing j n with
  | nil => simp at h
  | cons e t ih =>
    obtain ⟨m, w⟩ := e
    rw [List.range'_succ, List.map_cons] at h
    obtain ⟨rfl, ht⟩ := List.cons.inj h
    cases n with
    | zero =>
      rw [Table.del, if_pos (Nat.add_zero m)]
      exact ht
    | succ n =>
      have hlast : m + (n + 1) = m + 1 + n := by omega
      rw [Table.del, if_neg (by omega), hlast, List.map_cons, ih ht, ← List.range'_succ]

/-- R33, R34: a definition of a track in order, or of the next one. -/
theorem inOrder_put {α : Type} {t : Table α} (h : inOrder t = true) {k : Nat} (h1 : 1 ≤ k) (h4 : k ≤ 4) (hk : k ≤ t.length + 1)
    (v : α) : inOrder (t.put k v) = true := by
  obtain ⟨hkeys, hlen⟩ := (inOrder_iff t).mp h
  have hput := Table.keys_put_range' hkeys v h1 (by omega)
  have hlength : (t.put k v).length = max t.length (k - 1 + 1) := by simpa using congrArg List.length hput
  exact (inOrder_iff _).mpr ⟨by rw [hput, hlength], by omega⟩

/-- R33, R34: the removal of the last track. -/
theorem inOrder_del {α : Type} {t : Table α} (h : inOrder t = true) : inOrder (t.del t.length) = true := by
  obtain ⟨hkeys, hlen⟩ := (inOrder_iff t).mp h
  cases hn : t.length with
  | zero =>
    rw [List.length_eq_zero_iff.mp hn]
    rfl
  | succ n =>
    rw [hn] at hkeys
    have hdel := Table.keys_del_range' hkeys
    have hlength : (t.del (1 + n)).length = n := by simpa using congrArg List.length hdel
    rw [Nat.add_comm n 1]
    exact (inOrder_iff _).mpr ⟨by rw [hdel, hlength], by omega⟩

/-! ### The tables of each unit -/

/-- The timers keep their form from `u` to `v`. -/
def TimeUnit.KeepsTables (u v : TimeUnit) : Prop := u.timers.wf = true → v.timers.wf = true

/-- R33: the cells keep their form and the tracks their order. -/
def TrackUnit.KeepsTables (u v : TrackUnit) : Prop :=
  (u.cells.wf = true → v.cells.wf = true) ∧ (inOrder u.tracks = true → inOrder v.tracks = true)

/-- Parcels and lots keep their form. -/
def ParcelUnit.KeepsTables (u v : ParcelUnit) : Prop :=
  (u.parcels.wf = true → v.parcels.wf = true) ∧ (u.lots.wf = true → v.lots.wf = true)

/-- R80: the channels keep their numbers. -/
def ProbeUnit.KeepsTables (u v : ProbeUnit) : Prop := numbered 16 u.channels = true → numbered 16 v.channels = true

/-- R119, R122: lanes are numbered, and lane sets are drawn from them. -/
def DistributionUnit.Numbered (u : DistributionUnit) : Prop :=
  numbered 4 u.lanes = true ∧ lanesInRange u.live = true ∧ (u.staged.all lanesInRange) = true

/-- R119, R122: the bags keep their form, lanes and lane sets their numbers. -/
def DistributionUnit.KeepsTables (u v : DistributionUnit) : Prop :=
  (u.bags.wf = true → v.bags.wf = true) ∧ (u.Numbered → v.Numbered)

/-- The pallets keep their form. -/
def TransferUnit.KeepsTables (u v : TransferUnit) : Prop := u.pallets.wf = true → v.pallets.wf = true

/-- R33, R80, R119: what an image or a save in flight holds is numbered. -/
def StoredSet.Numbered (d : StoredSet) : Prop := inOrder d.tracks = true ∧ d.inRange = true

/-- R33, R80, R119: image and save in flight are numbered. -/
def StoreUnit.Numbered (u : StoreUnit) : Prop :=
  (∀ d, u.image = some d → d.Numbered) ∧ ∀ v, u.save = some v → v.image.Numbered

/-- R33, R80, R119, R122: the numbers of the units, in the working settings and in the store. -/
def State.Numbered (s : State) : Prop :=
  inOrder s.track.tracks = true ∧ numbered 16 s.probe.channels = true ∧ s.dist.Numbered ∧ s.store.Numbered

theorem numbered_iff (s : State) : s.Numbered ↔ TracksInOrder s ∧ UnitsNumbered s := by
  simp only [State.Numbered, TracksInOrder, UnitsNumbered, DistributionUnit.Numbered, StoreUnit.Numbered, StoredSet.Numbered,
    Option.all_eq_true]
  grind

/-- The form of the tables and the numbers of the units, each on its own, carry over from `s₀` to `s`. -/
def TablesKept (s₀ s : State) : Prop := (TablesCanonical s₀ → TablesCanonical s) ∧ (s₀.Numbered → s.Numbered)

theorem TablesKept.refl (s : State) : TablesKept s s := ⟨id, id⟩

section Shared
variable {s₀ s : State} (h : TablesKept s₀ s)
include h

/-! ### Updates of one block -/

theorem TablesKept.onTime {f : TimeUnit → TimeUnit} (hf : s.time.KeepsTables (f s.time)) : TablesKept s₀ (s.onTime f) := by
  refine ⟨fun h₀ => ?_, h.2⟩
  obtain ⟨htimers, hrest⟩ := h.1 h₀
  exact ⟨hf htimers, hrest⟩

theorem TablesKept.onTrack {f : TrackUnit → TrackUnit} (hf : s.track.KeepsTables (f s.track)) : TablesKept s₀ (s.onTrack f) := by
  obtain ⟨hcells, htracks⟩ := hf
  refine ⟨fun h₀ => ?_, fun h₀ => ?_⟩
  · obtain ⟨htimers, hc, hrest⟩ := h.1 h₀
    exact ⟨htimers, hcells hc, hrest⟩
  · obtain ⟨ht, hrest⟩ := h.2 h₀
    exact ⟨htracks ht, hrest⟩

theorem TablesKept.onParcel {f : ParcelUnit → ParcelUnit} (hf : s.parcel.KeepsTables (f s.parcel)) :
    TablesKept s₀ (s.onParcel f) := by
  obtain ⟨hparcels, hlots⟩ := hf
  refine ⟨fun h₀ => ?_, h.2⟩
  obtain ⟨htimers, hcells, hp, hl, hrest⟩ := h.1 h₀
  exact ⟨htimers, hcells, hparcels hp, hlots hl, hrest⟩

theorem TablesKept.onProbe {f : ProbeUnit → ProbeUnit} (hf : s.probe.KeepsTables (f s.probe)) : TablesKept s₀ (s.onProbe f) := by
  refine ⟨h.1, fun h₀ => ?_⟩
  obtain ⟨htracks, hchannels, hrest⟩ := h.2 h₀
  exact ⟨htracks, hf hchannels, hrest⟩

theorem TablesKept.onDist {f : DistributionUnit → DistributionUnit} (hf : s.dist.KeepsTables (f s.dist)) :
    TablesKept s₀ (s.onDist f) := by
  obtain ⟨hbags, hnumbers⟩ := hf
  refine ⟨fun h₀ => ?_, fun h₀ => ?_⟩
  · obtain ⟨htimers, hcells, hparcels, hlots, hb, hpallets⟩ := h.1 h₀
    exact ⟨htimers, hcells, hparcels, hlots, hbags hb, hpallets⟩
  · obtain ⟨htracks, hchannels, hdist, hstore⟩ := h.2 h₀
    exact ⟨htracks, hchannels, hnumbers hdist, hstore⟩

theorem TablesKept.onTransfer {f : TransferUnit → TransferUnit} (hf : s.transfer.KeepsTables (f s.transfer)) :
    TablesKept s₀ (s.onTransfer f) := by
  refine ⟨fun h₀ => ?_, h.2⟩
  obtain ⟨htimers, hcells, hparcels, hlots, hbags, hpallets⟩ := h.1 h₀
  exact ⟨htimers, hcells, hparcels, hlots, hbags, hf hpallets⟩

theorem TablesKept.onStore {f : StoreUnit → StoreUnit} (hf : s.Numbered → (f s.store).Numbered) : TablesKept s₀ (s.onStore f) := by
  refine ⟨h.1, fun h₀ => ?_⟩
  obtain ⟨htracks, hchannels, hdist, -⟩ := h.2 h₀
  exact ⟨htracks, hchannels, hdist, hf (h.2 h₀)⟩

/-! ### Changes of records -/

theorem TablesKept.onTrackRec (n : Nat) (f : Track → Track) : TablesKept s₀ (s.onTrackRec n f) :=
  h.onTrack ⟨id, fun ht => (inOrder_modify ..).trans ht⟩

theorem TablesKept.onTracks (f : Nat → Track → Track) :
    TablesKept s₀ (s.onTrack fun u => { u with tracks := u.tracks.mapVals f }) :=
  h.onTrack ⟨id, fun ht => (inOrder_mapVals ..).trans ht⟩

theorem TablesKept.onParcels (f : Nat → Parcel → Parcel) :
    TablesKept s₀ (s.onParcel fun u => { u with parcels := u.parcels.mapVals f }) :=
  h.onParcel ⟨fun hp => (Table.wf_mapVals ..).trans hp, id⟩

theorem TablesKept.onLot (slot : Nat) (f : Lot → Lot) : TablesKept s₀ (s.onLot slot f) :=
  h.onParcel ⟨id, fun hl => (Table.wf_modify ..).trans hl⟩

theorem TablesKept.newLot (slot : Nat) (l : Lot) : TablesKept s₀ (s.newLot slot l) :=
  h.onParcel ⟨id, fun hl => Table.wf_put _ _ hl⟩

theorem TablesKept.onChannel (c : Nat) (f : Channel → Channel) : TablesKept s₀ (s.onChannel c f) :=
  h.onProbe fun hc => (numbered_modify ..).trans hc

theorem TablesKept.onBags (f : Table Bag → Table Bag) (hf : s.dist.bags.wf = true → (f s.dist.bags).wf = true) :
    TablesKept s₀ (s.onDist fun u => { u with bags := f u.bags }) :=
  h.onDist ⟨hf, id⟩

theorem TablesKept.onLanes (f : DistributionUnit → Nat → Lane → Lane) :
    TablesKept s₀ (s.onDist fun u => { u with lanes := u.lanes.mapVals (f u) }) := by
  refine h.onDist ⟨id, ?_⟩
  rintro ⟨hlanes, hmaps⟩
  exact ⟨(numbered_mapVals ..).trans hlanes, hmaps⟩

theorem TablesKept.onLane (n : Nat) (f : Lane → Lane) : TablesKept s₀ (s.onLane n f) := h.onLanes fun _ => _

theorem TablesKept.onPallet (r : Nat) (f : Pallet → Pallet) : TablesKept s₀ (s.onPallet r f) :=
  h.onTransfer fun hp => (Table.wf_modify ..).trans hp

/-! ### Timers (R24, R26) -/

theorem TablesKept.arm (id : TimerId) (due : Nat) : TablesKept s₀ (s.arm id due) := h.onTime fun ht => Table.wf_put _ _ ht

theorem TablesKept.armFor (id : TimerId) (ms : Nat) : TablesKept s₀ (s.armFor id ms) := h.arm ..

theorem TablesKept.cancel (id : TimerId) : TablesKept s₀ (s.cancel id) := h.onTime fun ht => Table.wf_del _ ht

theorem TablesKept.cancelStalls : TablesKept s₀ s.cancelStalls := (((h.cancel _).cancel _).cancel _).cancel _

theorem TablesKept.armStalls : TablesKept s₀ s.armStalls := by
  refine State.each_induct (TablesKept s₀) _ _ _ h fun e _ t ht => ?_
  split
  · exact ht
  · exact ht.armFor ..

/-! ### Lots (R59, R60, R73) -/

theorem TablesKept.enterSummary (slot : Nat) : TablesKept s₀ (s.enterSummary slot) := by
  unfold State.enterSummary
  split
  · exact TablesKept.onParcel (s := s.enter _) h ⟨id, fun hl => Table.wf_del _ hl⟩
  · exact h

theorem TablesKept.offerSummary (slot : Nat) : TablesKept s₀ (s.offerSummary slot) := by
  unfold State.offerSummary
  split
  · exact h.enterSummary slot
  · exact h

theorem TablesKept.retireTest (slot : Nat) : TablesKept s₀ (s.retireTest slot) := by
  unfold State.retireTest
  split
  · split
    · exact (h.onLot ..).offerSummary slot
    · exact h
  · exact h

theorem TablesKept.makeCurrent (slot : Nat) : TablesKept s₀ (s.makeCurrent slot) := by
  have hcur : TablesKept s₀ (s.onParcel fun u => { u with current := some slot, staged := none }) := h
  unfold State.makeCurrent
  split
  · split
    · exact hcur
    · exact hcur.retireTest _
  · exact hcur

theorem TablesKept.dropCurrent : TablesKept s₀ s.dropCurrent := by
  have hcur : TablesKept s₀ (s.onParcel fun u => { u with current := none }) := h
  unfold State.dropCurrent
  split
  · exact hcur.retireTest _
  · exact hcur

/-! ### The line state -/

theorem TablesKept.holdCounters : TablesKept s₀ s.holdCounters := h.onTracks _

theorem TablesKept.clearBacked : TablesKept s₀ s.clearBacked := h.onTracks _

theorem TablesKept.releaseSync : TablesKept s₀ s.releaseSync := h.holdCounters.clearBacked.armStalls

theorem TablesKept.endProving : TablesKept s₀ s.endProving := by
  unfold State.endProving
  split
  · exact TablesKept.dropCurrent (s := s.onComm _) h
  · exact h

theorem TablesKept.abortProving : TablesKept s₀ s.abortProving := by
  unfold State.abortProving
  split
  · exact h.endProving
  · exact h

theorem TablesKept.enterHalted (cause : HaltCause) : TablesKept s₀ (s.enterHalted cause) := by
  have hcancel : TablesKept s₀ (if s.line.state = .draining then s.cancelStalls.cancel .drain else s.cancelStalls) := by
    split
    · exact h.cancelStalls.cancel _
    · exact h.cancelStalls
  unfold State.enterHalted
  dsimp only
  split
  · exact TablesKept.abortProving (s := State.setLine _ ..) hcancel
  · exact hcancel

theorem TablesKept.raiseHalt (cause : HaltCause) : TablesKept s₀ (s.raiseHalt cause) := by
  unfold State.raiseHalt
  split
  · exact h.enterHalted _
  · exact h

theorem TablesKept.emptyTest : TablesKept s₀ s.emptyTest := by
  unfold State.emptyTest
  split
  · exact (h.cancel .drain).cancelStalls.holdCounters.clearBacked
  · exact h

/-! ### Trip events -/

theorem TablesKept.markZone (x : TripSource) : TablesKept s₀ (s.markZone x) := by
  unfold State.markZone
  split
  · exact h.onParcels _
  · exact h

theorem TablesKept.setLatch (x : TripSource) (b : Bool) : TablesKept s₀ (s.setLatch x b) := by
  cases x with
  | level c l => exact h.onChannel c _
  | stale c => exact h.onChannel c _
  | exposure => exact h
  | shuttleFault => exact h

theorem TablesKept.fire (x : TripSource) (cause : TripCause) (pallet time : Nat) : TablesKept s₀ (s.fire x cause pallet time) := by
  have hnote : TablesKept s₀ (if (s.route x).notify then
      (s.setLatch x true).notify (.trip x cause (s.tripChannel x) pallet (s.route x) time) else s.setLatch x true) := by
    split <;> exact h.setLatch x true
  have hmark : ∀ u, TablesKept s₀ u → TablesKept s₀ (if (s.route x).markZone then u.markZone x else u) := fun u hu => by
    split
    · exact hu.markZone x
    · exact hu
  unfold State.fire
  dsimp only
  split
  · exact (hmark _ hnote).raiseHalt _
  · exact hmark _ hnote

theorem TablesKept.reform (c : Nat) (cause : TripCause) (time : Nat) : TablesKept s₀ (s.reform c cause time) := by
  unfold State.reform
  split
  · refine State.each_induct (TablesKept s₀) _ _ _ (h.onChannel c _) fun l _ t ht => ?_
    split
    · exact ht.fire ..
    · exact ht
  · exact h

theorem TablesKept.reformBound (time : Nat) (b : Option (Nat × LevelName)) : TablesKept s₀ (s.reformBound time b) := by
  unfold State.reformBound
  split
  · exact h.reform ..
  · exact h

/-! ### The end of a command, edges and expiries -/

theorem TablesKept.finish : TablesKept s₀ s.finish := by
  rw [State.finish_frame]
  exact h

theorem TablesKept.deliver {i : FieldInput} {owner : Edge → State → State}
    (ho : ∀ e t, TablesKept s₀ t → TablesKept s₀ (owner e t)) : TablesKept s₀ (s.deliver i owner) := by
  unfold State.deliver
  split
  · exact ho _ _ (h.onTime id)
  · exact h

theorem TablesKept.expire {id : TimerId} {owner : State → State} (ho : ∀ t, TablesKept s₀ t → TablesKept s₀ (owner t)) :
    TablesKept s₀ (s.expire id owner) := by
  have htaken : TablesKept s₀ (s.onTime fun u => { u with expired := u.expired.erase id }) := h
  unfold State.expire
  split
  · dsimp only
    split
    · exact htaken
    · exact ho _ htaken
  · exact h

end Shared

end Sys2Proof.Machine
end

section
/-! ## Tables and numbers kept: the units -/

namespace Sys2Proof.Machine

-- One declaration after the other, so that the text needs one thread for them and not one each.
set_option Elab.async false

/-! ### Lanes, gates and bags -/

section Lanes
variable {s₀ s : State} (h : TablesKept s₀ s)
include h

theorem TablesKept.sealLane (n stamp : Nat) : TablesKept s₀ (s.sealLane n stamp) := by
  unfold State.sealLane
  split
  · exact h
  · exact (h.onBags (fun t => t.mapVals _) fun hb => (Table.wf_mapVals ..).trans hb).onLane ..

theorem TablesKept.closeGate (pending : Option Nat) : TablesKept s₀ (s.closeGate pending) :=
  TablesKept.armFor (s := s.onDist _) h ..

theorem TablesKept.requestGate (b : Nat) : TablesKept s₀ (s.requestGate b) := by
  unfold State.requestGate
  split
  · split
    · exact h
    · exact h.closeGate _
  · split <;> exact h

theorem TablesKept.toLaneZero (c : LaneZeroCause) : TablesKept s₀ (s.toLaneZero c).1 := by
  unfold State.toLaneZero State.requestLaneZero
  dsimp only
  split
  · exact TablesKept.closeGate (s := s.countLaneZero c) h none
  · exact h

theorem TablesKept.unblock : TablesKept s₀ s.unblock := by
  unfold State.unblock
  split
  · exact h.onLane ..
  · exact h

theorem TablesKept.freeBag (k : Nat) : TablesKept s₀ (s.freeBag k) := by
  unfold State.freeBag
  split
  · exact (((h.onBags (fun t => t.del k) (Table.wf_del k)).onLot ..).retireTest _).unblock
  · exact h

/-! ### The lane choice -/

theorem TablesKept.lotBreak (lanes : List Nat) (slot : Nat) : TablesKept s₀ (s.lotBreak lanes slot) := h.onLanes _

theorem TablesKept.joinBag (k n : Nat) (p : Parcel) : TablesKept s₀ (s.joinBag k n p) := by
  have hjoined := h.onBags (fun t => t.modify k (Bag.join p)) fun hb => (Table.wf_modify ..).trans hb
  unfold State.joinBag
  dsimp only
  split
  · split
    · exact hjoined.onLane ..
    · exact hjoined
  · exact hjoined

theorem TablesKept.openBag (k n stamp : Nat) (p : Parcel) : TablesKept s₀ (s.openBag k n stamp p).1 :=
  ((h.onDist ⟨fun hb => Table.wf_put _ _ hb, id⟩).onLane ..).onLot ..

theorem TablesKept.divert (n stamp : Nat) (p : Parcel) : TablesKept s₀ (s.divert n stamp p).1 := by
  unfold State.divert
  split
  · exact h.joinBag ..
  · split
    · exact h.openBag ..
    · exact h

theorem TablesKept.passGate (n : Nat) (p : Parcel) (stamp : Nat) : TablesKept s₀ (s.passGate n p stamp).1 := by
  unfold State.passGate
  dsimp only
  split
  · exact (h.requestGate n).divert n stamp p
  · exact h.requestGate n

theorem TablesKept.useLane (n : Nat) (p : Parcel) (stamp : Nat) : TablesKept s₀ (s.useLane n p stamp).1 := by
  unfold State.useLane
  dsimp only
  split
  · exact (h.onLane ..).toLaneZero _
  · exact h.passGate ..

theorem TablesKept.chooseLane (e : ClassEntry) (p : Parcel) (stamp : Nat) : TablesKept s₀ (s.chooseLane e p stamp).1 := by
  have hbreak := h.lotBreak e.lanes p.slot
  unfold State.chooseLane
  dsimp only
  split
  · exact TablesKept.useLane (s := (s.lotBreak e.lanes p.slot).onDist _) hbreak ..
  · exact hbreak.toLaneZero _

theorem TablesKept.distribute (p : Parcel) (v : VerdictRecord) : TablesKept s₀ (s.distribute p v).1 := by
  unfold State.distribute
  split
  · exact h.toLaneZero _
  · split
    · exact h.toLaneZero _
    · split
      · exact h.toLaneZero _
      · split
        · exact h.chooseLane ..
        · exact h.toLaneZero _

end Lanes

/-! ### Counting bags and the arbiter -/

section Counting
variable {s₀ s : State} (h : TablesKept s₀ s)
include h

theorem TablesKept.arbitrate : TablesKept s₀ s.arbitrate := by
  have hgrant : ∀ r p, TablesKept s₀ (s.grant r p) := fun r p =>
    TablesKept.armFor (s := State.onShuttle _ _) (h.onPallet r _) ..
  unfold State.arbitrate
  split
  · split
    · exact hgrant ..
    · exact h
  · exact h

theorem TablesKept.becomeReady (r : Nat) : TablesKept s₀ (s.becomeReady r) :=
  TablesKept.arbitrate (s := State.onTransfer _ _) (h.onPallet r _)

theorem TablesKept.createPallet (r : Nat) (b : Bag) : TablesKept s₀ (s.createPallet r b) :=
  (h.onTransfer fun hp => Table.wf_put _ _ hp).onLot ..

theorem TablesKept.countOnto (r k : Nat) : TablesKept s₀ (s.countOnto r k) := by
  unfold State.countOnto
  split
  · have hcounted : ∀ p', TablesKept s₀ (((s.onPallet r fun _ => p').arm (.exposure r) p'.exposureDue).freeBag k) := fun p' =>
      ((h.onPallet ..).arm ..).freeBag k
    dsimp only
    split
    · exact (hcounted _).becomeReady r
    · exact hcounted _
  · exact h

theorem TablesKept.countNew (k : Nat) (b : Bag) : TablesKept s₀ (s.countNew k b).1 := by
  unfold State.countNew
  split
  · exact (h.createPallet ..).countOnto ..
  · exact h

theorem TablesKept.tryCount (k : Nat) : TablesKept s₀ (s.tryCount k).1 := by
  unfold State.tryCount
  split
  · exact h
  · split
    · split
      · exact h.countOnto ..
      · exact (h.becomeReady _).countNew ..
    · exact h.countNew ..

theorem TablesKept.submitBag (k : Nat) (b : Bag) : TablesKept s₀ (s.submitBag k b) := by
  unfold State.submitBag
  split
  · exact h
  · dsimp only
    split <;> exact h.tryCount k

omit h in
theorem TablesKept.walk {s₀ s : State} (h : TablesKept s₀ s) (numbers lanes : List Nat) : TablesKept s₀ (walk numbers lanes s).1 := by
  induction numbers generalizing lanes s with
  | nil => exact h
  | cons number rest ih =>
    unfold Machine.walk
    split
    · exact ih h lanes
    · next k b _ =>
      dsimp only
      split
      · exact ih h lanes
      · split
        · exact ih (h.tryCount k) lanes
        · exact ih (h.tryCount k) _

theorem TablesKept.walkWaiting : TablesKept s₀ s.walkWaiting := h.walk s.transfer.waiting []

theorem TablesKept.weigh (k : Nat) (b : Bag) (grams : Nat) : TablesKept s₀ (s.weigh k b grams).1 := by
  have hjudged : ∀ f slot g, TablesKept s₀ ((s.onDist fun u => { u with bags := u.bags.modify k f }).onLot slot g) := fun f _ _ =>
    (h.onBags (fun t => t.modify k f) fun hb => (Table.wf_modify ..).trans hb).onLot ..
  unfold State.weigh
  dsimp only
  split
  · exact (hjudged ..).submitBag ..
  · exact TablesKept.freeBag (s := State.notify _ _) (hjudged ..) k

end Counting

/-! ### PALLET TRANSFER (R159, R185) -/

section Transfer
variable {s₀ s : State} (h : TablesKept s₀ s)
include h

theorem TablesKept.freePallet (r : Nat) : TablesKept s₀ (s.freePallet r) := by
  unfold State.freePallet
  split
  · have hcancel := (h.onTransfer (f := fun u => { u with pallets := u.pallets.del r }) fun hp => Table.wf_del r hp).cancel (.exposure r)
    have hexpired := hcancel.onTime (f := fun u => { u with expired := u.expired.filter fun x => !decide (x = .exposure r) }) id
    exact ((hexpired.onLot ..).retireTest _).walkWaiting
  · exact h

theorem TablesKept.enterTransfer (r part : Nat) : TablesKept s₀ (s.enterTransfer r part) := by
  unfold State.enterTransfer
  split <;> exact h

theorem TablesKept.enterLast (r part : Nat) : TablesKept s₀ (s.enterLast r part) := (h.enterTransfer r part).freePallet r

theorem TablesKept.offerLast (r part : Nat) : TablesKept s₀ (s.offerLast r part) := by
  unfold State.offerLast
  split
  · exact h.enterLast ..
  · exact h

theorem TablesKept.enterPart (r part : Nat) : TablesKept s₀ (s.enterPart r part) := by
  unfold State.enterPart
  split
  · split
    · exact (h.enterTransfer ..).offerLast ..
    · exact h.enterLast ..
  · exact h

theorem TablesKept.offerPart (r part : Nat) : TablesKept s₀ (s.offerPart r part) := by
  unfold State.offerPart
  split
  · exact h.enterPart ..
  · exact h

end Transfer

/-! ### The shuttle, the door and faults -/

section Shuttle
variable {s₀ s : State} (h : TablesKept s₀ s)
include h

theorem TablesKept.expose (r : Nat) (p : Pallet) : TablesKept s₀ (s.expose r p) := (h.onPallet r _).fire ..

theorem TablesKept.exposureExpired (r : Nat) : TablesKept s₀ (s.exposureExpired r) := by
  unfold State.exposureExpired
  split
  · exact h
  · split
    · exact h
    · split
      · exact (h.expose ..).becomeReady r
      · exact h.expose ..

theorem TablesKept.returnPallet (r : Nat) (p : Pallet) : TablesKept s₀ (s.returnPallet r p) := by
  unfold State.returnPallet
  split
  · exact h.becomeReady r
  · split
    · exact h.onPallet ..
    · exact h

theorem TablesKept.faultShuttle (cause : ShuttleCause) : TablesKept s₀ (s.faultShuttle cause) := by
  have hfailed : ∀ stranded, TablesKept s₀ ((s.cancel .shuttleJob).onShuttle (Shuttle.fail cause stranded)) := fun _ =>
    h.cancel .shuttleJob
  unfold State.faultShuttle
  dsimp only
  split
  · exact ((hfailed _).returnPallet ..).fire ..
  · exact (hfailed _).fire ..

theorem TablesKept.accepted : TablesKept s₀ s.accepted := by
  unfold State.accepted
  split <;> exact h

theorem TablesKept.loaded : TablesKept s₀ s.loaded := by
  unfold State.loaded
  split
  · dsimp only
    split
    · exact TablesKept.onPallet (s := s.onShuttle _) h ..
    · exact h
  · exact h

theorem TablesKept.jobDone : TablesKept s₀ s.jobDone := by
  unfold State.jobDone
  split
  · split
    · exact TablesKept.arbitrate (s := State.onShuttle _ _) (h.cancel .shuttleJob)
    · exact h
  · exact h

theorem TablesKept.judgeDoor (r stamp : Nat) : TablesKept s₀ (s.judgeDoor r stamp) := by
  unfold State.judgeDoor
  split
  · split
    · exact h.expose ..
    · exact h
  · exact h

theorem TablesKept.storePallet (r : Nat) : TablesKept s₀ (s.storePallet r) := by
  unfold State.storePallet
  split
  · exact ((h.onPallet ..).onLot ..).offerPart ..
  · exact h

theorem TablesKept.doorPass (r stamp : Nat) : TablesKept s₀ (s.doorPass r stamp) := by
  have hmade : TablesKept s₀ ((s.onPallet r fun p => { p with doorTime := some stamp }).onShuttle fun sh =>
      { sh with job := sh.job.map fun j => { j with doorMade := true } }) := h.onPallet ..
  exact ((hmade.cancel (.exposure r)).judgeDoor r stamp).storePallet r

theorem TablesKept.doorEdge (stamp : Nat) : TablesKept s₀ (s.doorEdge stamp) := by
  unfold State.doorEdge
  split
  · split
    · exact h
    · split
      · exact h.doorPass ..
      · exact h
  · exact h

theorem TablesKept.recoverShuttle : TablesKept s₀ s.recoverShuttle := by
  have hidle : TablesKept s₀ (s.onShuttle Shuttle.recover) := h
  unfold State.recoverShuttle
  dsimp only
  split
  · exact hidle.becomeReady _
  · exact hidle.arbitrate

end Shuttle

/-! ### Parcels, declarations and the index -/

section Index
variable {s₀ s : State} (h : TablesKept s₀ s)
include h

theorem TablesKept.retireParcel (k slot : Nat) (f : Lot → Lot) : TablesKept s₀ (s.retireParcel k slot f) :=
  ((h.onParcel ⟨fun hp => Table.wf_del _ hp, id⟩).onLot ..).retireTest slot

theorem TablesKept.takeEntry (p : Parcel) (entry : ProvingRun → ProvingEntry) : TablesKept s₀ (s.takeEntry p entry) := by
  unfold State.takeEntry
  split <;> exact h

theorem TablesKept.outfeed (k : Nat) (p : Parcel) (stamp : Nat) : TablesKept s₀ (s.outfeed k p stamp) := by
  have hout : ∀ v b, TablesKept s₀ (if (s.distribute p v).1.credit.outfeedNotices then (s.distribute p v).1.notify b
      else (s.distribute p v).1) := fun v b => by
    split <;> exact h.distribute p v
  exact (((hout ..).takeEntry ..).retireParcel ..).emptyTest

theorem TablesKept.joinQueue (k n place : Nat) : TablesKept s₀ (s.joinQueue k n place) := (h.onTrackRec ..).onParcels _

theorem TablesKept.backpressure (k n : Nat) (p : Parcel) (stamp : Nat) : TablesKept s₀ (s.backpressure k n p stamp) := by
  have hlost : TablesKept s₀ (((s.takeEntry p fun _ => lostEntry p).retireParcel k p.slot Lot.lose).notify
      (.lost p.seq p.slot n stamp)) := (h.takeEntry ..).retireParcel ..
  exact ((hlost.onTrackRec ..).cancel (.stall n)).emptyTest

theorem TablesKept.depart (n : Nat) (t : Track) (stamp : Nat) : TablesKept s₀ (s.depart n t stamp) := by
  have hcell : ∀ cell, TablesKept s₀ (s.onTrack fun u => { u with cells := u.cells.del cell }) := fun _ =>
    h.onTrack ⟨fun hc => Table.wf_del _ hc, id⟩
  unfold State.depart
  dsimp only
  split
  · exact h
  · split
    · exact hcell _
    · split
      · exact (hcell _).outfeed ..
      · split
        · exact (hcell _).joinQueue ..
        · exact (hcell _).backpressure ..

theorem TablesKept.advance (n stamp : Nat) : TablesKept s₀ (s.advance n stamp) := (h.onTrackRec ..).onParcels _

theorem TablesKept.place (k n stamp : Nat) : TablesKept s₀ (s.place k n stamp) := by
  unfold State.place
  split
  · exact h
  · exact (h.onTrack ⟨fun hc => Table.wf_put _ _ hc, id⟩).onParcels _

theorem TablesKept.recover (n : Nat) : TablesKept s₀ (s.recover n) := by
  unfold State.recover
  split
  · split
    · exact (h.onTrackRec ..).armFor ..
    · exact h
  · exact h

theorem TablesKept.takeQueue (n stamp : Nat) : TablesKept s₀ (s.takeQueue n stamp) := by
  unfold State.takeQueue
  split
  · exact (((h.onTrackRec ..).onParcels _).place ..).recover n
  · exact h

theorem TablesKept.createParcel (slot : Nat) (l : Lot) (k stamp : Nat) : TablesKept s₀ (s.createParcel slot l k stamp) :=
  (h.onParcel ⟨fun hp => Table.wf_put _ _ hp, id⟩).onLot ..

theorem TablesKept.fill (n : Nat) (presence : Bool) (stamp : Nat) : TablesKept s₀ (s.fill n presence stamp) := by
  unfold State.fill
  split
  · split
    · exact (h.createParcel ..).place ..
    · exact h
  · exact h.takeQueue ..

/-- R59: a summary withdrawn leaves the tables alone. -/
theorem TablesKept.revive (slot : Nat) : TablesKept s₀ (s.revive slot) := h.onLot ..

theorem TablesKept.applyDeclaration (stamp : Nat) : TablesKept s₀ (s.applyDeclaration stamp) := by
  unfold State.applyDeclaration State.tableFull
  split
  · exact h
  · split
    · split
      · exact (h.revive _).makeCurrent _
      · exact h.makeCurrent _
    · split
      · exact (h.newLot ..).makeCurrent _
      · split <;> exact h

/-- R119, R121: the staged map is drawn from lanes 1..4 as well. -/
theorem TablesKept.applyClassMap : TablesKept s₀ s.applyClassMap := by
  refine h.onDist ?_
  cases hm : s.dist.staged with
  | none => exact ⟨id, id⟩
  | some m =>
    refine ⟨id, ?_⟩
    rintro ⟨hlanes, -, hstaged⟩
    rw [hm] at hstaged
    exact ⟨hlanes, hstaged, rfl⟩

theorem TablesKept.applyStaged (n stamp : Nat) : TablesKept s₀ (s.applyStaged n stamp) := by
  have hdeclared : TablesKept s₀ (if n = 1 then s.applyDeclaration stamp else s) := by
    split
    · exact h.applyDeclaration stamp
    · exact h
  unfold State.applyStaged
  dsimp only
  generalize (if n = 1 then s.applyDeclaration stamp else s) = u at hdeclared
  split
  · exact hdeclared.applyClassMap.onTrackRec ..
  · exact hdeclared.onTrackRec ..

theorem TablesKept.indexNotice (n : Nat) (moved : Bool) (stamp : Nat) : TablesKept s₀ (s.indexNotice n moved stamp) := by
  rw [State.indexNotice_frame]
  exact h

theorem TablesKept.setLine (state : LineState) (origin : Option LineState) (cause : Option HaltCause) (why : LineCause)
    (detail : CauseDetail) : TablesKept s₀ (s.setLine state origin cause why detail) := h

theorem TablesKept.endProvingLine : TablesKept s₀ s.endProvingLine := h.cancelStalls.holdCounters.setLine ..

theorem TablesKept.notify (b : NoticeBody) : TablesKept s₀ (s.notify b) := h

theorem TablesKept.onComm (f : CommissionUnit → CommissionUnit) : TablesKept s₀ (s.onComm f) := h

theorem TablesKept.completeProving : TablesKept s₀ s.completeProving := by
  unfold State.completeProving
  split
  · split
    · exact ((h.onComm _).dropCurrent.notify _).endProvingLine
    · exact h
  · exact h

theorem TablesKept.index (n : Nat) (t : Track) (presence : Bool) (stamp : Nat) : TablesKept s₀ (s.index n t presence stamp) :=
  (((((h.depart n t stamp).advance n stamp).fill ..).applyStaged ..).indexNotice ..).completeProving

theorem TablesKept.pulse (presence : Bool) (n : Nat) : TablesKept s₀ (s.pulse presence n) := by
  unfold State.pulse
  split
  · exact h
  · next t _ =>
    split
    · have hrun : TablesKept s₀ (if s.trackRun n then s.armFor (.stall n) t.stallLimit else s) := by
        split
        · exact h.armFor ..
        · exact h
      dsimp only
      generalize (if s.trackRun n then s.armFor (.stall n) t.stallLimit else s) = u at hrun
      split
      · exact hrun.onTrackRec ..
      · exact (hrun.onTrackRec ..).index ..
    · exact h

theorem TablesKept.encoder (input : Nat) (presence : Bool) : TablesKept s₀ (s.encoder input presence) := by
  have hpulses : ∀ l u, TablesKept s₀ u → TablesKept s₀ (State.each (State.pulse presence) l u) := fun l u hu =>
    State.each_induct (TablesKept s₀) _ _ _ hu fun n _ _ ht => ht.pulse presence n
  unfold State.encoder
  dsimp only
  split
  · exact hpulses _ { s with draws := s.draws + 1 } h
  · exact hpulses _ _ h

end Index

/-! ### Probes -/

/-- R79: the next poll changes no channel record. -/
theorem ProbeUnit.pollNext_channels (u : ProbeUnit) (now : Nat) : (u.pollNext now).channels = u.channels := by
  unfold ProbeUnit.pollNext
  split
  · rfl
  · split <;> rfl

section Probes
variable {s₀ s : State} (h : TablesKept s₀ s)
include h

theorem TablesKept.bind (input : Nat) (b : Option (Nat × LevelName)) : TablesKept s₀ (s.bind input b) := by
  unfold State.bind
  split
  · exact (TablesKept.reformBound (s := s.onProbe _) h ..).reformBound ..
  · exact h

theorem TablesKept.sampleParcels (c : Nat) (wasStale : Bool) (f : Parcel → Parcel) : TablesKept s₀ (s.sampleParcels c wasStale f) := by
  unfold State.sampleParcels State.meetParcels
  split
  · exact h.onParcels _
  · dsimp only
    split <;> exact h.onParcels _

theorem TablesKept.creditSample (c : Nat) (v : Int) (t : Nat) (wasStale : Bool) : TablesKept s₀ (s.creditSample c v t wasStale) := by
  have hchain : ∀ ch f, TablesKept s₀ ((s.setChain c ch).sampleParcels c wasStale f) := fun ch f =>
    TablesKept.sampleParcels (s := s.setChain c ch) h ..
  unfold State.creditSample
  dsimp only
  split <;> exact hchain ..

theorem TablesKept.goodSample (c : Nat) (raw : Int) (stamp : Nat) : TablesKept s₀ (s.goodSample c raw stamp) := by
  have hcredit : ∀ u v w, TablesKept s₀ u → TablesKept s₀ (if u.track.watchesBlanch c then u.creditSample c v stamp w else u) :=
    fun u v w hu => by
      split
      · exact hu.creditSample ..
      · exact hu
  unfold State.goodSample
  split
  · exact h
  · refine hcredit _ _ _ (TablesKept.reform ?_ ..)
    split <;> exact h.onChannel ..

theorem TablesKept.missed (c : Nat) (cause : MissCause) : TablesKept s₀ (s.missed c cause) := by
  have hmiss := h.onChannel c (Channel.miss cause)
  unfold State.missed
  split
  · exact h
  · dsimp only
    split
    · exact (hmiss.fire ..).onParcels _
    · exact hmiss

theorem TablesKept.judgeFrame (e : Exchange) (frame : List Byte) : TablesKept s₀ (s.judgeFrame e frame) := by
  unfold State.judgeFrame
  split
  · split
    · split
      · exact (h.onChannel ..).missed ..
      · exact h.goodSample ..
    · exact h.missed ..
  · exact h

theorem TablesKept.pollNext (now : Nat) : TablesKept s₀ (s.onProbe (ProbeUnit.pollNext now)) :=
  h.onProbe fun hc => by rwa [ProbeUnit.pollNext_channels]

theorem TablesKept.endExchange (e : Exchange) {outcome : State → State} (ho : TablesKept s₀ (outcome s)) :
    TablesKept s₀ (s.endExchange e outcome) := by
  unfold State.endExchange
  dsimp only
  split
  · exact h.pollNext _
  · exact ho.pollNext _

theorem TablesKept.sampleBytes (bytes : List Byte) : TablesKept s₀ (s.sampleBytes bytes) := by
  unfold State.sampleBytes
  split
  · exact h
  · split
    · dsimp only
      split
      · exact h.endExchange _ (h.judgeFrame ..)
      · exact h
    · exact h

theorem TablesKept.closeWindow : TablesKept s₀ s.closeWindow := by
  unfold State.closeWindow
  split
  · exact h
  · split
    · exact h
    · exact h.endExchange _ (h.missed ..)

theorem TablesKept.beginRound : TablesKept s₀ s.beginRound :=
  h.onProbe fun hc => by rwa [ProbeUnit.pollNext_channels]

theorem TablesKept.externalEdge (i : Nat) (rising : Bool) (stamp : Nat) : TablesKept s₀ (s.externalEdge i rising stamp) := by
  unfold State.externalEdge
  split
  · exact TablesKept.reformBound (s := s.onProbe _) h ..
  · exact h

end Probes

end Sys2Proof.Machine
end

section
/-! ## Tables and numbers kept: every command -/

namespace Sys2Proof.Machine

-- One declaration after the other, so that the text needs one thread for them and not one each.
set_option Elab.async false

/-! ### Tracks (R34, R37, R42, R48) -/

/-- R34: a track defined keeps the tracks in order: its number is in order, or the next one. -/
theorem TablesKept.doTrackDefine {s₀ s : State} (h : TablesKept s₀ s) (d : TrackDefine) :
    TablesKept s₀ (doTrackDefine d s).1 := by
  have hedited : ∀ u : State, TablesKept s₀ u → TablesKept s₀ u.edited := fun _ hu => hu
  unfold Machine.doTrackDefine
  split
  · exact h
  · next hrange =>
    obtain ⟨h1, h4⟩ := not_not.mp hrange
    split
    · exact h
    · next hnext =>
      split
      · split
        · exact h
        · next hlast =>
          split
          · exact h
          · refine hedited _ (h.onTrack ⟨id, fun ht => (inOrder_modify ..).trans ?_⟩)
            rw [not_ne_iff.mp hlast]
            exact inOrder_del ht
      · (repeat' split) <;> try exact h
        exact hedited _ (h.onTrack ⟨id, fun ht => inOrder_put ht h1 h4 (Nat.le_of_not_lt hnext) _⟩)

/-! ### Lane sets (R120, R189) -/

/-- R189: the lanes a byte names are lanes 1..4. -/
theorem laneSet?_inRange {n : Nat} {lanes : List Nat} (hl : laneSet? n = some lanes) :
    (lanes.all fun lane => decide (1 ≤ lane) && decide (lane ≤ 4)) = true := by
  unfold laneSet? at hl
  split at hl
  · cases hl
    rw [List.all_filter]
    simp
  · nomatch hl

/-- R120: a well-formed entry draws its lanes from 1..4. -/
theorem classEntry?_inRange {e : Nat × Nat} {c : ClassEntry} (hc : classEntry? e = some c) :
    (c.lanes.all fun lane => decide (1 ≤ lane) && decide (lane ≤ 4)) = true := by
  unfold classEntry? at hc
  split at hc
  · next lanes hl =>
    split at hc
    · cases hc
      exact laneSet?_inRange hl
    · nomatch hc
  · nomatch hc

/-- R120: so does a well-formed map. -/
theorem classMap?_inRange {k : Nat} {es : List (Nat × Nat)} {m : Table ClassEntry} (hm : classMap? k es = some m) :
    lanesInRange m = true := by
  induction es generalizing k m with
  | nil =>
    cases hm
    rfl
  | cons e es ih =>
    unfold classMap? at hm
    split at hm
    · next c t hc ht =>
      cases hm
      exact Bool.and_eq_true_iff.mpr ⟨classEntry?_inRange hc, ih ht⟩
    · nomatch hm

/-! ### Owners -/

section Owners
variable {s₀ s : State} (h : TablesKept s₀ s)
include h

theorem TablesKept.edited : TablesKept s₀ s.edited := h

theorem TablesKept.doZoneDefine (d : ZoneDefine) : TablesKept s₀ (doZoneDefine d s).1 := by
  unfold Machine.doZoneDefine
  (repeat' split) <;> try exact h
  exact (h.onTrackRec ..).edited

theorem TablesKept.doTrackRead (d : Nat × Nat × Nat) : TablesKept s₀ (doTrackRead d s).1 := by
  unfold Machine.doTrackRead
  (repeat' split) <;> exact h

theorem TablesKept.doDividerReset (g : Nat) : TablesKept s₀ (doDividerReset g s).1 := by
  unfold Machine.doDividerReset
  (repeat' split) <;> try exact h
  exact h.onTracks _

theorem TablesKept.doNoticeModeSet (d : Nat × Nat × Option Nat) : TablesKept s₀ (doNoticeModeSet d s).1 := by
  unfold Machine.doNoticeModeSet
  (repeat' split) <;> try exact h
  exact h.onTrackRec ..

/-! ### Parcels and lots -/

theorem TablesKept.doInfeedDeclare (a : List Byte × Nat × Nat) : TablesKept s₀ (doInfeedDeclare a s).1 := by
  unfold Machine.doInfeedDeclare
  split <;> exact h

theorem TablesKept.doParcelRead (q : Seq) : TablesKept s₀ (doParcelRead q s).1 := by
  unfold Machine.doParcelRead
  split <;> exact h

theorem TablesKept.doLotRead (slot : Nat) : TablesKept s₀ (doLotRead slot s).1 := by
  unfold Machine.doLotRead
  split <;> exact h

/-! ### Channels (R81 to R98) -/

theorem TablesKept.restartChannel (c : Nat) (enabled : Bool) : TablesKept s₀ (s.restartChannel c enabled) :=
  TablesKept.onChannel (s := s.onProbe _) h c _

theorem TablesKept.setChannel (c address : Nat) (enabled : Bool) (role : Role) :
    TablesKept s₀ (s.setChannel c address enabled role) := by
  unfold State.setChannel
  split
  · exact h
  · dsimp only
    split
    · exact h.onChannel ..
    · exact (h.onChannel ..).restartChannel ..

theorem TablesKept.doChannelSet (d : Nat × Nat × Nat × Nat) : TablesKept s₀ (doChannelSet d s).1 := by
  unfold Machine.doChannelSet
  (repeat' split) <;> try exact h
  exact (h.setChannel ..).edited

theorem TablesKept.doOffsetStep (d : Nat × Int) : TablesKept s₀ (doOffsetStep d s).1 := by
  unfold Machine.doOffsetStep
  dsimp only
  (repeat' split) <;> try exact h
  exact (h.onChannel ..).edited

theorem TablesKept.doLevelsSet (d : LevelsSet) : TablesKept s₀ (doLevelsSet d s).1 := by
  unfold Machine.doLevelsSet
  (repeat' split) <;> try exact h
  exact (h.onChannel ..).edited

theorem TablesKept.setRoute (x : TripSource) (r : Route) : TablesKept s₀ (s.setRoute x r) := by
  cases x with
  | level c l => exact h.onChannel c _
  | stale c => exact h.onChannel c _
  | exposure => exact h
  | shuttleFault => exact h

theorem TablesKept.doRouteSet (d : Nat × Nat × Nat) : TablesKept s₀ (doRouteSet d s).1 := by
  unfold Machine.doRouteSet
  (repeat' split) <;> try exact h
  exact (h.setRoute ..).edited

theorem TablesKept.doExternalTripSet (d : ExternalSet) : TablesKept s₀ (doExternalTripSet d s).1 := by
  unfold Machine.doExternalTripSet
  (repeat' split) <;> try exact h
  exact (h.bind ..).edited

theorem TablesKept.doSamplingSet (ms : Nat) : TablesKept s₀ (doSamplingSet ms s).1 := by
  unfold Machine.doSamplingSet
  split <;> exact h

theorem TablesKept.doTripAck (d : Nat × Nat) : TablesKept s₀ (doTripAck d s).1 := by
  unfold Machine.doTripAck
  (repeat' split) <;> try exact h
  exact h.setLatch ..

theorem TablesKept.doChannelRead (c : Nat) : TablesKept s₀ (doChannelRead c s).1 := by
  unfold Machine.doChannelRead
  (repeat' split) <;> exact h

/-! ### Rates and recipes -/

theorem TablesKept.doRateTableSet (d : List Band) : TablesKept s₀ (doRateTableSet d s).1 := by
  unfold Machine.doRateTableSet
  (repeat' split) <;> exact h

theorem TablesKept.doRecipeThermalSet (d : ThermalSet) : TablesKept s₀ (doRecipeThermalSet d s).1 := by
  unfold Machine.doRecipeThermalSet
  (repeat' split) <;> exact h

theorem TablesKept.doRecipePackingSet (d : PackingSet) : TablesKept s₀ (doRecipePackingSet d s).1 := by
  unfold Machine.doRecipePackingSet
  split <;> exact h

/-! ### Lanes and bags -/

theorem TablesKept.doClassMapSet (es : List (Nat × Nat)) : TablesKept s₀ (doClassMapSet es s).1 := by
  unfold Machine.doClassMapSet
  split
  · next m hm =>
    refine h.onDist ⟨id, ?_⟩
    rintro ⟨hlanes, hlive, -⟩
    exact ⟨hlanes, hlive, classMap?_inRange hm⟩
  · exact h

theorem TablesKept.doDeadTimeSet (ms : Nat) : TablesKept s₀ (doDeadTimeSet ms s).1 := by
  unfold Machine.doDeadTimeSet
  split <;> exact h

theorem TablesKept.doLaneOpen (n : Nat) : TablesKept s₀ (doLaneOpen n s).1 := by
  unfold Machine.doLaneOpen
  split
  · exact h.onLane ..
  · exact h

theorem TablesKept.doLaneClose (n : Nat) : TablesKept s₀ (doLaneClose n s).1 := by
  unfold Machine.doLaneClose
  split
  · exact h.onLane ..
  · exact h

theorem TablesKept.doBagRead (number : Nat) : TablesKept s₀ (doBagRead number s).1 := by
  unfold Machine.doBagRead
  (repeat' split) <;> exact h

theorem TablesKept.openPending : TablesKept s₀ s.openPending := by
  refine h.onDist ?_
  split <;> exact ⟨id, id⟩

/-! ### Pallets -/

theorem TablesKept.doBagWeight (d : Nat × Nat) : TablesKept s₀ (doBagWeight d s).1 := by
  unfold Machine.doBagWeight
  (repeat' split) <;> try exact h
  exact h.weigh ..

theorem TablesKept.doPalletClose (number : Nat) : TablesKept s₀ (doPalletClose number s).1 := by
  unfold Machine.doPalletClose
  (repeat' split) <;> try exact h
  exact h.becomeReady _

theorem TablesKept.doPalletRead (d : Nat × Option Nat) : TablesKept s₀ (doPalletRead d s).1 := by
  unfold Machine.doPalletRead
  dsimp only
  (repeat' split) <;> exact h

theorem TablesKept.doShuttleReset (a : Unit) : TablesKept s₀ (doShuttleReset a s).1 := by
  unfold Machine.doShuttleReset
  (repeat' split) <;> try exact h
  exact h.recoverShuttle

theorem TablesKept.doJobLimitSet (a : Nat) : TablesKept s₀ (doJobLimitSet a s).1 := by
  unfold Machine.doJobLimitSet
  split <;> exact h

/-! ### The time base and the link -/

/-- R25: the timers that expire leave the table; the others keep their places. -/
theorem TablesKept.millisecond (seen : List FieldInput) : TablesKept s₀ (s.millisecond seen) :=
  h.onTime fun ht => Table.wf_filter _ ht

theorem TablesKept.doTimeSet (a : Nat) : TablesKept s₀ (doTimeSet a s).1 := by
  unfold Machine.doTimeSet
  split <;> exact h

theorem TablesKept.doTimeTrim (a : Int) : TablesKept s₀ (doTimeTrim a s).1 := by
  unfold Machine.doTimeTrim
  split <;> exact h

theorem TablesKept.enterOldest : TablesKept s₀ s.enterOldest := by
  have htaken : ∀ rest, TablesKept s₀ (s.onLink fun u => { u with waiting := rest }) := fun _ => h
  unfold State.enterOldest
  split
  · exact h
  · next slot rest _ => exact (htaken rest).enterSummary slot
  · next r part rest _ => exact (htaken rest).enterPart r part

theorem TablesKept.frameSent : TablesKept s₀ s.frameSent := by
  unfold State.frameSent
  split
  · exact h
  · exact h
  · split
    · exact TablesKept.enterOldest (s := s.onLink _) h
    · exact h

theorem TablesKept.answerUnknown : TablesKept s₀ s.answerUnknown := by
  unfold State.answerUnknown
  (repeat' split) <;> exact h

/-! ### START to CLEAR -/

theorem TablesKept.doStart (a : Unit) : TablesKept s₀ (doStart a s).1 := by
  unfold Machine.doStart
  (repeat' split) <;> try exact h
  exact h.releaseSync.setLine ..

theorem TablesKept.armDrain : TablesKept s₀ s.armDrain := h.armFor ..

theorem TablesKept.stop (limit : Option Nat) : TablesKept s₀ (s.stop limit) := by
  have hlimit : TablesKept s₀ (match limit with
      | some l => s.onLine fun u => { u with drainLimit := l }
      | none => s) := by
    split <;> exact h
  unfold State.stop
  dsimp only
  split
  · exact (hlimit.armDrain.setLine ..).emptyTest
  · split
    · exact hlimit.armDrain
    · exact hlimit

theorem TablesKept.doStop (limit : Option Nat) : TablesKept s₀ (doStop limit s).1 := by
  unfold Machine.doStop
  split
  · exact h.stop _
  · split
    · exact h.stop _
    · exact h

theorem TablesKept.doHalt (a : Unit) : TablesKept s₀ (doHalt a s).1 := by
  unfold Machine.doHalt
  split
  · exact h
  · exact h.enterHalted _

theorem TablesKept.resumeTo (origin : LineState) : TablesKept s₀ (s.resumeTo origin) := by
  have harmed := (h.onTracks fun _ t => t.resume).armStalls
  unfold State.resumeTo
  dsimp only
  split
  · exact (harmed.armDrain.setLine ..).emptyTest
  · exact (harmed.setLine ..).emptyTest

theorem TablesKept.doResume (a : Unit) : TablesKept s₀ (doResume a s).1 := by
  unfold Machine.doResume
  (repeat' split) <;> try exact h
  exact h.resumeTo _

/-- R11: CLEAR empties parcels and cells; the tracks keep their numbers. -/
theorem TablesKept.loseAll : TablesKept s₀ s.loseAll := by
  have hlost : TablesKept s₀ (State.each (fun p s => s.onLot p.slot Lot.lose) s.parcel.parcels.vals s) :=
    State.each_induct (TablesKept s₀) _ _ _ h fun _ _ _ ht => ht.onLot ..
  exact (hlost.onParcel ⟨fun _ => rfl, id⟩).onTrack ⟨fun _ => rfl, fun ht => (inOrder_mapVals ..).trans ht⟩

theorem TablesKept.doClear (a : Unit) : TablesKept s₀ (doClear a s).1 :=
  State.each_induct (TablesKept s₀) _ _ _ (h.loseAll.setLine ..) fun k _ _ ht => ht.retireTest k

/-! ### Proving runs and saves -/

theorem TablesKept.doProveStart (a : Nat × Nat × Nat) : TablesKept s₀ (doProveStart a s).1 := by
  unfold Machine.doProveStart
  (repeat' split) <;> try exact h
  next k _ => exact (((h.newLot k _).makeCurrent k).onComm _).releaseSync.setLine ..

theorem TablesKept.doProveAbort (a : Unit) : TablesKept s₀ (doProveAbort a s).1 := h.enterHalted _

/-- R174: what a save begins with is numbered as the working settings are. -/
theorem TablesKept.beginSave (k : SaveKind) : TablesKept s₀ (s.beginSave k) := by
  refine h.onStore ?_
  rintro ⟨htracks, hchannels, ⟨-, hlive, -⟩, himage, -⟩
  refine ⟨himage, ?_⟩
  rintro v hv
  cases hv
  exact ⟨(inOrder_mapVals ..).trans htracks, Bool.and_eq_true_iff.mpr ⟨(numbered_mapVals ..).trans hchannels, hlive⟩⟩

theorem TablesKept.doCommission (a : Unit) : TablesKept s₀ (doCommission a s).1 := by
  unfold Machine.doCommission
  (repeat' split) <;> try exact h
  exact h.beginSave _

theorem TablesKept.doUnlock (a : Unit) : TablesKept s₀ (doUnlock a s).1 := by
  unfold Machine.doUnlock
  (repeat' split) <;> try exact h
  exact h.beginSave _

theorem TablesKept.doStoreSave (a : Unit) : TablesKept s₀ (doStoreSave a s).1 := by
  unfold Machine.doStoreSave
  split
  · exact h
  · exact h.beginSave _

theorem TablesKept.lineAfterSave (k : SaveKind) : TablesKept s₀ (s.lineAfterSave k) := by
  unfold State.lineAfterSave
  split
  · exact h.clearBacked.setLine ..
  · exact h.setLine ..
  · exact h

/-- R174: the save in flight becomes the image. -/
theorem TablesKept.endSave (v : Save) (ok : Bool) (hv : s.store.save = some v) : TablesKept s₀ (s.endSave v ok) := by
  have hended : TablesKept s₀ (s.onStore (StoreUnit.finishSave v ok)) := by
    refine h.onStore ?_
    rintro ⟨-, -, -, -, hsave⟩
    refine ⟨fun d hd => ?_, fun _ hs => nomatch hs⟩
    cases ok with
    | true =>
      cases hd
      exact hsave v hv
    | false => nomatch hd
  have hlock := hended.onComm fun u => { u with locked := v.kind.lockAfter ok u.locked }
  unfold State.endSave
  dsimp only
  split
  · exact hlock
  · split
    · exact (hlock.notify _).lineAfterSave _
    · exact hlock.notify _

end Owners

/-! ### Line reset (R15, R191) -/

/-- R121, R142: at a line reset the staged map becomes live, and the lanes keep their numbers. -/
theorem DistributionUnit.Numbered.reset {u : DistributionUnit} (h : u.Numbered) : u.reset.Numbered := by
  obtain ⟨hlanes, hlive, hstaged⟩ := h
  refine ⟨(numbered_mapVals ..).trans hlanes, ?_, rfl⟩
  show lanesInRange (u.staged.getD u.live) = true
  cases hm : u.staged with
  | none => exact hlive
  | some m =>
    rw [hm] at hstaged
    exact hstaged

section Reset
variable {s₀ s : State} (h : TablesKept s₀ s)
include h

/-- R15: the tables are emptied, or change record by record. -/
theorem TablesKept.resetUnits : TablesKept s₀ s.resetUnits := by
  refine ⟨fun _ => ⟨rfl, rfl, rfl, rfl, rfl, rfl⟩, fun h₀ => ?_⟩
  obtain ⟨htracks, hchannels, hdist, hstore⟩ := h.2 h₀
  exact ⟨(inOrder_mapVals ..).trans htracks, (numbered_mapVals ..).trans hchannels, hdist.reset, hstore⟩

omit h in
theorem TablesKept.notifyDiscard {s₀ s : State} (h : TablesKept s₀ s) (parcels parts part : Nat) (ls : List (List (Nat × Lot))) :
    TablesKept s₀ (s.notifyDiscard parcels parts part ls) := by
  induction ls generalizing part s with
  | nil => exact h
  | cons l ls ih => exact ih (h.notify _) (part + 1)

theorem TablesKept.payProving : TablesKept s₀ s.payProving := by
  unfold State.payProving
  split <;> exact h

theorem TablesKept.refire : TablesKept s₀ s.refire := by
  refine State.each_induct (TablesKept s₀) _ _ _ h fun x _ t ht => ?_
  split
  · exact ht.fire ..
  · exact ht

theorem TablesKept.payStore : TablesKept s₀ s.payStore := by
  unfold State.payStore
  split <;> exact h

theorem TablesKept.lineReset : TablesKept s₀ s.lineReset := by
  unfold State.lineReset State.resetNotices
  exact (((h.resetUnits.notify _).notifyDiscard ..).payProving.refire).payStore

theorem TablesKept.doResetLine (a : Unit) : TablesKept s₀ (doResetLine a s).1 := by
  have hlink : TablesKept s₀ (s.onLink LinkUnit.resetByRequest) := h
  simp only [Machine.doResetLine]
  exact hlink.lineReset

theorem TablesKept.assertPin : TablesKept s₀ s.assertPin := by
  have hcut : TablesKept s₀ ({ s with pin := true }.onLink fun u => { u with transmitter := .idle }) := h
  exact hcut.holdCounters.endProving.onComm _

theorem TablesKept.releasePin : TablesKept s₀ ({ s with pin := false }.onLink LinkUnit.resetByPin).lineReset := by
  have hlink : TablesKept s₀ ({ s with pin := false }.onLink LinkUnit.resetByPin) := h
  exact hlink.lineReset

end Reset

/-! ### Power (R16, R174, R176) -/

theorem StoredSet.numbered_factory : StoredSet.factory.Numbered := ⟨by decide, by decide⟩

/-- R174: what power leaves of the image. -/
theorem StoreUnit.Numbered.keptImage {u : StoreUnit} (h : u.Numbered) : ∀ d, u.keptImage = some d → d.Numbered := by
  intro d hd
  unfold StoreUnit.keptImage at hd
  split at hd
  · nomatch hd
  · exact h.1 d hd

/-- R176: what is loaded at power-on. -/
theorem numbered_loadedSet {image : Option StoredSet} (h : ∀ d, image = some d → d.Numbered) : (loadedSet image).Numbered := by
  cases image with
  | none => exact StoredSet.numbered_factory
  | some d => exact h d rfl

/-- R55, R98, R141: at power-on the tables are empty, and the units are numbered as the set loaded is. -/
theorem TablesKept.fresh {s₀ : State} {image : Option StoredSet} {set : StoredSet} (seen : List FieldInput) (baud draws : Nat)
    (pending : List Instr) (h : s₀.Numbered → (∀ d, image = some d → d.Numbered) ∧ set.Numbered) :
    TablesKept s₀ (State.fresh image set seen baud draws pending) := by
  refine ⟨fun _ => ⟨rfl, rfl, rfl, rfl, rfl, rfl⟩, fun h₀ => ?_⟩
  obtain ⟨himage, htracks, hset⟩ := h h₀
  obtain ⟨hchannels, hmap⟩ := Bool.and_eq_true_iff.mp hset
  exact ⟨(inOrder_mapVals ..).trans htracks, (numbered_mapVals ..).trans hchannels, ⟨rfl, hmap, rfl⟩, himage,
    fun _ hs => nomatch hs⟩

theorem TablesKept.powerUp (s : State) (seen : List FieldInput) (baud : Nat) : TablesKept s (s.powerUp seen baud) := by
  have hfresh := TablesKept.fresh (s₀ := s) (image := s.store.keptImage) seen baud s.draws s.pending fun ⟨_, _, _, hstore⟩ =>
    ⟨hstore.keptImage, numbered_loadedSet hstore.keptImage⟩
  exact State.each_induct (TablesKept s) _ _ _ (hfresh.notify _) fun c _ _ ht => ht.reform c .external _

theorem TablesKept.powerDown (s : State) : TablesKept s s.powerDown :=
  TablesKept.fresh (s₀ := s) [] s.link.baud s.draws s.pending fun ⟨_, _, _, hstore⟩ =>
    ⟨hstore.keptImage, StoredSet.numbered_factory⟩

/-! ### Every command -/

theorem TablesKept.act {s t : State} {effect : State → State} (hc : s.act effect = .next t) (he : TablesKept s (effect s)) :
    TablesKept s t := by
  cases hp : s.powered with
  | true =>
    rw [State.act_powered _ _ hp] at hc
    cases hc
    exact he.finish
  | false =>
    rw [State.act_unpowered _ _ hp] at hc
    cases hc
    exact .refl s

theorem TablesKept.handOn {α : Type} {s : State} {r : Request} {parse : List Byte → Option α}
    {owner : α → State → State × ReplyBody} (ho : ∀ a, TablesKept s (owner a s).1) : TablesKept s (s.handOn r parse owner) := by
  have h := TablesKept.refl s
  unfold State.handOn
  (repeat' split) <;> try exact h
  exact ho _

/-- A command that names a line of the part, or faults. -/
theorem TablesKept.guarded {s t : State} {i : Instr} {o : Outcome} (h : (if i.wellFormed then o else .fault .noSuchLine) = .next t)
    (ho : o = .next t → TablesKept s t) : TablesKept s t := by
  split at h
  · exact ho h
  · nomatch h

/-- Whatever command is taken, the form of the tables and the numbers of the units carry over. -/
theorem TablesKept.exec {c : Instr} {s t : State} (hc : exec c s = .next t) : TablesKept s t := by
  have h := TablesKept.refl s
  cases c <;> simp only [Machine.exec] at hc
  case start => exact .act hc (.handOn h.doStart)
  case stop => exact .act hc (.handOn h.doStop)
  case halt => exact .act hc (.handOn h.doHalt)
  case resume => exact .act hc (.handOn h.doResume)
  case clear => exact .act hc (.handOn h.doClear)
  case resetLine => exact .act hc (.handOn h.doResetLine)
  case timeSet => exact .act hc (.handOn h.doTimeSet)
  case timeTrim => exact .act hc (.handOn h.doTimeTrim)
  case trackDefine => exact .act hc (.handOn h.doTrackDefine)
  case zoneDefine => exact .act hc (.handOn h.doZoneDefine)
  case trackRead => exact .act hc (.handOn h.doTrackRead)
  case dividerReset => exact .act hc (.handOn h.doDividerReset)
  case noticeModeSet => exact .act hc (.handOn h.doNoticeModeSet)
  case infeedDeclare => exact .act hc (.handOn h.doInfeedDeclare)
  case parcelRead => exact .act hc (.handOn h.doParcelRead)
  case lotRead => exact .act hc (.handOn h.doLotRead)
  case channelSet => exact .act hc (.handOn h.doChannelSet)
  case offsetStep => exact .act hc (.handOn h.doOffsetStep)
  case levelsSet => exact .act hc (.handOn h.doLevelsSet)
  case routeSet => exact .act hc (.handOn h.doRouteSet)
  case externalTripSet => exact .act hc (.handOn h.doExternalTripSet)
  case samplingSet => exact .act hc (.handOn h.doSamplingSet)
  case tripAck => exact .act hc (.handOn h.doTripAck)
  case channelRead => exact .act hc (.handOn h.doChannelRead)
  case rateTableSet => exact .act hc (.handOn h.doRateTableSet)
  case recipeThermalSet => exact .act hc (.handOn h.doRecipeThermalSet)
  case recipePackingSet => exact .act hc (.handOn h.doRecipePackingSet)
  case classMapSet => exact .act hc (.handOn h.doClassMapSet)
  case deadTimeSet => exact .act hc (.handOn h.doDeadTimeSet)
  case laneOpen => exact .act hc (.handOn h.doLaneOpen)
  case laneClose => exact .act hc (.handOn h.doLaneClose)
  case bagRead => exact .act hc (.handOn h.doBagRead)
  case bagWeight => exact .act hc (.handOn h.doBagWeight)
  case palletClose => exact .act hc (.handOn h.doPalletClose)
  case palletRead => exact .act hc (.handOn h.doPalletRead)
  case shuttleReset => exact .act hc (.handOn h.doShuttleReset)
  case jobLimitSet => exact .act hc (.handOn h.doJobLimitSet)
  case proveStart => exact .act hc (.handOn h.doProveStart)
  case proveAbort => exact .act hc (.handOn h.doProveAbort)
  case commission => exact .act hc (.handOn h.doCommission)
  case unlock => exact .act hc (.handOn h.doUnlock)
  case storeSave => exact .act hc (.handOn h.doStoreSave)
  case statusRead => exact .act hc (.handOn fun _ => h)
  case timeRead => exact .act hc (.handOn fun _ => h)
  case provingRead => exact .act hc (.handOn fun _ => h)
  case holdRange => exact .act hc (.handOn fun _ => h.onParcels _)
  case clearHoldRange => exact .act hc (.handOn fun _ => h.onParcels _)
  case unknownKind => exact .act hc h.answerUnknown
  case frameReceived bytes => exact .act hc h
  case interByteGapTimeout => exact .act hc h
  case brokenCharacter => exact .act hc h
  case frameSent => exact .act hc h.frameSent
  case baseMillisecond seen => exact .guarded hc fun hc => .act hc (h.millisecond seen)
  case encoderPulse input presence => exact .guarded hc fun hc => .act hc (h.encoder input presence)
  case pollRoundStart =>
    refine .act hc ?_
    split
    · exact h.beginRound
    · exact h
  case sampleFrame bytes => exact .act hc (h.sampleBytes bytes)
  case answerWindowClose => exact .act hc h.closeWindow
  case externalTripEdge input => exact .guarded hc fun hc => .act hc (h.deliver fun _ _ ht => ht.externalEdge ..)
  case stallTimerExpiry track =>
    exact .guarded hc fun hc => .act hc (h.expire fun _ ht => (ht.onTrackRec ..).raiseHalt _)
  case drainTimerExpiry =>
    refine .act hc (h.expire fun t ht => ?_)
    split
    · exact ht.enterHalted _
    · exact ht
  case gateTimerExpiry => exact .act hc (h.expire fun _ ht => ht.openPending)
  case exposureTimerExpiry record => exact .guarded hc fun hc => .act hc (h.expire fun _ ht => ht.exposureExpired record)
  case shuttleJobTimerExpiry =>
    refine .act hc (h.expire fun t ht => ?_)
    split
    · exact ht.faultShuttle _
    · exact ht
  case acceptEdge =>
    refine .act hc (h.deliver fun e t ht => ?_)
    split
    · exact TablesKept.accepted (s := t.onShuttle _) ht
    · exact ht
  case loadedEdge =>
    refine .act hc (h.deliver fun e t ht => ?_)
    split
    · exact TablesKept.loaded (s := t.onShuttle _) ht
    · exact ht
  case doneEdge =>
    refine .act hc (h.deliver fun e t ht => ?_)
    split
    · exact TablesKept.jobDone (s := t.onShuttle _) ht
    · exact ht
  case faultEdge =>
    refine .act hc (h.deliver fun e t ht => ?_)
    split
    · exact TablesKept.faultShuttle (s := t.onShuttle _) ht _
    · exact ht
  case doorEyeEdge =>
    refine .act hc (h.deliver fun e t ht => ?_)
    split
    · exact ht.doorEdge _
    · exact ht
  case sealEdge lane =>
    refine .guarded hc fun hc => .act hc (h.deliver fun e t ht => ?_)
    split
    · exact ht.sealLane ..
    · exact ht
  case readyEdge lane => exact .guarded hc fun hc => .act hc (h.deliver fun _ _ ht => ht.onLane ..)
  case commissionKeyEdge => exact .act hc (h.deliver fun _ _ ht => ht)
  case saveEnd ok =>
    refine .act hc ?_
    split
    · next v hv => exact h.endSave v ok hv
    · exact h
  case lineResetPinAssert =>
    refine .act hc ?_
    split
    · exact h
    · exact h.assertPin
  case lineResetPinRelease =>
    refine .act hc ?_
    split
    · exact h.releasePin
    · exact h
  case powerOn seen a b =>
    rw [execPowerOn_next hc]
    exact (TablesKept.powerUp s seen (baudOf a b)).finish
  case powerLoss => exact .act hc (.powerDown s)

theorem TablesKept.step {s t : State} (hstep : step s = .next t) : TablesKept s t := by
  unfold Machine.step at hstep
  split at hstep
  · cases hstep
    exact .refl s
  · next c rest _ =>
    exact TablesKept.exec (s := { s with pending := rest }) hstep

/-- Settles O57: the step carries the form of the tables over, and apart from it the numbers of the units. -/
theorem tablesAndNumbersAreKept : Obligations.TablesAndNumbersAreKept := by
  refine ⟨fun s t hs hstep => (TablesKept.step hstep).1 hs, fun s t htracks hunits hstep => ?_⟩
  exact (numbered_iff t).mp ((TablesKept.step hstep).2 ((numbered_iff s).mpr ⟨htracks, hunits⟩))

end Sys2Proof.Machine
end

section
/-! ## DIVIDER RESET, TRACK DEFINE, ZONE DEFINE and NOTICE MODE SET (R34, R36, R37, R42, R48) -/

namespace Sys2Proof.Machine

-- One declaration after the other, so that the text needs one thread for them and not one each.
set_option Elab.async false

/-! ### A pulse that counts nowhere (R9, R40) -/

theorem exec_encoderPulse_powered {s : State} {input : Nat} (presence : Bool) (hw : s.powered = true) (h1 : 1 ≤ input)
    (h4 : input ≤ 4) : exec (.encoderPulse input presence) s = .next (s.encoder input presence).finish := by
  rw [exec, execEncoderPulse, if_pos (by simp [Instr.wellFormed, h1, h4]), State.act_powered _ _ hw]

/-- R40: the tracks that count a pulse take it one after the other, in some order. -/
theorem State.encoder_order (s : State) (input : Nat) (presence : Bool) : ∃ d order, order.Perm (s.track.counted input) ∧
    s.encoder input presence = State.each (State.pulse presence) order { s with draws := d } := by
  unfold State.encoder
  dsimp only
  split
  · exact ⟨_, _, permuteBy_perm .., rfl⟩
  · exact ⟨s.draws, _, .refl _, rfl⟩

/-- A state that no element changes is what is left at the end. -/
theorem State.each_fixed {α : Type} {f : α → State → State} {l : List α} {s : State} (h : ∀ a ∈ l, f a s = s) :
    State.each f l s = s :=
  State.each_induct (· = s) f l s rfl fun a ha _ ht => ht ▸ h a ha

theorem State.pulse_held {s : State} {n : Nat} (presence : Bool)
    (h : ∀ tr, s.track.tracks.get? n = some tr → s.counting tr = false) : s.pulse presence n = s := by
  unfold State.pulse
  split
  · rfl
  · next tr htr => rw [if_neg (by simp [h tr htr])]

/-- R9, R15: what it is for a counter to count. -/
theorem State.counting_iff (s : State) (tr : Track) : s.counting tr = true ↔
    s.pin = false ∧ (s.line.state.runs = true ∨ (s.line.state = .halted ∧ 0 < tr.counter)) := by
  simp [State.counting]

/-- R42: at rest a counter at 0 is held. -/
theorem State.counting_rest {s : State} (hs : s.line.state = .setup ∨ s.line.state = .ready ∨ s.line.state = .halted) {tr : Track}
    (htr : tr.counter = 0) : s.counting tr = false := by
  rcases hs with hs | hs | hs <;> simp [State.counting, hs, htr, LineState.runs]

/-! ### DIVIDER RESET -/

theorem exec_dividerReset_taken {s : State} {f : Frame} {g : Byte} (h : AtHand s .dividerReset f) (hf : f.payload = [g])
    (hs : s.line.state = .setup ∨ s.line.state = .ready ∨ s.line.state = .halted) :
    exec .dividerReset s = .next ((doDividerReset g.toNat s).1.replied f (doDividerReset g.toNat s).2) :=
  State.act_handOn s .dividerReset f parseByte doDividerReset (taken_of_mem h (by simpa [admittedIn] using hs)) _ (by rw [hf]; rfl)

theorem any_group_iff (ts : Table Track) (g : Nat) :
    (ts.vals.any fun t => decide (t.group = g)) = true ↔ ∃ e ∈ ts, e.2.group = g := by
  simp [Table.vals]

/-- R42: the checks of DIVIDER RESET in their order. -/
theorem doDividerReset_cases (s : State) (g : Nat) :
    (2 < g → doDividerReset g s = s.refuse .badValue) ∧
    (g ≤ 2 → (∀ e ∈ s.track.tracks, e.2.group ≠ g) → doDividerReset g s = s.refuse .notFound) ∧
    (g ≤ 2 → (∃ e ∈ s.track.tracks, e.2.group = g) → doDividerReset g s =
      (s.onTrack fun u => { u with tracks := u.tracks.mapVals fun _ t => if t.group = g then { t with counter := 0 } else t },
        .status .ok)) := by
  refine ⟨fun hg => if_pos hg, fun hg hnone => ?_, fun hg hsome => ?_⟩
  · have hany : ¬(s.track.tracks.vals.any fun t => decide (t.group = g)) = true := by
      rw [any_group_iff]
      rintro ⟨e, he, heq⟩
      exact hnone e he heq
    rw [doDividerReset, if_neg (Nat.not_lt.mpr hg), if_neg hany]
  · rw [doDividerReset, if_neg (Nat.not_lt.mpr hg), if_pos ((any_group_iff ..).mpr hsome)]

/-- Settles O24: at rest counters at 0 are held, and DIVIDER RESET makes them so for the tracks of its group. -/
theorem dividerResetClearsCounters : Obligations.DividerResetClearsCounters := by
  refine ⟨fun s input presence hw h1 h4 hs hzero => ?_, fun s f g h hf => ⟨fun hs => ?_, fun hs => ?_⟩⟩
  · obtain ⟨d, order, hperm, hencoder⟩ := s.encoder_order input presence
    refine ⟨d, ?_⟩
    rw [exec_encoderPulse_powered presence hw h1 h4, hencoder, State.each_fixed]
    exact fun n hn => State.pulse_held presence fun tr htr => State.counting_rest hs (hzero n (hperm.mem_iff.mp hn) tr htr)
  · refine exec_unavailable rfl h (by rw [hf]; rfl) ?_
    rcases hs with hs | hs | hs <;> simp [hs, admittedIn]
  · obtain ⟨hbad, hnone, hsome⟩ := doDividerReset_cases s g.toNat
    rw [exec_dividerReset_taken h hf hs]
    refine ⟨fun hg => ?_, fun hg hall => ?_, fun hg hex => ?_⟩
    · rw [hbad hg]
      rfl
    · rw [hnone hg hall]
      rfl
    · rw [hsome hg hex]
      rfl

/-! ### An accepted edit of the tracks (R163, R164) -/

/-- R163, R164: the state after an accepted edit of the track unit has been answered. -/
def State.trackEdited (s : State) (f : Frame) (g : TrackUnit → TrackUnit) : State :=
  ((s.onTrack g).edited).replied f (.status .ok)

@[simp] theorem State.trackEdited_track (s : State) (f : Frame) (g : TrackUnit → TrackUnit) :
    (s.trackEdited f g).track = g s.track := by simp [State.trackEdited]

theorem State.trackEdited_frame (s : State) (f : Frame) (g : TrackUnit → TrackUnit) :
    s.trackEdited f g = { s with
      track := (s.trackEdited f g).track, comm := (s.trackEdited f g).comm, link := (s.trackEdited f g).link
      pins := (s.trackEdited f g).pins } := by
  apply State.ext_fields <;> simp [State.trackEdited]

theorem State.edited_trackEdited (s : State) (f : Frame) (g : TrackUnit → TrackUnit) : Edited s (s.trackEdited f g) :=
  State.replied_comm ..

theorem State.replied_trackEdited {s : State} {f : Frame} (h : s.link.oldest = some f) (g : TrackUnit → TrackUnit) :
    Replied (s.trackEdited f g) f (.status .ok) :=
  State.replied_made_of_rest (u := (s.onTrack g).edited) h rfl _

/-- R34: the tracks after a removal. -/
def TrackUnit.without (n : Nat) (u : TrackUnit) : TrackUnit :=
  { u with tracks := (u.tracks.del n).modify (n - 1) fun t => { t with queue := [] } }

/-- R34: the tracks after a definition. -/
def TrackUnit.define (d : TrackDefine) (mode : NoticeMode) (u : TrackUnit) : TrackUnit :=
  { u with tracks := u.tracks.put d.track (d.toTrack mode (u.tracks.get? d.track)) }

/-- R37: the tracks after a zone list has been accepted. -/
def TrackUnit.rezone (n : Nat) (zs : List Zone) (u : TrackUnit) : TrackUnit :=
  { u with tracks := u.tracks.modify n fun t => { t with zones := zs } }

/-- R164: an edit is refused while a COMMISSION save is in flight. -/
theorem commissioning_false {s : State} (h : ¬CommissionInFlight s) : ¬s.store.commissioning = true :=
  mt (commissioning_iff s).mp h

/-! ### TRACK DEFINE: its checks -/

theorem exec_trackDefine_taken {s : State} {f : Frame} {n s0 s1 p0 p1 g l0 l1 m : Byte} (h : Taken s .trackDefine f)
    (hf : f.payload = [n, s0, s1, p0, p1, g, l0, l1, m]) {d : TrackDefine}
    (hd : d = ⟨n.toNat, leNat [s0, s1], leNat [p0, p1], g.toNat, leNat [l0, l1], m.toNat⟩) :
    exec .trackDefine s = .next ((doTrackDefine d s).1.replied f (doTrackDefine d s).2) :=
  State.act_handOn s .trackDefine f parseTrackDefine doTrackDefine h _ (by rw [hf, hd]; rfl)

/-- R34: the segments of the other tracks, as the check sums them. -/
theorem segmentsWithout_eq (n : Nat) (ts : Table Track) :
    segmentsWithout n ts = ((ts.filter fun e => decide (e.1 ≠ n)).map fun e => e.2.segments).sum := by
  induction ts with
  | nil => rfl
  | cons e ts ih =>
    by_cases h : e.1 = n <;> simp [segmentsWithout, h, ih]

/-- R36, R37: the zones of the other tracks, as the check sums them. -/
theorem zonesWithout_eq (n : Nat) (ts : Table Track) :
    zonesWithout n ts = ((ts.filter fun e => decide (e.1 ≠ n)).map fun e => e.2.zones.length).sum := by
  induction ts with
  | nil => rfl
  | cons e ts ih =>
    by_cases h : e.1 = n <;> simp [zonesWithout, h, ih]

/-- R33: the three modes and their numbers. -/
theorem NoticeMode.number_of_ofNat? {n : Nat} {mode : NoticeMode} (h : NoticeMode.ofNat? n = some mode) : mode.number = n := by
  unfold NoticeMode.ofNat? at h
  split at h
  · cases h
    simp_all [NoticeMode.number]
  · split at h
    · cases h
      simp_all [NoticeMode.number]
    · split at h
      · cases h
        simp_all [NoticeMode.number]
      · nomatch h

theorem NoticeMode.isSome_ofNat? (n : Nat) : (NoticeMode.ofNat? n).isSome = true ↔ n ≤ 2 := by
  unfold NoticeMode.ofNat?
  (repeat' split) <;> simp <;> omega

/-- R33, R34: the ranges of a definition's fields. -/
theorem TrackDefine.ok_iff (d : TrackDefine) : d.ok = true ↔
    16 ≤ d.segments ∧ d.segments ≤ 512 ∧ 1 ≤ d.pulses ∧ d.pulses ≤ 65535 ∧ d.group ≤ 2 ∧ 100 ≤ d.stallLimit ∧
      d.stallLimit ≤ 10000 ∧ d.mode ≤ 2 := by
  simp only [TrackDefine.ok, Bool.and_eq_true, decide_eq_true_iff, NoticeMode.isSome_ofNat?, and_assoc]

/-- R34: the number of a definition or removal is that of a track in order, or of the next one. -/
abbrev TrackDefine.InOrder (d : TrackDefine) (s : State) : Prop := 1 ≤ d.track ∧ d.track ≤ 4 ∧ d.track ≤ s.track.tracks.length + 1

theorem doTrackDefine_notInOrder {d : TrackDefine} {s : State} (h : ¬d.InOrder s) : doTrackDefine d s = s.refuse .badValue := by
  unfold doTrackDefine
  by_cases hrange : 1 ≤ d.track ∧ d.track ≤ 4
  · have hnext : s.track.count + 1 < d.track := by
      simp only [TrackUnit.count]
      omega
    rw [if_neg (not_not.mpr hrange), if_pos hnext]
  · rw [if_pos hrange]

/-- R34: the checks of a removal. -/
theorem doTrackDefine_removal {d : TrackDefine} {s : State} (h : d.InOrder s) (hzero : d.segments = 0) :
    (d.track ≠ s.track.tracks.length → doTrackDefine d s = s.refuse .badValue) ∧
    (d.track = s.track.tracks.length → CommissionInFlight s → doTrackDefine d s = s.refuse .busy) ∧
    (d.track = s.track.tracks.length → ¬CommissionInFlight s →
      doTrackDefine d s = ((s.onTrack (TrackUnit.without d.track)).edited, .status .ok)) := by
  obtain ⟨h1, h4, hnext⟩ := h
  rw [doTrackDefine, TrackUnit.count, if_neg (not_not.mpr ⟨h1, h4⟩), if_neg (Nat.not_lt.mpr hnext), if_pos hzero]
  refine ⟨fun hne => if_pos hne, fun heq hbusy => ?_, fun heq hfree => ?_⟩
  · rw [if_neg (not_not.mpr heq), if_pos ((commissioning_iff s).mpr hbusy)]
  · rw [if_neg (not_not.mpr heq), if_neg (commissioning_false hfree)]
    rfl

/-- R34, R36: the checks of a definition. -/
theorem doTrackDefine_definition {d : TrackDefine} {s : State} (h : d.InOrder s) (hseg : d.segments ≠ 0) :
    (¬d.ok = true → doTrackDefine d s = s.refuse .badValue) ∧
    (d.ok = true → 1000 < d.segments + segmentsWithout d.track s.track.tracks → doTrackDefine d s = s.refuse .badValue) ∧
    (d.ok = true → d.segments + segmentsWithout d.track s.track.tracks ≤ 1000 →
      (s.track.tracks.get? d.track = none → 16 ≤ s.track.zoneMap.length → doTrackDefine d s = s.refuse .full) ∧
      (s.track.tracks.get? d.track ≠ none ∨ s.track.zoneMap.length < 16 →
        (CommissionInFlight s → doTrackDefine d s = s.refuse .busy) ∧
        (¬CommissionInFlight s → ∃ mode : NoticeMode, mode.number = d.mode ∧
          doTrackDefine d s = ((s.onTrack (TrackUnit.define d mode)).edited, .status .ok)))) := by
  obtain ⟨h1, h4, hnext⟩ := h
  rw [doTrackDefine, TrackUnit.count, if_neg (not_not.mpr ⟨h1, h4⟩), if_neg (Nat.not_lt.mpr hnext), if_neg hseg]
  refine ⟨fun hbad => if_pos (by simpa using hbad), fun hok hcells => ?_, fun hok hcells => ?_⟩
  · rw [if_neg (by simpa using hok), if_pos (by simpa [Config.cellCount] using hcells)]
  · rw [if_neg (by simpa using hok), if_neg (by simpa [Config.cellCount] using hcells)]
    refine ⟨fun hnone hzones => ?_, fun hroom => ?_⟩
    · rw [if_pos ⟨by simp [hnone], hzones⟩]
    · have hzones : ¬((s.track.tracks.get? d.track).isNone = true ∧ Config.zoneCount ≤ s.track.zoneMap.length) := by
        rintro ⟨hnone, hfull⟩
        exact hroom.elim (fun hdef => hdef (by simpa using hnone)) (Nat.not_lt.mpr hfull)
      rw [if_neg hzones]
      refine ⟨fun hbusy => if_pos ((commissioning_iff s).mpr hbusy), fun hfree => ?_⟩
      obtain ⟨-, -, -, -, -, -, -, hmode⟩ := d.ok_iff.mp hok
      obtain ⟨mode, hm⟩ := Option.isSome_iff_exists.mp ((NoticeMode.isSome_ofNat? d.mode).mpr hmode)
      refine ⟨mode, NoticeMode.number_of_ofNat? hm, ?_⟩
      simp only [if_neg (commissioning_false hfree), hm]
      rfl

/-! ### TRACK DEFINE: what a removal leaves -/

/-- R34: the tracks after a removal: the track is gone, the queue that fed it is empty, and the others stand. -/
theorem TrackUnit.get?_without {u : TrackUnit} {n : Nat} (hwf : u.tracks.wf = true) (k : Nat) :
    (u.without n).tracks.get? k = if k = n then none
      else if k = n - 1 then (u.tracks.get? k).map fun t => { t with queue := [] } else u.tracks.get? k := by
  rw [TrackUnit.without, Table.get?_modify, Table.get?_del hwf]
  split_ifs <;> rfl

/-- Settles O22: the checks in their order, then the edit of the tracks, which is answered. -/
theorem trackDefineDefines : Obligations.TrackDefineDefines := by
  intro s f n s0 s1 p0 p1 g l0 l1 m h hf others hothers inRange hinRange
  obtain ⟨d, hd⟩ : ∃ d : TrackDefine, d = ⟨n.toNat, leNat [s0, s1], leNat [p0, p1], g.toNat, leNat [l0, l1], m.toNat⟩ := ⟨_, rfl⟩
  have hexec := exec_trackDefine_taken h hf hd
  obtain ⟨⟨-, -, hold, -⟩, -⟩ := h
  have hok : inRange ↔ d.ok = true := by
    rw [d.ok_iff, hinRange, hd]
  have hsum : others = segmentsWithout d.track s.track.tracks := by
    rw [segmentsWithout_eq, hothers, hd]
  have htrack : n.toNat = d.track := by rw [hd]
  have hsegments : leNat [s0, s1] = d.segments := by rw [hd]
  have hpulses : leNat [p0, p1] = d.pulses := by rw [hd]
  have hgroup : g.toNat = d.group := by rw [hd]
  have hlimit : leNat [l0, l1] = d.stallLimit := by rw [hd]
  have hmode : m.toNat = d.mode := by rw [hd]
  rw [hexec, hok, hsum, htrack, hsegments, hpulses, hgroup, hlimit, hmode]
  refine ⟨fun hout => ?_, fun h1 h4 hnext hzero => ?_, fun h1 h4 hnext hseg => ?_⟩
  · rw [doTrackDefine_notInOrder (by omega)]
    rfl
  · obtain ⟨hbad, hbusy, hdone⟩ := doTrackDefine_removal ⟨h1, h4, hnext⟩ hzero
    refine ⟨fun hne => ?_, fun heq hc => ?_, fun heq hfree hwf => ?_⟩
    · rw [hbad hne]
      rfl
    · rw [hbusy heq hc]
      rfl
    · rw [hdone heq hfree]
      refine ⟨s.trackEdited f (TrackUnit.without d.track), rfl, s.trackEdited_frame f _, s.edited_trackEdited f _, ?_, ?_,
        fun k hk hk' => ?_, fun k hk => ?_, State.replied_trackEdited hold _⟩ <;> rw [State.trackEdited_track]
      · rfl
      · rw [TrackUnit.get?_without hwf, if_pos rfl]
      · rw [TrackUnit.get?_without hwf, if_neg hk, if_neg (by omega)]
      · rw [TrackUnit.get?_without hwf, if_neg (by omega), if_pos (by omega)]
  · obtain ⟨hbad, hcells, hgood⟩ := doTrackDefine_definition ⟨h1, h4, hnext⟩ hseg
    refine ⟨fun hr => ?_, fun hr hc => ?_, fun hr hc => ⟨fun hnone hz => ?_, fun hroom => ?_⟩⟩
    · rw [hbad hr]
      rfl
    · rw [hcells hr hc]
      rfl
    · rw [(hgood hr hc).1 hnone hz]
      rfl
    · obtain ⟨hbusy, hdone⟩ := (hgood hr hc).2 hroom
      refine ⟨fun hcomm => ?_, fun hfree => ?_⟩
      · rw [hbusy hcomm]
        rfl
      · obtain ⟨mode, hnumber, hdo⟩ := hdone hfree
        rw [hdo]
        refine ⟨s.trackEdited f (TrackUnit.define d mode), mode, rfl, s.trackEdited_frame f _, s.edited_trackEdited f _, ?_,
          hnumber, fun k hk => ?_, ⟨d.toTrack mode (s.track.tracks.get? d.track), ?_, rfl, rfl, rfl, rfl, rfl, rfl, rfl, rfl, rfl,
            rfl, rfl⟩, State.replied_trackEdited hold _⟩ <;> rw [State.trackEdited_track]
        · rfl
        · exact Table.get?_put_ne _ _ hk
        · exact Table.get?_put_self ..

/-! ### ZONE DEFINE -/

theorem exec_zoneDefine_taken {s : State} {f : Frame} {n k : Byte} {rest : List Byte} (h : Taken s .zoneDefine f)
    (hf : f.payload = n :: k :: rest) (hlen : rest.length = 5 * k.toNat) :
    exec .zoneDefine s = .next ((doZoneDefine ⟨n.toNat, zoneEntries rest⟩ s).1.replied f
      (doZoneDefine ⟨n.toNat, zoneEntries rest⟩ s).2) :=
  State.act_handOn s .zoneDefine f parseZoneDefine doZoneDefine h _ (by rw [hf]; exact if_pos hlen)

/-- R189: five bytes make an entry. -/
theorem zoneEntries_length {k : Nat} {bs : List Byte} (h : bs.length = 5 * k) : (zoneEntries bs).length = k := by
  induction k generalizing bs with
  | zero =>
    rw [List.length_eq_zero_iff.mp h]
    rfl
  | succ k ih =>
    obtain _ | ⟨a, _ | ⟨b, _ | ⟨c, _ | ⟨d, _ | ⟨e, bs⟩⟩⟩⟩⟩ := bs <;> simp only [List.length_cons, List.length_nil] at h <;> try omega
    rw [zoneEntries, List.length_cons, ih (by omega)]

/-- R36, R37: the entries that are not well formed. -/
theorem ZoneEntry.zone?_none {e : ZoneEntry} (h : e.length = 0 ∨ 3 < e.kind ∨ 1 < e.flag ∨
      ((e.kind = 0 ∨ e.kind = 2) ∧ (e.flag = 0 ∨ e.channel = 0 ∨ 16 < e.channel)) ∨ ((e.kind = 1 ∨ e.kind = 3) ∧ e.flag = 1)) :
    e.zone? = none := by
  rcases h with hlength | hkind | hflag | ⟨hkind, hchannel⟩ | ⟨hkind, hflag⟩
  · exact if_pos hlength
  · have hnone : ZoneKind.ofNat? e.kind = none := by
      simp [ZoneKind.ofNat?, show e.kind ≠ 0 ∧ e.kind ≠ 1 ∧ e.kind ≠ 2 ∧ e.kind ≠ 3 by omega]
    simp [ZoneEntry.zone?, hnone]
  · have hnone : optField e.flag e.channel = none := by simp [optField, show e.flag ≠ 0 ∧ e.flag ≠ 1 by omega]
    simp [ZoneEntry.zone?, hnone]
  · grind [ZoneEntry.zone?, ZoneKind.ofNat?, optField]
  · grind [ZoneEntry.zone?, ZoneKind.ofNat?, optField]

/-- R36, R37: the fields of an entry that give a zone. -/
theorem ZoneEntry.zone?_some {e : ZoneEntry} {z : Zone} (hlength : 1 ≤ z.length)
    (hbound : (z.kind = .blanch ∨ z.kind = .freeze) → ∃ c, z.channel = some c ∧ 1 ≤ c ∧ c ≤ 16)
    (hfree : z.kind = .cool ∨ z.kind = .plain → z.channel = none)
    (h : e.length = z.length ∧ e.kind = z.kind.number ∧ (z.channel = none → e.flag = 0) ∧
      ∀ c, z.channel = some c → e.flag = 1 ∧ e.channel = c) : e.zone? = some z := by
  obtain ⟨length, kind, channel⟩ := z
  obtain ⟨hlen, hkind, hnone, hsome⟩ := h
  have hne : ¬e.length = 0 := by
    rw [hlen]
    exact Nat.ne_of_gt hlength
  cases kind with
  | blanch =>
    obtain ⟨c, rfl, h1, h16⟩ := hbound (.inl rfl)
    obtain ⟨hflag, rfl⟩ := hsome c rfl
    simp_all [ZoneEntry.zone?, ZoneKind.ofNat?, optField, ZoneKind.number]
  | cool =>
    obtain rfl := hfree (.inl rfl)
    simp_all [ZoneEntry.zone?, ZoneKind.ofNat?, optField, ZoneKind.number]
  | freeze =>
    obtain ⟨c, rfl, h1, h16⟩ := hbound (.inr rfl)
    obtain ⟨hflag, rfl⟩ := hsome c rfl
    simp_all [ZoneEntry.zone?, ZoneKind.ofNat?, optField, ZoneKind.number]
  | plain =>
    obtain rfl := hfree (.inr rfl)
    simp_all [ZoneEntry.zone?, ZoneKind.ofNat?, optField, ZoneKind.number]

/-- R37: one entry that is not well formed spoils the list. -/
theorem zones?_none {es : List ZoneEntry} {e : ZoneEntry} (he : e ∈ es) (h : e.zone? = none) : zones? es = none := by
  induction es with
  | nil => nomatch he
  | cons e' es ih =>
    rcases List.mem_cons.mp he with rfl | he
    · rw [zones?, h]
    · rw [zones?, ih he]
      cases e'.zone? <;> rfl

theorem zones?_some {es : List ZoneEntry} {zs : List Zone} (h : List.Forall₂ (fun e z => e.zone? = some z) es zs) :
    zones? es = some zs := by
  induction h with
  | nil => rfl
  | cons hz _ ih => rw [zones?, hz, ih]

/-- R37: ZONE DEFINE of an undefined track, of a list too short or too long, and of a list with a bad entry. -/
theorem doZoneDefine_refused (s : State) (n : Nat) (es : List ZoneEntry) :
    (s.track.tracks.get? n = none → doZoneDefine ⟨n, es⟩ s = s.refuse .notFound) ∧
    ∀ tr, s.track.tracks.get? n = some tr →
      (es.length = 0 ∨ 8 < es.length → doZoneDefine ⟨n, es⟩ s = s.refuse .badValue) ∧
      (1 ≤ es.length → es.length ≤ 8 → zones? es = none → doZoneDefine ⟨n, es⟩ s = s.refuse .badValue) := by
  refine ⟨fun hnone => ?_, fun tr htr => ⟨fun hlen => ?_, fun h1 h8 hbad => ?_⟩⟩
  · simp only [doZoneDefine, hnone]
  · have hout : ¬(1 ≤ es.length ∧ es.length ≤ 8) := by omega
    simp only [doZoneDefine, htr, if_pos hout]
  · simp only [doZoneDefine, htr, hbad, if_neg (not_not.mpr (And.intro h1 h8))]

/-- R37, R164: the checks on a list of well-formed entries. -/
theorem doZoneDefine_cases {s : State} {n : Nat} {es : List ZoneEntry} {zs : List Zone} {tr : Track}
    (htr : s.track.tracks.get? n = some tr) (h1 : 1 ≤ es.length) (h8 : es.length ≤ 8) (hzs : zones? es = some zs) :
    ((zs.map fun z => z.length).sum ≠ tr.segments → doZoneDefine ⟨n, es⟩ s = s.refuse .badValue) ∧
    ((zs.map fun z => z.length).sum = tr.segments → 16 < zonesWithout n s.track.tracks + zs.length →
      doZoneDefine ⟨n, es⟩ s = s.refuse .full) ∧
    ((zs.map fun z => z.length).sum = tr.segments → zonesWithout n s.track.tracks + zs.length ≤ 16 → CommissionInFlight s →
      doZoneDefine ⟨n, es⟩ s = s.refuse .busy) ∧
    ((zs.map fun z => z.length).sum = tr.segments → zonesWithout n s.track.tracks + zs.length ≤ 16 → ¬CommissionInFlight s →
      doZoneDefine ⟨n, es⟩ s = ((s.onTrack (TrackUnit.rezone n zs)).edited, .status .ok)) := by
  simp only [doZoneDefine, htr, hzs, if_neg (not_not.mpr (And.intro h1 h8)), Config.zoneCount]
  refine ⟨fun hsum => if_pos hsum, fun hsum hfull => ?_, fun hsum hroom hbusy => ?_, fun hsum hroom hfree => ?_⟩
  · rw [if_neg (not_not.mpr hsum), if_pos hfull]
  · rw [if_neg (not_not.mpr hsum), if_neg (Nat.not_lt.mpr hroom), if_pos ((commissioning_iff s).mpr hbusy)]
  · rw [if_neg (not_not.mpr hsum), if_neg (Nat.not_lt.mpr hroom), if_neg (commissioning_false hfree)]
    rfl

/-! ### NOTICE MODE SET -/

/-- R48, R116: the outfeed notice setting is read where it is there. -/
theorem parseNoticeMode_cons {n m : Byte} {o : List Byte} (h : o.length ≤ 1) :
    parseNoticeMode (n :: m :: o) = some (n.toNat, m.toNat, o.head?.map BitVec.toNat) := by
  rcases o with _ | ⟨b, _ | ⟨c, o⟩⟩
  · rfl
  · rfl
  · simp at h

theorem exec_noticeModeSet_taken {s : State} {f : Frame} {n m : Byte} {o : List Byte} (h : AtHand s .noticeModeSet f)
    (hf : f.payload = n :: m :: o) (ho : o.length ≤ 1) : exec .noticeModeSet s =
      .next ((doNoticeModeSet (n.toNat, m.toNat, o.head?.map BitVec.toNat) s).1.replied f
        (doNoticeModeSet (n.toNat, m.toNat, o.head?.map BitVec.toNat) s).2) :=
  State.act_handOn s .noticeModeSet f parseNoticeMode doNoticeModeSet (taken_of_always h fun _ => rfl) _
    (by rw [hf]; exact parseNoticeMode_cons ho)

/-- R116: the byte 0 for ON and the byte 1 for OFF. -/
theorem outfeedField_some {o : List Byte} (h : o = [] ∨ o = [0] ∨ o = [1]) (old : Bool) :
    ∃ out, outfeedField (o.head?.map BitVec.toNat) = some out ∧
      out.getD old = if o = [0] then true else if o = [1] then false else old := by
  rcases h with rfl | rfl | rfl <;> exact ⟨_, rfl, rfl⟩

theorem outfeedField_none {o : List Byte} (ho : o.length ≤ 1) (h : o ≠ [] ∧ o ≠ [0] ∧ o ≠ [1]) :
    outfeedField (o.head?.map BitVec.toNat) = none := by
  obtain ⟨hnil, h0, h1⟩ := h
  rcases o with _ | ⟨b, _ | ⟨c, o⟩⟩
  · exact absurd rfl hnil
  · have hb0 : ¬b.toNat = 0 := fun e => h0 (congrArg (fun x => [x]) (BitVec.eq_of_toNat_eq e))
    have hb1 : ¬b.toNat = 1 := fun e => h1 (congrArg (fun x => [x]) (BitVec.eq_of_toNat_eq e))
    simp [outfeedField, outfeedSetting?, hb0, hb1]
  · simp at ho

/-- R48, R116: NOTICE MODE SET with a malformed field. -/
theorem doNoticeModeSet_refused {s : State} {n m : Nat} {field : Option Nat}
    (h : n < 1 ∨ 4 < n ∨ 2 < m ∨ outfeedField field = none) : doNoticeModeSet (n, m, field) s = s.refuse .badValue := by
  unfold doNoticeModeSet
  split
  · next mode out hmode hout =>
    have hm := (NoticeMode.isSome_ofNat? m).mp (by simp [hmode])
    refine if_pos ?_
    rintro ⟨h1, h4⟩
    rcases h with h | h | h | h
    · exact Nat.not_le_of_lt h h1
    · exact Nat.not_le_of_lt h h4
    · exact Nat.not_le_of_lt h hm
    · exact nomatch hout.symm.trans h
  · rfl

/-- R48, R116: NOTICE MODE SET with well-formed fields. -/
theorem doNoticeModeSet_cases {s : State} {n m : Nat} {field : Option Nat} {out : Option Bool} (h1 : 1 ≤ n) (h4 : n ≤ 4)
    (hm : m ≤ 2) (hout : outfeedField field = some out) :
    (s.track.tracks.get? n = none → doNoticeModeSet (n, m, field) s = s.refuse .notFound) ∧
    (s.track.tracks.get? n ≠ none → ∃ mode : NoticeMode, mode.number = m ∧ doNoticeModeSet (n, m, field) s =
      ((s.onTrackRec n fun t => { t with staged := some mode }).onCredit fun u =>
        { u with outfeedNotices := out.getD u.outfeedNotices }, .status .ok)) := by
  obtain ⟨mode, hmode⟩ := Option.isSome_iff_exists.mp ((NoticeMode.isSome_ofNat? m).mpr hm)
  simp only [doNoticeModeSet, hmode, hout, if_neg (not_not.mpr (And.intro h1 h4))]
  refine ⟨fun hnone => if_pos (by simp [hnone]), fun hsome => ⟨mode, NoticeMode.number_of_ofNat? hmode, ?_⟩⟩
  rw [if_neg (by simpa using hsome)]

/-- Settles O23: the checks of each request in their order, then the zones replaced, or the mode staged and the setting taken. -/
theorem zonesAndModesAreSet : Obligations.ZonesAndModesAreSet := by
  refine ⟨fun s f n k rest es h hf hlen hes => ?_, fun s f n m o h hf ho => ⟨fun hbad => ?_, fun h1 h4 hm hout => ?_⟩⟩
  · have hexec := exec_zoneDefine_taken h hf hlen
    obtain ⟨⟨-, -, hold, -⟩, -⟩ := h
    rw [← hes] at hexec
    obtain ⟨hnone, hsome⟩ := doZoneDefine_refused s n.toNat es
    have hk : es.length = k.toNat := by rw [hes, zoneEntries_length hlen]
    rw [hexec, ← hk]
    refine ⟨fun hn => ?_, fun tr htr others hothers => ?_⟩
    · rw [hnone hn]
      rfl
    · obtain ⟨hcount, hentry⟩ := hsome tr htr
      refine ⟨fun hc => ?_, fun h1 h8 hz => ?_, fun h1 h8 hz => ?_, fun zs h1 h8 hvalid hfields => ?_⟩
      · rw [hcount hc]
        rfl
      · obtain ⟨e, he, hbad⟩ := hz
        rw [hentry h1 h8 (zones?_none he (ZoneEntry.zone?_none (.inl hbad)))]
        rfl
      · obtain ⟨e, he, hbad⟩ := hz
        rw [hentry h1 h8 (zones?_none he (ZoneEntry.zone?_none (.inr hbad)))]
        rfl
      · have hzones : zones? es = some zs := by
          refine zones?_some ?_
          rw [List.forall₂_iff_get] at hfields ⊢
          obtain ⟨hlength, hget⟩ := hfields
          refine ⟨hlength, fun i hi hi' => ?_⟩
          obtain ⟨hz1, hbound, hfree⟩ := hvalid _ (List.get_mem zs ⟨i, hi'⟩)
          exact ZoneEntry.zone?_some hz1 hbound hfree (hget i hi hi')
        have hothers' : others = zonesWithout n.toNat s.track.tracks := by rw [zonesWithout_eq, hothers]
        obtain ⟨hsum, hfull, hbusy, hdone⟩ := doZoneDefine_cases htr h1 h8 hzones
        rw [hothers']
        refine ⟨fun hs => ?_, fun hs hf => ?_, fun hs hr hc => ?_, fun hs hr hfree => ?_⟩
        · rw [hsum hs]
          rfl
        · rw [hfull hs hf]
          rfl
        · rw [hbusy hs hr hc]
          rfl
        · rw [hdone hs hr hfree]
          refine ⟨s.trackEdited f (TrackUnit.rezone n.toNat zs), rfl, s.trackEdited_frame f _, s.edited_trackEdited f _, ?_, ?_,
            fun j hj => ?_, State.replied_trackEdited hold _⟩ <;> rw [State.trackEdited_track]
          · rfl
          · rw [TrackUnit.rezone, Table.get?_modify_self, htr]
            rfl
          · exact Table.get?_modify_ne _ _ hj
  · rw [exec_noticeModeSet_taken h hf ho, doNoticeModeSet_refused]
    · rfl
    · exact hbad.imp_right fun h => h.imp_right fun h => h.imp_right (outfeedField_none ho)
  · obtain ⟨out, hfield, hgetD⟩ := outfeedField_some hout s.credit.outfeedNotices
    obtain ⟨hnone, hsome⟩ := doNoticeModeSet_cases (s := s) h1 h4 hm hfield
    rw [exec_noticeModeSet_taken h hf ho]
    refine ⟨fun hn => ?_, fun hn => ?_⟩
    · rw [hnone hn]
      rfl
    · obtain ⟨mode, hnumber, hdo⟩ := hsome hn
      refine ⟨mode, hnumber, ?_⟩
      rw [hdo, ← hgetD]
      rfl

end Sys2Proof.Machine
end

section
/-! ## The pulses of any track (R9, R39, R40, R52) -/

namespace Sys2Proof.Machine

-- One declaration after the other, so that the text needs one thread for them and not one each.
set_option Elab.async false

/-! ### The source of a track (R39) -/

/-- The record found first has the least key of those with the property. -/
theorem Table.first?_le {α : Type} {p : Nat → α → Bool} {t : Table α} (h : t.wf = true) {k : Nat} {v : α}
    (hfirst : t.first? p = some (k, v)) {j : Nat} {w : α} (hj : (j, w) ∈ t) (hw : p j w = true) : k ≤ j := by
  rw [Table.wf_iff, List.pairwise_map] at h
  induction t with
  | nil => nomatch hj
  | cons e t ih =>
    obtain ⟨m, x⟩ := e
    obtain ⟨hlt, hrest⟩ := List.pairwise_cons.mp h
    rw [Table.first?] at hfirst
    split at hfirst
    · cases hfirst
      rcases List.mem_cons.mp hj with heq | hj
      · cases heq
        exact Nat.le_refl _
      · exact Nat.le_of_lt (hlt _ hj)
    · next hx =>
      rcases List.mem_cons.mp hj with heq | hj
      · cases heq
        exact absurd hw hx
      · exact ih hrest hfirst hj

theorem Table.first?_isSome {α : Type} {p : Nat → α → Bool} {t : Table α} {j : Nat} {w : α} (hj : (j, w) ∈ t)
    (hw : p j w = true) : ∃ e, t.first? p = some e := by
  induction t with
  | nil => nomatch hj
  | cons e t ih =>
    obtain ⟨m, x⟩ := e
    rw [Table.first?]
    split
    · exact ⟨_, rfl⟩
    · next hx =>
      rcases List.mem_cons.mp hj with heq | hj
      · cases heq
        exact absurd hw hx
      · exact ih hj

/-- In a table with rising keys the first record with a property is the one of the least key. -/
theorem Table.first?_iff {α : Type} {p : Nat → α → Bool} {t : Table α} (h : t.wf = true) (k : Nat) :
    (t.first? p).map (fun e => e.1) = some k ↔
      (∃ v, t.get? k = some v ∧ p k v = true) ∧ ∀ j w, t.get? j = some w → p j w = true → k ≤ j := by
  constructor
  · intro hfirst
    obtain ⟨⟨k', v⟩, hfound, rfl⟩ := Option.map_eq_some_iff.mp hfirst
    obtain ⟨hmem, hp⟩ := Table.first?_some hfound
    exact ⟨⟨v, Table.get?_of_mem h hmem, hp⟩, fun j w hj hw => Table.first?_le h hfound (Table.mem_of_get? hj) hw⟩
  · rintro ⟨⟨v, hk, hp⟩, hmin⟩
    obtain ⟨⟨j, w⟩, hfound⟩ := Table.first?_isSome (Table.mem_of_get? hk) hp
    obtain ⟨hmem, hw⟩ := Table.first?_some hfound
    have hle := Table.first?_le h hfound (Table.mem_of_get? hk) hp
    rw [hfound, Option.map_some, Nat.le_antisymm hle (hmin j w (Table.get?_of_mem h hmem) hw)]

theorem Table.mem_keys_iff {α : Type} {t : Table α} (h : t.wf = true) (k : Nat) :
    k ∈ t.map (fun e => e.1) ↔ ∃ v, t.get? k = some v := by
  constructor
  · intro hk
    obtain ⟨⟨j, v⟩, hmem, rfl⟩ := List.mem_map.mp hk
    exact ⟨v, Table.get?_of_mem h hmem⟩
  · rintro ⟨v, hv⟩
    exact List.mem_map.mpr ⟨(k, v), Table.mem_of_get? hv, rfl⟩

/-- R39: a track of no group counts its own input, a member of a link group that of the group's first member. -/
theorem TrackUnit.source_iff {u : TrackUnit} (h : u.tracks.wf = true) {n : Nat} {tr : Track} (hget : u.tracks.get? n = some tr)
    (input : Nat) : u.source n = some input ↔ (tr.group = 0 → input = n) ∧
      (tr.group ≠ 0 → (∃ m, u.tracks.get? input = some m ∧ m.group = tr.group) ∧
        ∀ k m, u.tracks.get? k = some m → m.group = tr.group → input ≤ k) := by
  simp only [TrackUnit.source, hget]
  by_cases hg : tr.group = 0
  · simp [hg, eq_comm]
  · rw [if_neg hg, Table.first?_iff h]
    simp [hg]

theorem TrackUnit.mem_counted_iff {u : TrackUnit} (h : u.tracks.wf = true) (input n : Nat) : n ∈ u.counted input ↔
    ∃ tr, u.tracks.get? n = some tr ∧ (tr.group = 0 → input = n) ∧
      (tr.group ≠ 0 → (∃ m, u.tracks.get? input = some m ∧ m.group = tr.group) ∧
        ∀ k m, u.tracks.get? k = some m → m.group = tr.group → input ≤ k) := by
  rw [TrackUnit.counted, List.mem_filter, Table.mem_keys_iff h, decide_eq_true_iff]
  constructor
  · rintro ⟨⟨tr, hget⟩, hsource⟩
    exact ⟨tr, hget, (TrackUnit.source_iff h hget input).mp hsource⟩
  · rintro ⟨tr, hget, hsource⟩
    exact ⟨⟨tr, hget⟩, (TrackUnit.source_iff h hget input).mpr hsource⟩

theorem TrackUnit.counted_nodup {u : TrackUnit} (h : u.tracks.wf = true) (input : Nat) : (u.counted input).Nodup :=
  (((Table.wf_iff _).mp h).imp Nat.ne_of_lt).filter _

/-! ### A pulse that counts (R40, R52) -/

/-- R52: the stall timer of track `n` re-armed while RUN is asserted. -/
def State.stallRearmed (n : Nat) (tr : Track) (s : State) : State := { s with
  time := if s.line.state.runs = true ∧ tr.backedUp = false then
      { s.time with timers := s.time.timers.put (n - 1) (min (s.time.lineTime + tr.stallLimit) 281474976710655) }
    else s.time }

/-- R40: a pulse at a counting counter. -/
theorem State.pulse_counting {s : State} {n : Nat} {tr : Track} (hget : s.track.tracks.get? n = some tr)
    (hcount : s.counting tr = true) (presence : Bool) : s.pulse presence n =
      if tr.counter + 1 < tr.pulses then (s.stallRearmed n tr).onTrackRec n fun t => { t with counter := t.counter + 1 }
      else ((s.stallRearmed n tr).onTrackRec n fun t => { t with counter := 0 }).index n { tr with counter := 0 } presence
        s.time.lineTime := by
  have harmed : (if s.trackRun n then s.armFor (.stall n) tr.stallLimit else s) = s.stallRearmed n tr := by
    unfold State.stallRearmed
    rw [State.trackRun_of_get? hget]
    cases s.line.state.runs <;> cases tr.backedUp <;> rfl
  unfold State.pulse
  simp only [hget, hcount, if_true, harmed]

/-- R40: the pulse on an input that one track counts. -/
theorem State.encoder_one {s : State} {input n : Nat} (h : s.track.counted input = [n]) (presence : Bool) :
    s.encoder input presence = s.pulse presence n := by
  simp [State.encoder, h, State.each]

/-- R40: the pulse on an input that no track counts. -/
theorem State.encoder_none {s : State} {input : Nat} (h : s.track.counted input = []) (presence : Bool) :
    s.encoder input presence = s := by
  simp [State.encoder, h, State.each]

/-! ### Pulses that complete no segment -/

/-- What a pulse that completes no segment makes of a track's counter. -/
def State.afterPulse (s : State) (tr : Track) : Track := if s.counting tr then { tr with counter := tr.counter + 1 } else tr

/-- R40, R52: the pulse at the tracks of `l`, none of which completes its segment: counters and stall timers, and no other. -/
structure Pulsed (l : List Nat) (s t : State) : Prop where
  frame : t = { s with
    track := { s.track with tracks := t.track.tracks }, time := { s.time with timers := t.time.timers }, draws := t.draws }
  tracks : ∀ n, t.track.tracks.get? n = (s.track.tracks.get? n).map fun tr => if n ∈ l then s.afterPulse tr else tr
  armed : ∀ n tr, n ∈ l → s.track.tracks.get? n = some tr → s.counting tr = true → s.line.state.runs = true →
    tr.backedUp = false → t.time.timers.get? (n - 1) = some (min (s.time.lineTime + tr.stallLimit) 281474976710655)
  others : ∀ k, (∀ n ∈ l, n - 1 ≠ k) → t.time.timers.get? k = s.time.timers.get? k

theorem Pulsed.nil (s : State) (d : Nat) : Pulsed [] s { s with draws := d } where
  frame := rfl
  tracks n := by simp
  armed n tr hn := by simp at hn
  others k _ := rfl

theorem Pulsed.held {s : State} {n : Nat} (h : ∀ tr, s.track.tracks.get? n = some tr → s.counting tr = false) :
    Pulsed [n] s s where
  frame := rfl
  tracks m := by
    cases hget : s.track.tracks.get? m with
    | none => rfl
    | some tr =>
      rw [Option.map_some]
      split
      · next hm =>
        obtain rfl := List.mem_singleton.mp hm
        rw [State.afterPulse, if_neg (by simp [h tr hget])]
      · rfl
  armed m tr hm hget hcount := by
    obtain rfl := List.mem_singleton.mp hm
    rw [h tr hget] at hcount
    nomatch hcount
  others k _ := rfl

theorem Pulsed.counts {s : State} {n : Nat} {tr : Track} (hget : s.track.tracks.get? n = some tr)
    (hcount : s.counting tr = true) :
    Pulsed [n] s ((s.stallRearmed n tr).onTrackRec n fun t => { t with counter := t.counter + 1 }) where
  frame := by
    unfold State.stallRearmed State.onTrackRec State.onTrack
    dsimp only
    split <;> rfl
  tracks m := by
    show (s.track.tracks.modify n _).get? m = _
    rw [Table.get?_modify]
    by_cases hm : m = n
    · subst hm
      rw [if_pos rfl, hget]
      simp [State.afterPulse, hcount]
    · simp [hm]
  armed m tr' hm hget' _ hruns hback := by
    obtain rfl := List.mem_singleton.mp hm
    obtain rfl := Option.some.inj (hget.symm.trans hget')
    show (if s.line.state.runs = true ∧ tr.backedUp = false then
      { s.time with timers := s.time.timers.put (m - 1) (min (s.time.lineTime + tr.stallLimit) 281474976710655) }
      else s.time).timers.get? (m - 1) = _
    rw [if_pos ⟨hruns, hback⟩, Table.get?_put_self]
  others k hk := by
    have hne : k ≠ n - 1 := (hk n (List.mem_singleton_self n)).symm
    show (if s.line.state.runs = true ∧ tr.backedUp = false then
      { s.time with timers := s.time.timers.put (n - 1) (min (s.time.lineTime + tr.stallLimit) 281474976710655) }
      else s.time).timers.get? k = _
    split
    · exact Table.get?_put_ne _ _ hne
    · rfl

/-- R40: a pulse that does not complete the segment of track `n`. -/
theorem Pulsed.pulse {s : State} {n : Nat} (presence : Bool)
    (h : ∀ tr, s.track.tracks.get? n = some tr → s.counting tr = true → tr.counter + 1 < tr.pulses) :
    Pulsed [n] s (s.pulse presence n) := by
  by_cases hheld : ∀ tr, s.track.tracks.get? n = some tr → s.counting tr = false
  · rw [State.pulse_held presence hheld]
    exact .held hheld
  · push Not at hheld
    obtain ⟨tr, hget, hcount⟩ := hheld
    have hcount : s.counting tr = true := by simpa using hcount
    rw [State.pulse_counting hget hcount, if_pos (h tr hget hcount)]
    exact .counts hget hcount

theorem Pulsed.counting {l : List Nat} {s t : State} (h : Pulsed l s t) : t.counting = s.counting := by
  funext tr
  rw [h.frame]
  rfl

theorem Pulsed.cons {n : Nat} {l : List Nat} {s t u : State} (hn : n ∉ l) (hpos : ∀ m ∈ n :: l, 1 ≤ m) (h : Pulsed [n] s t)
    (h' : Pulsed l t u) : Pulsed (n :: l) s u := by
  have hline : t.line = s.line := by rw [h.frame]
  have htime : t.time.lineTime = s.time.lineTime := by rw [h.frame]
  have hafter : t.afterPulse = s.afterPulse := by
    funext tr
    rw [State.afterPulse, State.afterPulse, h.counting]
  have hother : ∀ m ∈ l, t.track.tracks.get? m = s.track.tracks.get? m := fun m hm => by
    have hne : m ∉ [n] := fun hmem => hn (List.mem_singleton.mp hmem ▸ hm)
    rw [h.tracks]
    simp [hne]
  constructor
  case frame =>
    rw [h'.frame, h.frame]
  case tracks =>
    intro m
    rw [h'.tracks, h.tracks, Option.map_map, hafter]
    congr 1
    funext tr
    by_cases hm : m = n
    · subst hm
      simp [hn]
    · simp [hm]
  case armed =>
    intro m tr hm hget hcount hruns hback
    rcases List.mem_cons.mp hm with rfl | hml
    · rw [h'.others _ fun k hk heq => ?_]
      · exact h.armed m tr (List.mem_singleton_self m) hget hcount hruns hback
      · have h1 := hpos m (List.mem_cons_self ..)
        have hk1 := hpos k (List.mem_cons_of_mem _ hk)
        obtain rfl : k = m := by omega
        exact hn hk
    · rw [h'.armed m tr hml ((hother m hml).trans hget) (by rwa [h.counting]) (by rwa [hline]) hback, htime]
  case others =>
    intro k hk
    rw [h'.others k fun m hm => hk m (List.mem_cons_of_mem _ hm), h.others k fun m hm => ?_]
    exact hk m (List.mem_cons.mpr (Or.inl (List.mem_singleton.mp hm)))

/-- R40: a pulse that completes no segment, at one track after the other. -/
theorem Pulsed.each {l : List Nat} {s : State} (presence : Bool) (hnodup : l.Nodup) (hpos : ∀ m ∈ l, 1 ≤ m)
    (h : ∀ n ∈ l, ∀ tr, s.track.tracks.get? n = some tr → s.counting tr = true → tr.counter + 1 < tr.pulses) :
    Pulsed l s (State.each (State.pulse presence) l s) := by
  induction l generalizing s with
  | nil => exact .nil s s.draws
  | cons n l ih =>
    obtain ⟨hn, hnodup⟩ := List.nodup_cons.mp hnodup
    have hfirst := Pulsed.pulse presence (h n (List.mem_cons_self ..))
    refine .cons hn hpos hfirst (ih hnodup (fun m hm => hpos m (List.mem_cons_of_mem _ hm)) fun m hm tr hget hcount => ?_)
    have hne : m ∉ [n] := fun hmem => hn (List.mem_singleton.mp hmem ▸ hm)
    rw [hfirst.tracks] at hget
    rw [hfirst.counting] at hcount
    exact h m (List.mem_cons_of_mem _ hm) tr (by simpa [hne] using hget) hcount

/-! ### The pulse on an input -/

/-- R39, R40: what an input's pulse does where no counter completes a segment. -/
theorem Pulsed.encoder {s : State} {input : Nat} (presence : Bool) (horder : TracksInOrder s)
    (h : ∀ n ∈ s.track.counted input, ∀ tr, s.track.tracks.get? n = some tr → s.counting tr = true →
      tr.counter + 1 < tr.pulses) : Pulsed (s.track.counted input) s (s.encoder input presence) := by
  have hwf := inOrder_wf horder.1
  obtain ⟨d, order, hperm, hencoder⟩ := s.encoder_order input presence
  have hpos : ∀ m ∈ order, 1 ≤ m := fun m hm => by
    obtain ⟨tr, hget, -⟩ := (TrackUnit.mem_counted_iff hwf input m).mp (hperm.mem_iff.mp hm)
    exact inOrder_pos horder.1 _ (Table.mem_of_get? hget)
  have heach := Pulsed.each (s := { s with draws := d }) presence (hperm.nodup_iff.mpr (TrackUnit.counted_nodup hwf input)) hpos
    fun n hn => h n (hperm.mem_iff.mp hn)
  rw [← hencoder] at heach
  exact ⟨heach.frame, fun n => by rw [heach.tracks]; simp only [hperm.mem_iff]; rfl,
    fun n tr hn => heach.armed n tr (hperm.mem_iff.mpr hn), fun k hk => heach.others k fun n hn => hk n (hperm.mem_iff.mp hn)⟩

end Sys2Proof.Machine
end

section
/-! ## An index of any track (R43 to R47, R169)

An index taken apart: the departure, the advance, the fill and the staged edits up to the notice; then the notice, and the end of a
proving run. What each part leaves of gauges, notices, parcels and timers is stated once, for every track. -/

namespace Sys2Proof.Machine

-- One declaration after the other, so that the text needs one thread for them and not one each.
set_option Elab.async false

/-! ### The parts of an index -/

/-- R43 to R46: an index of track `n` up to its notice. -/
def State.indexed (n : Nat) (t : Track) (presence : Bool) (stamp : Nat) (s : State) : State :=
  (((s.depart n t stamp).advance n stamp).fill n presence stamp).applyStaged n stamp

theorem State.index_eq (n : Nat) (t : Track) (presence : Bool) (stamp : Nat) (s : State) : s.index n t presence stamp =
    ((s.indexed n t presence stamp).indexNotice n ((s.depart n t stamp).crosses n) stamp).completeProving := rfl

/-- R40, R52: the state a pulse that completes the segment of track `n` hands to the index. -/
def State.segmentEnded (n : Nat) (tr : Track) (s : State) : State :=
  (s.stallRearmed n tr).onTrackRec n fun t => { t with counter := 0 }

theorem exec_indexes {s : State} {input n : Nat} {tr : Track} (h : Indexes s input n tr) (presence : Bool) :
    exec (.encoderPulse input presence) s =
      .next ((s.segmentEnded n tr).index n { tr with counter := 0 } presence s.time.lineTime).finish := by
  obtain ⟨hw, hp, h1, h4, hcounted, hget, hr, hpulses⟩ := h
  rw [exec_encoderPulse_powered presence hw h1 h4, State.encoder_one hcounted,
    State.pulse_counting hget ((s.counting_iff tr).mpr ⟨hp, hr⟩), if_neg (Nat.not_lt.mpr hpulses)]
  rfl

/-- R169: what the end of a proving run does, where it comes. -/
theorem State.completeProving_cases (s : State) : s.completeProving = s ∨
    ∃ record : ProvingRecord, s.completeProving =
      ((s.onComm fun u => { u with record := record }).dropCurrent.notify (.provingResult record)).endProvingLine := by
  unfold State.completeProving
  split
  · split
    · exact Or.inr ⟨_, rfl⟩
    · exact Or.inl rfl
  · exact Or.inl rfl

/-! ### The lane choice leaves the link, and every timer but the gate's (R130) -/

/-- Power, the link, and the timers apart from the gate timer. -/
def State.besideGate (s : State) : Bool × LinkUnit × (Nat → Option Nat) :=
  (s.powered, s.link, fun j => if j = TimerId.gate.index then none else s.time.timers.get? j)

section Beside
variable (s : State)

@[simp] theorem besideGate_onLot (slot : Nat) (f : Lot → Lot) : (s.onLot slot f).besideGate = s.besideGate := rfl
@[simp] theorem besideGate_onDist (f : DistributionUnit → DistributionUnit) : (s.onDist f).besideGate = s.besideGate := rfl
@[simp] theorem besideGate_onLane (n : Nat) (f : Lane → Lane) : (s.onLane n f).besideGate = s.besideGate := rfl
@[simp] theorem besideGate_lotBreak (lanes : List Nat) (slot : Nat) : (s.lotBreak lanes slot).besideGate = s.besideGate := rfl

@[simp] theorem besideGate_closeGate (pending : Option Nat) : (s.closeGate pending).besideGate = s.besideGate := by
  refine Prod.ext rfl (Prod.ext rfl (funext fun j => ?_))
  show (if j = TimerId.gate.index then none else (s.time.timers.put TimerId.gate.index _).get? j) = _
  split
  · next hj => exact (if_pos hj).symm
  · next hj => rw [Table.get?_put_ne _ _ hj]; exact (if_neg hj).symm

@[simp] theorem besideGate_requestGate (b : Nat) : (s.requestGate b).besideGate = s.besideGate := by
  unfold State.requestGate
  (repeat' split) <;> simp

@[simp] theorem besideGate_toLaneZero (c : LaneZeroCause) : (s.toLaneZero c).1.besideGate = s.besideGate := by
  unfold State.toLaneZero State.requestLaneZero State.countLaneZero
  dsimp only
  split <;> simp

@[simp] theorem besideGate_joinBag (k n : Nat) (p : Parcel) : (s.joinBag k n p).besideGate = s.besideGate := by
  unfold State.joinBag
  dsimp only
  (repeat' split) <;> simp

@[simp] theorem besideGate_divert (n stamp : Nat) (p : Parcel) : (s.divert n stamp p).1.besideGate = s.besideGate := by
  unfold State.divert
  split
  · simp
  · split <;> simp [State.openBag]

@[simp] theorem besideGate_passGate (n : Nat) (p : Parcel) (stamp : Nat) : (s.passGate n p stamp).1.besideGate = s.besideGate := by
  unfold State.passGate
  dsimp only
  split <;> simp [State.countRun, State.countLaneZero]

@[simp] theorem besideGate_useLane (n : Nat) (p : Parcel) (stamp : Nat) : (s.useLane n p stamp).1.besideGate = s.besideGate := by
  unfold State.useLane
  dsimp only
  split <;> simp

@[simp] theorem besideGate_chooseLane (e : ClassEntry) (p : Parcel) (stamp : Nat) :
    (s.chooseLane e p stamp).1.besideGate = s.besideGate := by
  unfold State.chooseLane
  dsimp only
  split <;> simp

@[simp] theorem besideGate_distribute (p : Parcel) (v : VerdictRecord) : (s.distribute p v).1.besideGate = s.besideGate := by
  unfold State.distribute
  (repeat' split) <;> simp

end Beside

theorem State.distribute_link (s : State) (p : Parcel) (v : VerdictRecord) : (s.distribute p v).1.link = s.link :=
  congrArg (fun view => view.2.1) (besideGate_distribute s p v)

theorem State.distribute_timers (s : State) (p : Parcel) (v : VerdictRecord) {j : Nat} (hj : j ≠ 5) :
    (s.distribute p v).1.time.timers.get? j = s.time.timers.get? j := by
  have hview := congrFun (congrArg (fun view => view.2.2) (besideGate_distribute s p v)) j
  simpa [State.besideGate, TimerId.index, hj] using hview

/-! ### A departure up to the end of a drain (R5, R50, R68) -/

/-- Power, line reset pin and line controller. -/
def State.stance (s : State) : Bool × Bool × LineUnit := (s.powered, s.pin, s.line)

theorem State.stance_eq_iff {s t : State} : t.stance = s.stance ↔ t.powered = s.powered ∧ t.pin = s.pin ∧ t.line = s.line := by
  simp [State.stance]

theorem State.distribute_stance (s : State) (p : Parcel) (v : VerdictRecord) : (s.distribute p v).1.stance = s.stance :=
  State.stance_eq_iff.mpr ⟨congrArg Prod.fst (besideGate_distribute s p v), pin_of_lineView (lineView_distribute s p v),
    line_of_lineView (lineView_distribute s p v)⟩

theorem State.takeEntry_keeps (s : State) (p : Parcel) (entry : ProvingRun → ProvingEntry) :
    (s.takeEntry p entry).stance = s.stance ∧ (s.takeEntry p entry).time = s.time ∧ (s.takeEntry p entry).track = s.track ∧
      (s.takeEntry p entry).parcel = s.parcel := by
  unfold State.takeEntry
  split <;> exact ⟨rfl, rfl, rfl, rfl⟩

theorem State.retireParcel_keeps (s : State) (k slot : Nat) (f : Lot → Lot) :
    (s.retireParcel k slot f).stance = s.stance ∧ (s.retireParcel k slot f).time = s.time ∧
      (s.retireParcel k slot f).track = s.track ∧ (s.retireParcel k slot f).parcel.parcels = s.parcel.parcels.del k := by
  obtain ⟨hparcels, -⟩ := ((s.onParcel fun u => { u with parcels := u.parcels.del k }).onLot slot f).retireTest_parcels slot
  exact ⟨State.stance_eq_iff.mpr ⟨State.retireTest_powered .., State.retireTest_pin .., State.retireTest_line ..⟩,
    State.retireTest_time .., State.retireTest_track .., hparcels⟩

/-- R68: what outfeed processing leaves of line, tracks, parcels and timers before the end of a drain is looked for. -/
theorem State.outfeed_emptied (k : Nat) (p : Parcel) (stamp : Nat) (s : State) :
    ∃ u : State, s.outfeed k p stamp = u.emptyTest ∧ u.stance = s.stance ∧ u.track = s.track ∧
      u.parcel.parcels = s.parcel.parcels.del k ∧ ∀ j, j ≠ 5 → u.time.timers.get? j = s.time.timers.get? j := by
  obtain ⟨v, hv⟩ : ∃ v, v = s.verdict p stamp := ⟨_, rfl⟩
  obtain ⟨-, -, -, -, htrack, -, hparcels, -⟩ := IndexView.mk.inj (indexView_distribute s p v)
  have hout : ∀ (u : State) entry f, u.stance = (s.distribute p v).1.stance → u.time = (s.distribute p v).1.time →
      u.track = (s.distribute p v).1.track → u.parcel = (s.distribute p v).1.parcel →
      ((u.takeEntry p entry).retireParcel k p.slot f).stance = s.stance ∧
      ((u.takeEntry p entry).retireParcel k p.slot f).track = s.track ∧
      ((u.takeEntry p entry).retireParcel k p.slot f).parcel.parcels = s.parcel.parcels.del k ∧
      ∀ j, j ≠ 5 → ((u.takeEntry p entry).retireParcel k p.slot f).time.timers.get? j = s.time.timers.get? j := by
    intro u entry f hstance htime htrack' hparcel'
    obtain ⟨e1, e2, e3, e4⟩ := u.takeEntry_keeps p entry
    obtain ⟨r1, r2, r3, r4⟩ := (u.takeEntry p entry).retireParcel_keeps k p.slot f
    refine ⟨by rw [r1, e1, hstance, State.distribute_stance], by rw [r3, e3, htrack', htrack], by rw [r4, e4, hparcel', hparcels],
      fun j hj => ?_⟩
    rw [r2, e2, htime, State.distribute_timers s p v hj]
  refine ⟨_, rfl, ?_⟩
  rw [← hv]
  split
  · exact hout _ _ _ rfl rfl rfl rfl
  · exact hout _ _ _ rfl rfl rfl rfl

/-- R50: what a loss leaves of line, tracks, parcels and timers before the end of a drain is looked for. -/
theorem State.backpressure_emptied (k n : Nat) (p : Parcel) (stamp : Nat) (s : State) :
    ∃ u : State, s.backpressure k n p stamp = u.emptyTest ∧ u.stance = s.stance ∧
      u.track = { s.track with tracks := s.track.tracks.modify n fun t => { t with backedUp := true } } ∧
      u.parcel.parcels = s.parcel.parcels.del k ∧ u.time = (s.cancel (.stall n)).time := by
  obtain ⟨e1, e2, e3, e4⟩ := s.takeEntry_keeps p fun _ => lostEntry p
  obtain ⟨r1, r2, r3, r4⟩ := (s.takeEntry p fun _ => lostEntry p).retireParcel_keeps k p.slot Lot.lose
  refine ⟨_, rfl, ?_, ?_, ?_, ?_⟩
  · exact r1.trans e1
  · exact congrArg (fun u : TrackUnit => { u with tracks := u.tracks.modify n fun t => { t with backedUp := true } }) (r3.trans e3)
  · exact r4.trans (by rw [e4])
  · exact congrArg (fun u : TimeUnit => { u with timers := u.timers.del (TimerId.stall n).index }) (r2.trans e2)

/-! ### Gauges: definition, head pointer, modes -/

/-- A track without counter, marks and queue. -/
def Track.gauge (t : Track) : Track := { t with counter := 0, backedUp := false, stalled := false, queue := [] }

/-- From `s` to `t` every track keeps its gauge, and a counter at 0 stays there. -/
def GaugesKept (s t : State) : Prop := ∀ n tr, s.track.tracks.get? n = some tr →
  ∃ tr', t.track.tracks.get? n = some tr' ∧ tr'.gauge = tr.gauge ∧ (tr.counter = 0 → tr'.counter = 0)

theorem GaugesKept.of_tracks {s t : State} (h : t.track.tracks = s.track.tracks) : GaugesKept s t :=
  fun _ tr hget => ⟨tr, h ▸ hget, rfl, id⟩

theorem GaugesKept.trans {s t u : State} (h : GaugesKept s t) (h' : GaugesKept t u) : GaugesKept s u := by
  intro n tr hget
  obtain ⟨tr', hget', hgauge, hcounter⟩ := h n tr hget
  obtain ⟨tr'', hget'', hgauge', hcounter'⟩ := h' n tr' hget'
  exact ⟨tr'', hget'', hgauge'.trans hgauge, hcounter' ∘ hcounter⟩

theorem GaugesKept.onTracks (s : State) {f : Nat → Track → Track}
    (hf : ∀ n t, (f n t).gauge = t.gauge ∧ (t.counter = 0 → (f n t).counter = 0)) :
    GaugesKept s (s.onTrack fun u => { u with tracks := u.tracks.mapVals f }) := by
  intro n tr hget
  refine ⟨f n tr, ?_, hf n tr⟩
  show (s.track.tracks.mapVals f).get? n = _
  rw [Table.get?_mapVals, hget]
  rfl

theorem GaugesKept.onTrackRec (s : State) (n : Nat) {f : Track → Track}
    (hf : ∀ t, (f t).gauge = t.gauge ∧ (t.counter = 0 → (f t).counter = 0)) : GaugesKept s (s.onTrackRec n f) := by
  refine GaugesKept.onTracks s fun m t => ?_
  split
  · exact hf t
  · exact ⟨rfl, id⟩

theorem GaugesKept.emptyTest (s : State) : GaugesKept s s.emptyTest := by
  by_cases h : s.line.state = .draining ∧ s.lineEmpty = true
  · rw [State.emptyTest_drained h.1 h.2]
    refine GaugesKept.trans (.onTracks s (f := fun _ t => t.released) fun _ _ => ⟨rfl, fun _ => rfl⟩) (.of_tracks ?_)
    rw [State.drained_track]
    rfl
  · rw [State.emptyTest_keep s h]
    exact .of_tracks rfl

theorem GaugesKept.outfeed (k : Nat) (p : Parcel) (stamp : Nat) (s : State) : GaugesKept s (s.outfeed k p stamp) := by
  obtain ⟨u, hu, -, htrack, -⟩ := s.outfeed_emptied k p stamp
  rw [hu]
  exact (GaugesKept.of_tracks (by rw [htrack])).trans (.emptyTest u)

theorem GaugesKept.backpressure (k n : Nat) (p : Parcel) (stamp : Nat) (s : State) :
    GaugesKept s (s.backpressure k n p stamp) := by
  obtain ⟨u, hu, -, htrack, -⟩ := s.backpressure_emptied k n p stamp
  have hmarked := GaugesKept.onTrackRec s n (f := fun t => { t with backedUp := true }) fun _ => ⟨rfl, id⟩
  rw [hu]
  exact (hmarked.trans (.of_tracks (by rw [htrack]; rfl))).trans (.emptyTest u)

theorem GaugesKept.depart (n : Nat) (t : Track) (stamp : Nat) (s : State) : GaugesKept s (s.depart n t stamp) := by
  have hcell : ∀ cell, GaugesKept s (s.onTrack fun u => { u with cells := u.cells.del cell }) := fun _ => .of_tracks rfl
  unfold State.depart
  dsimp only
  split
  · exact .of_tracks rfl
  · split
    · exact hcell _
    · split
      · exact (hcell _).trans (.outfeed _ _ _ _)
      · split
        · exact (hcell _).trans (GaugesKept.onTrackRec _ n (f := fun t => { t with queue := t.queue ++ [_] }) fun _ => ⟨rfl, id⟩)
        · exact (hcell _).trans (.backpressure _ _ _ _ _)

theorem GaugesKept.place (k n stamp : Nat) (s : State) : GaugesKept s (s.place k n stamp) := by
  unfold State.place
  split <;> exact .of_tracks rfl

theorem GaugesKept.recover (n : Nat) (s : State) : GaugesKept s (s.recover n) := by
  unfold State.recover
  split
  · split
    · exact .onTrackRec s n fun _ => ⟨rfl, id⟩
    · exact .of_tracks rfl
  · exact .of_tracks rfl

theorem GaugesKept.fill (n : Nat) (presence : Bool) (stamp : Nat) (s : State) : GaugesKept s (s.fill n presence stamp) := by
  unfold State.fill
  split
  · split
    · exact GaugesKept.place _ _ _ (s.createParcel ..)
    · exact .of_tracks rfl
  · unfold State.takeQueue
    split
    · next k rest _ =>
      have htaken := GaugesKept.onTrackRec s (n - 1) (f := fun t => { t with queue := rest }) fun _ => ⟨rfl, id⟩
      have hmoved := htaken.trans (.of_tracks (t := (s.onTrackRec (n - 1) fun t => { t with queue := rest }).onParcel fun u =>
        { u with parcels := u.parcels.mapVals fun _ p => p.moveUp (n - 1) }) rfl)
      exact (hmoved.trans (.place _ _ _ _)).trans (.recover _ _)
    · exact .of_tracks rfl

theorem GaugesKept.completeProving (s : State) : GaugesKept s s.completeProving := by
  rcases s.completeProving_cases with h | ⟨record, h⟩
  · rw [h]
    exact .of_tracks rfl
  · rw [h]
    refine GaugesKept.trans (.onTracks s (f := fun _ t => { t with counter := 0 }) fun _ _ => ⟨rfl, fun _ => rfl⟩) (.of_tracks ?_)
    rw [State.endProvingLine, State.setLine_track, State.holdCounters, State.onTrack_track, State.cancelStalls_track,
      State.notify_track, State.dropCurrent_track]
    rfl

/-- R38, R46: a track's gauge after an index. -/
def Track.indexed (t : Track) : Track :=
  { t with head := (t.head + 1) % t.segments, mode := t.staged.getD t.mode, staged := none }

/-- R46: the staged edits change one track record alone. -/
theorem State.applyStaged_tracks (n stamp : Nat) (s : State) :
    (s.applyStaged n stamp).track = { s.track with tracks := s.track.tracks.modify n Track.applyMode } := by
  obtain ⟨htrack, -⟩ := s.applyDeclaration_keeps stamp
  have hdeclared : (if n = 1 then s.applyDeclaration stamp else s).track = s.track := by
    split
    · exact htrack
    · rfl
  unfold State.applyStaged
  dsimp only
  generalize (if n = 1 then s.applyDeclaration stamp else s) = u at hdeclared
  rw [← hdeclared]
  split <;> rfl

/-- R38, R46: the track that has been indexed. -/
theorem State.indexed_get? {n : Nat} {t tr : Track} (presence : Bool) (stamp : Nat) {s : State}
    (hget : s.track.tracks.get? n = some tr) (hzero : tr.counter = 0) :
    ∃ tr', (s.indexed n t presence stamp).track.tracks.get? n = some tr' ∧ tr'.gauge = tr.indexed.gauge ∧ tr'.counter = 0 := by
  obtain ⟨tr1, hget1, hgauge1, hzero1⟩ := GaugesKept.depart n t stamp s n tr hget
  have hadvanced : ((s.depart n t stamp).advance n stamp).track.tracks.get? n =
      some { tr1 with head := (tr1.head + 1) % tr1.segments } := by
    show ((s.depart n t stamp).track.tracks.modify n _).get? n = _
    rw [Table.get?_modify_self, hget1]
    rfl
  obtain ⟨tr2, hget2, hgauge2, hzero2⟩ := GaugesKept.fill n presence stamp _ n _ hadvanced
  refine ⟨tr2.applyMode, ?_, ?_, hzero2 (hzero1 hzero)⟩
  · rw [State.indexed, State.applyStaged_tracks, Table.get?_modify_self, hget2]
    rfl
  · calc tr2.applyMode.gauge = tr2.gauge.applyMode := rfl
      _ = tr1.gauge.indexed := by rw [hgauge2]; rfl
      _ = tr.indexed.gauge := by rw [hgauge1]; rfl

/-! ### Notices (R47, R185) -/

/-- From `s` to `t` at most `k` notices are queued, none of them an INDEX notice. -/
structure Announces (k : Nat) (s t : State) : Prop where
  room : ∀ j, Room s (j + k) → Room t j
  other : ∀ x ∈ t.link.notices, x ∈ s.link.notices ∨ ∀ m head time, x.body ≠ .index m head time

theorem Announces.of_link {k : Nat} {s t : State} (h : t.link = s.link) : Announces k s t where
  room _ hroom := (room_congr h).mpr (hroom.mono (Nat.le_add_right _ k))
  other x hx := Or.inl (by rwa [h] at hx)

theorem Announces.trans {j k : Nat} {s t u : State} (h : Announces j s t) (h' : Announces k t u) : Announces (j + k) s u where
  room i hroom := h'.room i (h.room (i + k) (hroom.mono (by omega)))
  other x hx := (h'.other x hx).elim (h.other x) Or.inr

/-- The announcements count from any state with the same link. -/
theorem Announces.since {k : Nat} {s s' t : State} (h : Announces k s' t) (hs : s'.link = s.link) : Announces k s t := by
  simpa using (Announces.of_link (k := 0) hs).trans h

theorem Announces.until {k : Nat} {s t t' : State} (h : Announces k s t) (ht : t'.link = t.link) : Announces k s t' :=
  h.trans (k := 0) (.of_link ht)

theorem Announces.notify (s : State) {b : NoticeBody} (hb : ∀ m head time, b ≠ .index m head time) :
    Announces 1 s (s.notify b) where
  room _ hroom := Room.notify hroom b
  other x hx := by
    by_cases hr : Room s 1
    · rw [State.notify_link_room s b hr] at hx
      rcases List.mem_append.mp hx with hx | hx
      · exact Or.inl hx
      · rw [List.mem_singleton.mp hx]
        exact Or.inr hb
    · rw [State.notify_link_full s b hr] at hx
      exact Or.inl hx

theorem Announces.retireTest (s : State) (slot : Nat) : Announces 1 s (s.retireTest slot) where
  room _ hroom := Room.retireTest hroom slot
  other x hx := by
    unfold State.retireTest State.offerSummary State.enterSummary at hx
    (repeat' split at hx) <;> try exact Or.inl hx
    rcases List.mem_append.mp hx with hx | hx
    · exact Or.inl hx
    · rw [List.mem_singleton.mp hx]
      exact Or.inr nofun

theorem Announces.setLine (s : State) (state : LineState) (origin : Option LineState) (cause : Option HaltCause)
    (why : LineCause) (detail : CauseDetail) : Announces 1 s (s.setLine state origin cause why detail) := by
  unfold State.setLine
  exact Announces.since (.notify _ (by nofun)) rfl

theorem State.halted_link (s : State) : s.cancelStalls.holdCounters.link = s.link := by simp

theorem Announces.emptyTest (s : State) : Announces 1 s s.emptyTest := by
  unfold State.emptyTest
  split
  · exact Announces.since (.setLine ..) (by simp)
  · exact Announces.of_link rfl

theorem Announces.retireParcel (s : State) (k slot : Nat) (f : Lot → Lot) : Announces 1 s (s.retireParcel k slot f) :=
  Announces.since (s' := State.onLot _ slot f) (.retireTest _ slot) rfl

theorem Announces.takeEntry (s : State) (p : Parcel) (entry : ProvingRun → ProvingEntry) : Announces 0 s (s.takeEntry p entry) := by
  unfold State.takeEntry
  split <;> exact .of_link rfl

/-! ### The notices of an index -/

theorem Announces.outfeed (k : Nat) (p : Parcel) (stamp : Nat) (s : State) : Announces 3 s (s.outfeed k p stamp) := by
  unfold State.outfeed
  refine Announces.trans (j := 2) ?_ (.emptyTest _)
  refine Announces.trans (j := 1) ?_ (.retireParcel ..)
  refine Announces.trans (k := 0) ?_ (.takeEntry ..)
  have hlink := s.distribute_link p (s.verdict p stamp)
  split
  · exact Announces.since (.notify _ (by nofun)) hlink
  · exact .of_link hlink

theorem Announces.backpressure (k n : Nat) (p : Parcel) (stamp : Nat) (s : State) : Announces 3 s (s.backpressure k n p stamp) := by
  unfold State.backpressure
  refine Announces.trans (j := 2) ?_ (.emptyTest _)
  refine Announces.until (t := ((s.takeEntry p fun _ => lostEntry p).retireParcel k p.slot Lot.lose).notify
    (.lost p.seq p.slot n stamp)) ?_ rfl
  refine Announces.trans (j := 1) ?_ (.notify _ (by nofun))
  exact (Announces.takeEntry ..).trans (.retireParcel ..)

theorem Announces.depart (n : Nat) (t : Track) (stamp : Nat) (s : State) : Announces 3 s (s.depart n t stamp) := by
  unfold State.depart
  dsimp only
  split
  · exact Announces.of_link rfl
  · split
    · exact Announces.of_link rfl
    · split
      · exact Announces.since (.outfeed ..) rfl
      · split
        · exact Announces.of_link rfl
        · exact Announces.since (.backpressure ..) rfl

theorem State.place_link (k n stamp : Nat) (s : State) : (s.place k n stamp).link = s.link := by
  unfold State.place
  split <;> rfl

theorem State.recover_link (n : Nat) (s : State) : (s.recover n).link = s.link := by
  unfold State.recover
  split
  · split <;> rfl
  · rfl

theorem State.fill_link (n : Nat) (presence : Bool) (stamp : Nat) (s : State) : (s.fill n presence stamp).link = s.link := by
  unfold State.fill
  split
  · split
    · exact State.place_link ..
    · rfl
  · unfold State.takeQueue
    split
    · exact (State.recover_link ..).trans (State.place_link ..)
    · rfl

theorem Announces.makeCurrent (s : State) (slot : Nat) : Announces 1 s (s.makeCurrent slot) := by
  unfold State.makeCurrent
  dsimp only
  split
  · split
    · exact Announces.of_link rfl
    · exact Announces.since (.retireTest ..) rfl
  · exact Announces.of_link rfl

/-- R59: a summary withdrawn leaves the notices. -/
theorem Announces.revive (s : State) (slot : Nat) : Announces 0 s (s.revive slot) where
  room _ hroom := by
    obtain ⟨hn, hw⟩ := hroom
    refine ⟨hn, ?_⟩
    show s.link.waiting.filter _ = []
    rw [hw]
    rfl
  other _ hx := Or.inl hx

theorem Announces.applyDeclaration (stamp : Nat) (s : State) : Announces 1 s (s.applyDeclaration stamp) := by
  unfold State.applyDeclaration State.tableFull
  split
  · exact Announces.of_link rfl
  · split
    · split
      · exact (Announces.revive s _).trans (.makeCurrent ..)
      · exact .makeCurrent ..
    · split
      · exact Announces.since (.makeCurrent ..) rfl
      · split
        · exact Announces.of_link rfl
        · exact Announces.since (s' := s.onParcel _) (.notify _ (by nofun)) rfl

theorem Announces.applyStaged (n stamp : Nat) (s : State) : Announces 1 s (s.applyStaged n stamp) := by
  have hdeclared : Announces 1 s (if n = 1 then s.applyDeclaration stamp else s) := by
    split
    · exact .applyDeclaration stamp s
    · exact Announces.of_link rfl
  unfold State.applyStaged
  dsimp only
  generalize (if n = 1 then s.applyDeclaration stamp else s) = u at hdeclared
  refine hdeclared.until ?_
  split <;> rfl

/-- R185: an index queues at most four notices before its own. -/
theorem Announces.indexed (n : Nat) (t : Track) (presence : Bool) (stamp : Nat) (s : State) :
    Announces 4 s (s.indexed n t presence stamp) := by
  have hadvanced : Announces 3 s ((s.depart n t stamp).advance n stamp) :=
    (Announces.depart n t stamp s).until rfl
  exact (hadvanced.until (State.fill_link ..)).trans (.applyStaged ..)

theorem Announces.completeProving (s : State) : Announces 3 s s.completeProving := by
  rcases s.completeProving_cases with h | ⟨record, h⟩
  · rw [h]
    exact Announces.of_link rfl
  · rw [h]
    have hdropped : Announces 1 s (s.onComm fun u => { u with record := record }).dropCurrent := by
      unfold State.dropCurrent
      dsimp only
      split
      · exact Announces.since (.retireTest ..) rfl
      · exact Announces.of_link rfl
    have hresult := hdropped.trans (.notify _ (b := .provingResult record) (by nofun))
    exact hresult.trans (Announces.since (.setLine ..) (State.halted_link _))

theorem Queued.completeProving {s : State} {b : NoticeBody} (h : Queued s b) : Queued s.completeProving b := by
  rcases s.completeProving_cases with hc | ⟨record, hc⟩
  · rwa [hc]
  · rw [hc]
    have hdropped : Queued (s.onComm fun u => { u with record := record }).dropCurrent b := Queued.dropCurrent h
    exact Queued.setLine ((queued_congr (congrArg LinkUnit.notices (State.halted_link _))).mpr (hdropped.notify _)) ..

end Sys2Proof.Machine
end

section
/-! ## Parcels and cells at an index of any track (R38, R43 to R47) -/

namespace Sys2Proof.Machine

-- One declaration after the other, so that the text needs one thread for them and not one each.
set_option Elab.async false

/-! ### The state a completing pulse hands on -/

section SegmentEnded
variable (s : State) (n : Nat) (tr : Track)

theorem State.segmentEnded_time : (s.segmentEnded n tr).time = { s.time with timers := (s.segmentEnded n tr).time.timers } := by
  unfold State.segmentEnded State.stallRearmed
  dsimp only [State.onTrackRec, State.onTrack]
  split <;> rfl

theorem State.segmentEnded_lineTime : (s.segmentEnded n tr).time.lineTime = s.time.lineTime := by rw [State.segmentEnded_time]
theorem State.segmentEnded_baseMs : (s.segmentEnded n tr).time.baseMs = s.time.baseMs := by rw [State.segmentEnded_time]

theorem State.segmentEnded_plan : (s.segmentEnded n tr).track.plan = s.track.plan := plan_modify s.track n fun _ => rfl

theorem State.segmentEnded_get? (h : s.track.tracks.get? n = some tr) :
    (s.segmentEnded n tr).track.tracks.get? n = some { tr with counter := 0 } := by
  show (s.track.tracks.modify n _).get? n = _
  rw [Table.get?_modify_self, h]
  rfl

theorem State.segmentEnded_get?_ne {m : Nat} (h : m ≠ n) :
    (s.segmentEnded n tr).track.tracks.get? m = s.track.tracks.get? m := Table.get?_modify_ne _ _ h

/-- R38: the last cell does not move with the counter. -/
theorem State.segmentEnded_cell : (s.segmentEnded n tr).track.cellOf n { tr with counter := 0 } (tr.segments - 1) =
    s.track.cellOf n tr (tr.segments - 1) := TrackUnit.cellOf_of_plan (s.segmentEnded_plan n tr) ..

end SegmentEnded

/-! ### The parcels a departure leaves (R43, R49, R50, R68) -/

theorem State.outfeed_parcels (k : Nat) (p : Parcel) (stamp : Nat) (s : State) :
    (s.outfeed k p stamp).parcel.parcels = s.parcel.parcels.del k := by
  obtain ⟨u, hu, -, -, hparcels, -⟩ := s.outfeed_emptied k p stamp
  rw [hu, State.emptyTest_parcel, hparcels]

theorem State.backpressure_parcels (k n : Nat) (p : Parcel) (stamp : Nat) (s : State) :
    (s.backpressure k n p stamp).parcel.parcels = s.parcel.parcels.del k := by
  obtain ⟨u, hu, -, -, hparcels, -⟩ := s.backpressure_emptied k n p stamp
  rw [hu, State.emptyTest_parcel, hparcels]

/-- R43: the record in the last cell of track `n`. -/
def State.lastRecord (s : State) (n : Nat) (t : Track) : Option Nat := s.track.cells.get? (s.track.cellOf n t (t.segments - 1))

/-- R43: nothing departs, or the record of the last cell becomes free or stands in the queue of track `n`. -/
theorem State.depart_parcels (n : Nat) (t : Track) (stamp : Nat) (s : State) :
    ((s.depart n t stamp).parcel.parcels = s.parcel.parcels ∧
      ∀ k, s.lastRecord n t = some k → s.parcel.parcels.get? k = none) ∨
    ∃ k, s.lastRecord n t = some k ∧ ((s.depart n t stamp).parcel.parcels = s.parcel.parcels.del k ∨
      ∃ place, (s.depart n t stamp).parcel.parcels =
        s.parcel.parcels.modify k fun p => { p.leaveZone s.time.baseMs with loc := .queue n place }) := by
  unfold State.depart State.lastRecord
  dsimp only
  split
  · next hcell => exact Or.inl ⟨rfl, fun k hk => by rw [hcell] at hk; nomatch hk⟩
  · next k hcell =>
    split
    · next hnone =>
      refine Or.inl ⟨rfl, fun k' hk => ?_⟩
      rw [hcell] at hk
      cases hk
      exact hnone
    · refine Or.inr ⟨k, hcell, ?_⟩
      split
      · exact Or.inl (State.outfeed_parcels ..)
      · split
        · exact Or.inr ⟨_, rfl⟩
        · exact Or.inl (State.backpressure_parcels ..)

/-- R43: a parcel that is not at the last position is left as it is. -/
theorem State.depart_other {n k : Nat} {t : Track} {s : State} (h : s.lastRecord n t ≠ some k) (stamp : Nat) :
    (s.depart n t stamp).parcel.parcels.get? k = s.parcel.parcels.get? k := by
  rcases s.depart_parcels n t stamp with ⟨hsame, -⟩ | ⟨k', hk', hdel | ⟨place, hqueue⟩⟩
  · rw [hsame]
  · rw [hdel, Table.get?_del_ne]
    rintro rfl
    exact h hk'
  · rw [hqueue, Table.get?_modify_ne]
    rintro rfl
    exact h hk'

/-- R43: what was at the last position stands on no track. -/
theorem State.depart_last {n k : Nat} {t : Track} {s : State} (hwf : s.parcel.parcels.wf = true) (h : s.lastRecord n t = some k)
    (stamp : Nat) {p : Parcel} (hp : (s.depart n t stamp).parcel.parcels.get? k = some p) : ∃ place, p.loc = .queue n place := by
  rcases s.depart_parcels n t stamp with ⟨hsame, hnone⟩ | ⟨k', hk', hdel | ⟨place, hqueue⟩⟩
  · rw [hsame, hnone k h] at hp
    nomatch hp
  · obtain rfl := Option.some.inj (h.symm.trans hk')
    rw [hdel, Table.get?_del_self _ hwf] at hp
    nomatch hp
  · obtain rfl := Option.some.inj (h.symm.trans hk')
    rw [hqueue, Table.get?_modify_self] at hp
    obtain ⟨q, -, rfl⟩ := Option.map_eq_some_iff.mp hp
    exact ⟨place, rfl⟩

theorem State.depart_parcels_wf {n : Nat} {t : Track} {s : State} (hwf : s.parcel.parcels.wf = true) (stamp : Nat) :
    (s.depart n t stamp).parcel.parcels.wf = true := by
  rcases s.depart_parcels n t stamp with ⟨hsame, -⟩ | ⟨k, -, hdel | ⟨place, hqueue⟩⟩
  · rwa [hsame]
  · rw [hdel]
    exact Table.wf_del k hwf
  · rw [hqueue]
    exact (Table.wf_modify ..).trans hwf

/-! ### Zone entries of an advance (R44, R47) -/

/-- R44, R47: when an advance makes a zone entry. -/
theorem State.crosses_iff {s : State} (hwf : s.parcel.parcels.wf = true) (n : Nat) : s.crosses n = true ↔
    ∃ k p pos z, s.parcel.parcels.get? k = some p ∧ p.loc = .track n pos ∧ s.track.zoneAt n (pos + 1) = some z ∧
      s.track.zoneId n pos ≠ some z.id := by
  unfold State.crosses
  rw [List.any_eq_true]
  constructor
  · rintro ⟨p, hp, hcross⟩
    obtain ⟨⟨k, p⟩, hmem, rfl⟩ := List.mem_map.mp hp
    dsimp only at hcross
    split at hcross
    · next m pos hloc =>
      simp only [Bool.and_eq_true, Bool.not_eq_true', decide_eq_true_eq, decide_eq_false_iff_not] at hcross
      obtain ⟨⟨rfl, hsome⟩, hne⟩ := hcross
      obtain ⟨z, hz⟩ := Option.isSome_iff_exists.mp hsome
      refine ⟨k, p, pos, z, Table.get?_of_mem hwf hmem, hloc, hz, ?_⟩
      rwa [TrackUnit.zoneId, TrackUnit.zoneId, hz] at hne
    · nomatch hcross
  · rintro ⟨k, p, pos, z, hget, hloc, hz, hne⟩
    refine ⟨p, List.mem_map.mpr ⟨(k, p), Table.mem_of_get? hget, rfl⟩, ?_⟩
    have hnext : s.track.zoneId n (pos + 1) = some z.id := by rw [TrackUnit.zoneId, hz]; rfl
    simp [hloc, hz, hnext, hne]

/-- R47: the zone entries of an index, read before its departure. -/
theorem State.depart_crosses_iff {n : Nat} {t : Track} {s : State} (hwf : s.parcel.parcels.wf = true) (stamp : Nat) :
    (s.depart n t stamp).crosses n = true ↔ ∃ k p pos z, s.parcel.parcels.get? k = some p ∧ p.loc = .track n pos ∧
      s.lastRecord n t ≠ some k ∧ s.track.zoneAt n (pos + 1) = some z ∧ s.track.zoneId n pos ≠ some z.id := by
  have hplan : (s.depart n t stamp).track.plan = s.track.plan := (Departed.depart n t stamp s).plan
  rw [State.crosses_iff (State.depart_parcels_wf hwf stamp)]
  simp only [TrackUnit.zoneId, TrackUnit.zoneAt_of_plan hplan]
  constructor
  · rintro ⟨k, p, pos, z, hget, hloc, hz⟩
    have hlast : s.lastRecord n t ≠ some k := fun hk => by
      obtain ⟨place, hqueue⟩ := State.depart_last hwf hk stamp hget
      rw [hloc] at hqueue
      nomatch hqueue
    exact ⟨k, p, pos, z, (State.depart_other hlast stamp).symm.trans hget, hloc, hlast, hz⟩
  · rintro ⟨k, p, pos, z, hget, hloc, hlast, hz⟩
    exact ⟨k, p, pos, z, (State.depart_other hlast stamp).trans hget, hloc, hz⟩

/-! ### The pulse that indexes a track -/

/-- R38, R46: what a gauge fixes. -/
theorem Track.of_gauge {t t' : Track} (h : t'.gauge = t.gauge) : t'.head = t.head ∧ t'.mode = t.mode ∧ t'.staged = t.staged ∧
    t'.segments = t.segments ∧ t'.pulses = t.pulses ∧ t'.zones = t.zones := by
  cases t
  cases t'
  simp_all [Track.gauge]

/-- R38, R40, R46: the pulse that completes a segment: the counter is 0, the head pointer one further, the staged mode live. -/
theorem exec_indexes_track {s : State} {input n : Nat} {tr : Track} (h : Indexes s input n tr) (presence : Bool) :
    ∃ t tr', exec (.encoderPulse input presence) s = .next t ∧ t.track.tracks.get? n = some tr' ∧ tr'.counter = 0 ∧
      tr'.head = (tr.head + 1) % tr.segments ∧ tr'.mode = tr.staged.getD tr.mode ∧ tr'.staged = none ∧
      tr'.segments = tr.segments ∧ tr'.pulses = tr.pulses ∧ tr'.zones = tr.zones := by
  have hexec := exec_indexes h presence
  obtain ⟨-, -, -, -, -, hget, -⟩ := h
  obtain ⟨tr1, hget1, hgauge1, hzero1⟩ := State.indexed_get? (t := { tr with counter := 0 }) presence s.time.lineTime
    (s.segmentEnded_get? n tr hget) rfl
  obtain ⟨tr2, hget2, hgauge2, hzero2⟩ := GaugesKept.completeProving
    (((s.segmentEnded n tr).indexed n { tr with counter := 0 } presence s.time.lineTime).indexNotice n
      (((s.segmentEnded n tr).depart n { tr with counter := 0 } s.time.lineTime).crosses n) s.time.lineTime) n tr1
    (by rw [State.indexNotice_frame]; exact hget1)
  refine ⟨_, tr2, hexec, ?_, hzero2 hzero1, Track.of_gauge (hgauge2.trans hgauge1)⟩
  rw [State.finish_track, State.index_eq]
  exact hget2

/-- R47: the index's own notice, by the mode that is live after it. -/
theorem State.indexNotice_cases {s : State} {n : Nat} {tr : Track} (hget : s.track.tracks.get? n = some tr) (moved : Bool)
    (stamp : Nat) :
    (tr.mode = .every ∨ tr.mode = .zone ∧ moved = true → s.indexNotice n moved stamp = s.notify (.index n tr.head stamp)) ∧
    (tr.mode = .off ∨ tr.mode = .zone ∧ ¬moved = true → s.indexNotice n moved stamp = s) := by
  simp only [State.indexNotice, hget]
  constructor
  · rintro (hmode | ⟨hmode, hm⟩)
    · rw [hmode]
    · rw [hmode, hm]
      rfl
  · rintro (hmode | ⟨hmode, hm⟩)
    · rw [hmode]
    · rw [hmode, if_neg hm]

/-- R47: the notices of the pulse that completes a segment, where `moved` says whether its advance makes a zone entry. -/
theorem exec_indexes_notice {s : State} {input n : Nat} {tr : Track} (h : Indexes s input n tr) (presence : Bool)
    {mode : NoticeMode} (hmode : mode = tr.staged.getD tr.mode) {moved : Bool}
    (hmoved : ((s.segmentEnded n tr).depart n { tr with counter := 0 } s.time.lineTime).crosses n = moved) :
    ∃ t, exec (.encoderPulse input presence) s = .next t ∧
      (mode = .every ∨ mode = .zone ∧ moved = true → Room s 8 →
        Queued t (.index n ((tr.head + 1) % tr.segments) s.time.lineTime)) ∧
      (mode = .off ∨ mode = .zone ∧ ¬moved = true →
        ∀ x ∈ t.link.notices, x ∈ s.link.notices ∨ ∀ m head time, x.body ≠ .index m head time) := by
  have hexec := exec_indexes h presence
  obtain ⟨-, -, -, -, -, hget, -⟩ := h
  obtain ⟨tr1, hget1, hgauge1, -⟩ := State.indexed_get? (t := { tr with counter := 0 }) presence s.time.lineTime
    (s.segmentEnded_get? n tr hget) rfl
  obtain ⟨hhead1, hmode1, -⟩ := Track.of_gauge hgauge1
  have hhead1 : tr1.head = (tr.head + 1) % tr.segments := hhead1
  have hmode1 : tr1.mode = mode := hmode1.trans hmode.symm
  have hannounces := Announces.since (s := s)
    (Announces.indexed n { tr with counter := 0 } presence s.time.lineTime (s.segmentEnded n tr)) rfl
  obtain ⟨hloud, hquiet⟩ := State.indexNotice_cases hget1 moved s.time.lineTime
  rw [State.index_eq, hmoved] at hexec
  rw [hmode1, hhead1] at hloud
  rw [hmode1] at hquiet
  refine ⟨_, hexec, fun hm hroom => ?_, fun hm x hx => ?_⟩
  · rw [queued_finish, hloud hm]
    exact (State.notify_queued _ ((hannounces.room 4 hroom).mono (by omega))).completeProving
  · rw [State.finish_notices, hquiet hm] at hx
    exact (hannounces.trans (.completeProving _)).other x hx

/-- R47: the zone entries of a pulse that completes a segment, read before the pulse. -/
theorem State.segmentEnded_crosses_iff {s : State} {n : Nat} {tr : Track} (hwf : s.parcel.parcels.wf = true) :
    ((s.segmentEnded n tr).depart n { tr with counter := 0 } s.time.lineTime).crosses n = true ↔
      ∃ k p pos z, s.parcel.parcels.get? k = some p ∧ p.loc = .track n pos ∧
        s.track.cells.get? (s.track.cellOf n tr (tr.segments - 1)) ≠ some k ∧ s.track.zoneAt n (pos + 1) = some z ∧
        s.track.zoneId n pos ≠ some z.id := by
  have hcrosses := State.depart_crosses_iff (s := s.segmentEnded n tr) (t := { tr with counter := 0 }) (n := n) hwf s.time.lineTime
  simp only [State.lastRecord, s.segmentEnded_cell n tr, TrackUnit.zoneId,
    TrackUnit.zoneAt_of_plan (s.segmentEnded_plan n tr)] at hcrosses
  exact hcrosses

/-- R40, R52: the pulse that completes no segment, at every track that counts it. -/
theorem exec_pulse_counts {s : State} {input : Nat} (presence : Bool) (hw : s.powered = true)
    (h1 : 1 ≤ input) (h4 : input ≤ 4) (horder : TracksInOrder s)
    (hshort : ∀ n ∈ s.track.counted input, ∀ tr, s.track.tracks.get? n = some tr → tr.counter + 1 < tr.pulses ∨
      s.line.state = .setup ∨ s.line.state = .ready ∨ (s.line.state = .halted ∧ tr.counter = 0)) :
    ∃ u, exec (.encoderPulse input presence) s = .next u.finish ∧ Pulsed (s.track.counted input) s u := by
  refine ⟨_, exec_encoderPulse_powered presence hw h1 h4, .encoder presence horder fun n hn tr hget hcount => ?_⟩
  obtain ⟨-, hcount⟩ := (s.counting_iff tr).mp hcount
  rcases hshort n hn tr hget with hlt | hs | hs | ⟨hs, hzero⟩
  · exact hlt
  all_goals simp_all [LineState.runs]

/-- Settles O25: a pulse counts, or completes the segment and indexes the track; the index's own notice is read off the mode and
the zone entries; and several tracks of one input take the pulse one after the other. -/
theorem pulsesCountAndIndex : Obligations.PulsesCountAndIndex := by
  refine ⟨⟨fun s input n horder => TrackUnit.mem_counted_iff (inOrder_wf horder.1) input n,
    fun s input presence hw h1 h4 => ⟨fun hnone => ?_, fun n tr hone hget => ⟨fun hheld => ?_, fun hp hruns hcount => ?_⟩⟩⟩,
    fun s input n presence tr hw hp h1 h4 hone hget hruns hpulses => ?_, fun s input n presence tr mode moved h hwf hmode hmoved => ?_,
    fun s input presence hw h1 h4 => ?_, fun s input presence hw hp h1 h4 horder hshort => ?_⟩
  · rw [exec_encoderPulse_powered presence hw h1 h4, State.encoder_none hnone]
  · have hcounting : s.counting tr = false := by
      rcases hheld with hheld | hheld | hheld | ⟨hheld, hzero⟩ <;> simp_all [State.counting, LineState.runs]
    rw [exec_encoderPulse_powered presence hw h1 h4, State.encoder_one hone, State.pulse_held presence fun tr' htr' => ?_]
    rwa [← Option.some.inj (hget.symm.trans htr')]
  · rw [exec_encoderPulse_powered presence hw h1 h4, State.encoder_one hone,
      State.pulse_counting hget ((s.counting_iff tr).mpr ⟨hp, hruns⟩), if_pos hcount]
    rfl
  · exact exec_indexes_track ⟨hw, hp, h1, h4, hone, hget, hruns, hpulses⟩ presence
  · obtain ⟨t, hexec, hloud, hquiet⟩ := exec_indexes_notice h presence hmode rfl
    rw [State.segmentEnded_crosses_iff hwf, ← hmoved] at hloud hquiet
    exact ⟨t, hexec, hloud, hquiet⟩
  · obtain ⟨d, order, hperm, hencoder⟩ := s.encoder_order input presence
    exact ⟨d, order, hperm, by rw [exec_encoderPulse_powered presence hw h1 h4, hencoder]⟩
  · obtain ⟨u, hexec, hpulsed⟩ := exec_pulse_counts presence hw h1 h4 horder hshort
    refine ⟨_, hexec, ?_, ?_, fun n => ?_, ?_, fun n tr hn hget hruns hback => ?_, fun k hk => ?_⟩
    · rw [State.finish_frame, hpulsed.frame]
    · rw [State.finish_track, hpulsed.frame]
    · rw [State.finish_track, hpulsed.tracks]
      congr 1
      funext tr
      by_cases hn : n ∈ s.track.counted input
      · simp only [hn, true_and, if_true, State.afterPulse, s.counting_iff tr, hp]
      · simp [hn]
    · rw [State.finish_time, hpulsed.frame]
    · rw [State.finish_time]
      exact hpulsed.armed n tr hn hget ((s.counting_iff tr).mpr ⟨hp, Or.inl hruns⟩) hruns hback
    · rw [State.finish_time]
      exact hpulsed.others k hk

end Sys2Proof.Machine
end

section
/-! ## Ring cells, zones and positions (R36, R38, R44) -/

namespace Sys2Proof.Machine

-- One declaration after the other, so that the text needs one thread for them and not one each.
set_option Elab.async false

/-! ### Ring cells (R38) -/

/-- R38: the cell of a position, counted from the first cell of the track's run. -/
theorem TrackUnit.cellOf_eq_emod (u : TrackUnit) (n : Nat) {tr : Track} {p : Nat} (hp : p < tr.segments) :
    (u.cellOf n tr p : Int) = cellBase n u.tracks + ((tr.head : Int) - p) % tr.segments := by
  have hle : p ≤ tr.head + tr.segments := by omega
  have hsum : ((tr.head + tr.segments : Nat) : Int) - p = (tr.head : Int) - p + tr.segments := by
    push_cast
    ring
  rw [TrackUnit.cellOf, Nat.cast_add, Int.natCast_emod, Nat.cast_sub hle, hsum, Int.add_emod_right]

/-- R38: after the head pointer has advanced, a cell holds the position one further on. -/
theorem TrackUnit.cellOf_next (u : TrackUnit) (n : Nat) {tr : Track} {p : Nat} (hhead : tr.head < tr.segments)
    (hp : p + 1 < tr.segments) :
    u.cellOf n { tr with head := (tr.head + 1) % tr.segments } (p + 1) = u.cellOf n tr p := by
  rw [TrackUnit.cellOf, TrackUnit.cellOf]
  dsimp only
  congr 1
  by_cases hwrap : tr.head + 1 < tr.segments
  · rw [Nat.mod_eq_of_lt hwrap]
    congr 1
    omega
  · have hlast : tr.head + 1 = tr.segments := by omega
    have hsum : tr.head + tr.segments - p = 0 + tr.segments - (p + 1) + tr.segments := by omega
    rw [hlast, Nat.mod_self, hsum, Nat.add_mod_right]

/-! ### Zones (R36) -/

/-- The test for the zone of a position. -/
def ZoneInfo.covers (n pos : Nat) (z : ZoneInfo) : Bool :=
  decide (z.track = n) && decide (z.start ≤ pos) && decide (pos < z.start + z.length)

theorem TrackUnit.zoneAt_eq (u : TrackUnit) (n pos : Nat) : u.zoneAt n pos = u.zoneMap.find? (ZoneInfo.covers n pos) := rfl

/-- R36: the zones of another track hold no position of this one. -/
theorem zonesFrom_find?_other {m n : Nat} (h : m ≠ n) (pos id start : Nat) (zs : List Zone) :
    (zonesFrom m id start zs).find? (ZoneInfo.covers n pos) = none := by
  induction zs generalizing id start with
  | nil => rfl
  | cons z zs ih =>
    rw [zonesFrom, List.find?_cons_of_neg (by simp [ZoneInfo.covers, h]), ih]

theorem zoneMapFrom_find?_absent {n : Nat} {ts : Table Track} (h : ∀ e ∈ ts, e.1 ≠ n) (pos id : Nat) :
    (zoneMapFrom id ts).find? (ZoneInfo.covers n pos) = none := by
  induction ts generalizing id with
  | nil => rfl
  | cons e ts ih =>
    obtain ⟨m, t⟩ := e
    have hm : m ≠ n := h (m, t) (List.mem_cons_self ..)
    rw [zoneMapFrom, List.find?_append, zonesFrom_find?_other hm, ih fun e he => h e (List.mem_cons_of_mem _ he)]
    rfl

/-- R36: the zone of a position among the zones of its track. -/
theorem zonesFrom_find?_some {n pos id start i : Nat} {zs : List Zone} {z : Zone} (hz : zs[i]? = some z)
    (hlow : start + ((zs.take i).map fun z => z.length).sum ≤ pos)
    (hhigh : pos < start + ((zs.take i).map fun z => z.length).sum + z.length) :
    (zonesFrom n id start zs).find? (ZoneInfo.covers n pos) =
      some ⟨id + i, n, start + ((zs.take i).map fun z => z.length).sum, z.length, z.kind, z.channel⟩ := by
  induction zs generalizing id start i with
  | nil => simp at hz
  | cons y ys ih =>
    cases i with
    | zero =>
      obtain rfl : y = z := by simpa using hz
      simp only [List.take_zero, List.map_nil, List.sum_nil, Nat.add_zero] at hlow hhigh
      rw [zonesFrom, List.find?_cons_of_pos (by simp [ZoneInfo.covers, hlow, hhigh])]
      simp
    | succ i =>
      simp only [List.take_succ_cons, List.map_cons, List.sum_cons] at hlow hhigh ⊢
      have hpast : ¬pos < start + y.length := by omega
      rw [zonesFrom, List.find?_cons_of_neg (by simp [ZoneInfo.covers, hpast]), ih (by simpa using hz) (by omega) (by omega)]
      simp [Nat.add_assoc, Nat.add_comm 1 i]

/-- R36: behind the last zone there is none. -/
theorem zonesFrom_find?_none {n pos id start : Nat} {zs : List Zone} (h : start + (zs.map fun z => z.length).sum ≤ pos) :
    (zonesFrom n id start zs).find? (ZoneInfo.covers n pos) = none := by
  induction zs generalizing id start with
  | nil => rfl
  | cons y ys ih =>
    simp only [List.map_cons, List.sum_cons] at h
    have hpast : ¬pos < start + y.length := by omega
    rw [zonesFrom, List.find?_cons_of_neg (by simp [ZoneInfo.covers, hpast]), ih (by omega)]

/-- R36: ids are counted on along the line, so the zones of a track are found behind those of the tracks before it. -/
theorem zoneMapFrom_find? {n : Nat} {ts : Table Track} {tr : Track} (hwf : ts.wf = true) (hget : ts.get? n = some tr)
    (pos id : Nat) : (zoneMapFrom id ts).find? (ZoneInfo.covers n pos) =
      (zonesFrom n (id + ((ts.filter fun e => decide (e.1 < n)).map fun e => e.2.zones.length).sum) 0 tr.zones).find?
        (ZoneInfo.covers n pos) := by
  have hsorted := (Table.wf_iff ts).mp hwf
  rw [List.pairwise_map] at hsorted
  clear hwf
  induction ts generalizing id with
  | nil => simp at hget
  | cons e ts ih =>
    obtain ⟨m, t⟩ := e
    obtain ⟨hlt, hrest⟩ := List.pairwise_cons.mp hsorted
    rw [zoneMapFrom, List.find?_append]
    by_cases hm : n = m
    · subst hm
      obtain rfl : t = tr := by simpa [Table.get?] using hget
      have hnone : ((n, t) :: ts).filter (fun e => decide (e.1 < n)) = [] := by
        refine List.filter_eq_nil_iff.mpr fun e he => ?_
        rcases List.mem_cons.mp he with rfl | he
        · simp
        · simpa using Nat.le_of_lt (hlt e he)
      rw [zoneMapFrom_find?_absent fun e he => (Nat.ne_of_lt (hlt e he)).symm, Option.or_none, hnone]
      rfl
    · have hget' : Table.get? ts n = some tr := by simpa [Table.get?, hm] using hget
      have hbefore : m < n := hlt _ (Table.mem_of_get? hget')
      rw [zonesFrom_find?_other (Ne.symm hm), Option.none_or, ih hget' _ hrest]
      simp [hbefore, Nat.add_assoc]

/-- R36: a track's zones divide its positions from 0 on. -/
theorem TrackUnit.zoneAt_of_zones {u : TrackUnit} {n i pos start : Nat} {tr : Track} (horder : inOrder u.tracks = true)
    (hget : u.tracks.get? n = some tr) (hstart : start = ((tr.zones.take i).map fun z => z.length).sum) :
    (∀ z, tr.zones[i]? = some z → start ≤ pos → pos < start + z.length →
      u.zoneAt n pos = some ⟨((u.tracks.filter fun e => decide (e.1 < n)).map fun e => e.2.zones.length).sum + i, n, start,
        z.length, z.kind, z.channel⟩) ∧
    (tr.zones.length ≤ i → start ≤ pos → u.zoneAt n pos = none) := by
  rw [TrackUnit.zoneAt_eq, TrackUnit.zoneMap, zoneMapFrom_find? (inOrder_wf horder) hget, Nat.zero_add]
  refine ⟨fun z hz hlow hhigh => ?_, fun hi hlow => ?_⟩
  · rw [hstart] at hlow hhigh
    rw [zonesFrom_find?_some hz (by omega) (by omega), hstart, Nat.zero_add]
  · rw [hstart, List.take_of_length_le hi] at hlow
    exact zonesFrom_find?_none (by omega)

/-! ### The parcel that advances (R44, R106) -/

/-- R44: where the advance of an index of track `n` takes a parcel, read on a state `s` with the same plan, probes and clock. -/
theorem State.advanceParcel_cases {s a : State} (hplan : a.track.plan = s.track.plan) (hprobe : a.probe = s.probe)
    (hms : a.time.baseMs = s.time.baseMs) {p : Parcel} {m pos : Nat} (hloc : p.loc = .track m pos) (n : Nat) :
    (m ≠ n → a.advanceParcel n s.time.lineTime p = p) ∧
    (m = n → (s.track.zoneAt n (pos + 1) = none ∨ s.track.zoneId n (pos + 1) = s.track.zoneId n pos →
        a.advanceParcel n s.time.lineTime p = { p with loc := .track n (pos + 1) }) ∧
      ∀ z, s.track.zoneAt n (pos + 1) = some z → s.track.zoneId n pos ≠ some z.id →
        EnteredZone s z { p with loc := .track n (pos + 1) } (a.advanceParcel n s.time.lineTime p)) := by
  have hnext := TrackUnit.zoneAt_of_plan hplan n (pos + 1)
  have hhere : a.track.zoneId n pos = s.track.zoneId n pos := by
    rw [TrackUnit.zoneId, TrackUnit.zoneId, TrackUnit.zoneAt_of_plan hplan]
  unfold State.advanceParcel
  simp only [hloc]
  refine ⟨fun hm => if_neg hm, fun hm => ?_⟩
  rw [if_pos hm, hnext, hhere, State.entering_congr hprobe hms]
  refine ⟨fun hsame => ?_, fun z hz hne => ?_⟩
  · cases hz : s.track.zoneAt n (pos + 1) with
    | none => rfl
    | some z =>
      have hid : s.track.zoneId n pos = some z.id := by
        rcases hsame with hnone | hsame
        · rw [hz] at hnone
          nomatch hnone
        · rw [← hsame, TrackUnit.zoneId, hz]
          rfl
      dsimp only
      rw [if_pos hid]
  · rw [hz]
    dsimp only
    rw [if_neg hne]
    exact s.entering_entered z _

/-! ### A record in no queue -/

/-- R63: record `k` stands in no handover queue. -/
def State.Unqueued (k : Nat) (s : State) : Prop := ∀ j x, s.track.tracks.get? j = some x → k ∉ x.queue

theorem State.Unqueued.of_tracks {k : Nat} {s t : State} (h : s.Unqueued k) (ht : t.track.tracks = s.track.tracks) :
    t.Unqueued k := fun j x hx => h j x (ht ▸ hx)

theorem State.Unqueued.onTracks {k : Nat} {s : State} (h : s.Unqueued k) {f : Nat → Track → Track}
    (hf : ∀ n t, k ∉ t.queue → k ∉ (f n t).queue) :
    (s.onTrack fun u => { u with tracks := u.tracks.mapVals f }).Unqueued k := by
  intro j x hx
  have hx : (s.track.tracks.mapVals f).get? j = some x := hx
  rw [Table.get?_mapVals] at hx
  obtain ⟨y, hy, rfl⟩ := Option.map_eq_some_iff.mp hx
  exact hf j y (h j y hy)

theorem State.Unqueued.onTrackRec {k : Nat} {s : State} (h : s.Unqueued k) (n : Nat) {f : Track → Track}
    (hf : ∀ t, k ∉ t.queue → k ∉ (f t).queue) : (s.onTrackRec n f).Unqueued k := by
  refine h.onTracks fun m t ht => ?_
  split
  · exact hf t ht
  · exact ht

theorem State.Unqueued.emptyTest {k : Nat} {s : State} (h : s.Unqueued k) : s.emptyTest.Unqueued k := by
  by_cases hempty : s.line.state = .draining ∧ s.lineEmpty = true
  · rw [State.emptyTest_drained hempty.1 hempty.2]
    refine (h.onTracks (f := fun _ t => t.released) fun _ _ ht => ht).of_tracks ?_
    rw [State.drained_track]
    rfl
  · rwa [State.emptyTest_keep s hempty]

/-- R43: only the record of the last cell joins a queue. -/
theorem State.Unqueued.depart {k n : Nat} {t : Track} {s : State} (h : s.Unqueued k) (hlast : s.lastRecord n t ≠ some k)
    (stamp : Nat) : (s.depart n t stamp).Unqueued k := by
  have hcell : ∀ cell, (s.onTrack fun u => { u with cells := u.cells.del cell }).Unqueued k := fun _ => h.of_tracks rfl
  unfold State.depart
  dsimp only
  split
  · exact h
  · next k' hk' =>
    split
    · exact hcell _
    · split
      · obtain ⟨u, hu, -, htrack, -⟩ := State.outfeed_emptied k' ‹Parcel› stamp
          (s.onTrack fun u => { u with cells := u.cells.del (s.track.cellOf n t (t.segments - 1)) })
        rw [hu]
        exact ((hcell _).of_tracks (by rw [htrack])).emptyTest
      · split
        · refine State.Unqueued.of_tracks ((hcell _).onTrackRec n (f := fun t => { t with queue := t.queue ++ [k'] }) ?_) rfl
          intro t ht hmem
          rcases List.mem_append.mp hmem with hmem | hmem
          · exact ht hmem
          · exact hlast (hk'.trans (congrArg some (List.mem_singleton.mp hmem).symm))
        · obtain ⟨u, hu, -, htrack, -⟩ := State.backpressure_emptied k' n ‹Parcel› stamp
            (s.onTrack fun u => { u with cells := u.cells.del (s.track.cellOf n t (t.segments - 1)) })
          rw [hu]
          exact (((hcell _).onTrackRec n (f := fun t => { t with backedUp := true }) fun _ ht => ht).of_tracks
            (by rw [htrack]; rfl)).emptyTest

/-! ### The fill leaves the parcels on the tracks (R45, R61) -/

theorem State.place_other {j k : Nat} (h : j ≠ k) (n stamp : Nat) (s : State) :
    (s.place k n stamp).parcel.parcels.get? j = s.parcel.parcels.get? j := by
  unfold State.place
  split
  · rfl
  · exact Table.get?_modify_ne _ _ h

theorem State.recover_parcel (n : Nat) (s : State) : (s.recover n).parcel = s.parcel := by
  unfold State.recover
  split
  · split <;> rfl
  · rfl

/-- R45: a fill takes the head of a queue, or a record that was free. -/
theorem State.fill_other {s : State} {k m pos : Nat} {p : Parcel} (hget : s.parcel.parcels.get? k = some p)
    (hloc : p.loc = .track m pos) (hqueue : s.Unqueued k) (n : Nat) (presence : Bool) (stamp : Nat) :
    (s.fill n presence stamp).parcel.parcels.get? k = some p := by
  unfold State.fill
  split
  · split
    · next slot l k' hcreation =>
      obtain ⟨-, -, -, -, hfree, -⟩ := (s.creation_eq_some presence slot l k').mp hcreation
      have hne : k ≠ k' := by
        rintro rfl
        rw [(Table.freeKey_spec hfree).2.2] at hget
        nomatch hget
      rw [State.place_other hne]
      exact (Table.get?_put_ne _ _ hne).trans hget
    · exact hget
  · unfold State.takeQueue
    split
    · next k' rest hhead =>
      obtain ⟨x, hx, hxq⟩ := Option.map_eq_some_iff.mp hhead
      have hne : k ≠ k' := by
        rintro rfl
        exact hqueue _ x hx (by rw [hxq]; exact List.mem_cons_self ..)
      rw [State.recover_parcel, State.place_other hne]
      show (s.parcel.parcels.mapVals _).get? k = _
      rw [Table.get?_mapVals, hget, Option.map_some, Parcel.moveUp]
      simp only [hloc]
    · exact hget

/-! ### The end of an index leaves the parcels -/

theorem State.applyStaged_parcels (n stamp : Nat) (s : State) :
    (s.applyStaged n stamp).parcel.parcels = s.parcel.parcels := by
  obtain ⟨-, hparcels, -⟩ := s.applyDeclaration_keeps stamp
  unfold State.applyStaged
  dsimp only
  split_ifs
  exacts [hparcels, hparcels, rfl, rfl]

theorem State.completeProving_keeps (s : State) : s.completeProving.parcel.parcels = s.parcel.parcels ∧
    s.completeProving.track.cells = s.track.cells := by
  rcases s.completeProving_cases with h | ⟨record, h⟩
  · rw [h]
    exact ⟨rfl, rfl⟩
  · rw [h]
    have hdropped : ∀ u : State, u.dropCurrent.parcel.parcels = u.parcel.parcels := fun u => by
      unfold State.dropCurrent
      dsimp only
      split
      · exact (State.retireTest_parcels _ _).1
      · rfl
    rw [State.endProvingLine, State.setLine_parcel, State.setLine_track, State.holdCounters_parcel, State.cancelStalls_parcel,
      State.notify_parcel, hdropped]
    exact ⟨rfl, by simp [State.holdCounters]⟩

theorem State.index_parcels (n : Nat) (t : Track) (presence : Bool) (stamp : Nat) (s : State) :
    (s.index n t presence stamp).parcel.parcels =
      (((s.depart n t stamp).advance n stamp).fill n presence stamp).parcel.parcels := by
  rw [State.index_eq, (State.completeProving_keeps _).1, State.indexNotice_frame, State.indexed]
  exact State.applyStaged_parcels ..

theorem State.entering_loc (s : State) (z : ZoneInfo) (stamp : Nat) (p : Parcel) : (s.entering z stamp p).loc = p.loc := by
  have hzone : ∀ stale marked, (p.enterZone z stale marked s.time.baseMs stamp).loc = p.loc := by
    intro stale marked
    unfold Parcel.enterZone Parcel.freezer Parcel.creditZone Parcel.addTrip Parcel.addGap
    dsimp only
    (repeat' split) <;> rfl
  unfold State.entering
  split <;> exact hzone ..

/-- R44: an advance takes no parcel from its track. -/
theorem State.advanceParcel_loc (s : State) (n stamp : Nat) {p : Parcel} {m pos : Nat} (hloc : p.loc = .track m pos) :
    ∃ pos', (s.advanceParcel n stamp p).loc = .track m pos' := by
  unfold State.advanceParcel
  simp only [hloc]
  split
  · next hm =>
    subst hm
    split
    · split
      · exact ⟨_, rfl⟩
      · exact ⟨_, State.entering_loc ..⟩
    · exact ⟨_, rfl⟩
  · exact ⟨_, hloc⟩

/-- R44: a parcel on a track, not at the last position of track `n`, after an index of track `n`. -/
theorem State.index_parcel {n : Nat} {t : Track} {s : State} {k m pos : Nat} {p : Parcel}
    (hget : s.parcel.parcels.get? k = some p) (hloc : p.loc = .track m pos) (hlast : s.lastRecord n t ≠ some k)
    (hqueue : s.Unqueued k) (presence : Bool) (stamp : Nat) :
    (s.index n t presence stamp).parcel.parcels.get? k = some ((s.depart n t stamp).advanceParcel n stamp p) := by
  have hdeparted := (State.depart_other hlast stamp).trans hget
  have hadvanced : ((s.depart n t stamp).advance n stamp).parcel.parcels.get? k =
      some ((s.depart n t stamp).advanceParcel n stamp p) := by
    show ((s.depart n t stamp).parcel.parcels.mapVals _).get? k = _
    rw [Table.get?_mapVals, hdeparted]
    rfl
  obtain ⟨pos', hloc'⟩ := (s.depart n t stamp).advanceParcel_loc n stamp hloc
  have hadvancedQueue : ((s.depart n t stamp).advance n stamp).Unqueued k :=
    ((hqueue.depart hlast stamp).onTrackRec n (f := fun t => { t with head := (t.head + 1) % t.segments }) fun _ ht => ht).of_tracks rfl
  rw [State.index_parcels]
  exact State.fill_other hadvanced hloc' hadvancedQueue n presence stamp

/-- Settles O26: cells and zones are read off the plan, and an index takes each parcel that remains one position on. -/
theorem ringCellsFollowTheHead : Obligations.RingCellsFollowTheHead := by
  refine ⟨fun u n tr p hhead hp => ⟨u.cellOf_eq_emod n hp, u.cellOf_next n hhead, fun hlast => ?_⟩, fun s n stamp tr hget => ?_,
    fun u n i pos start tr horder hget hstart => TrackUnit.zoneAt_of_zones horder hget hstart,
    fun s input n presence tr k p m pos h hget hloc hcell hqueue => ?_⟩
  · rw [show p = tr.segments - 1 by omega]
    exact TrackUnit.cellOf_advanced u (t := tr) (t' := { tr with head := (tr.head + 1) % tr.segments }) n rfl rfl hhead
  · show (s.track.tracks.modify n _).get? n = _
    rw [Table.get?_modify_self, hget]
    rfl
  · have hlast : (s.segmentEnded n tr).lastRecord n { tr with counter := 0 } ≠ some k := by
      rwa [State.lastRecord, s.segmentEnded_cell n tr]
    have hended : (s.segmentEnded n tr).Unqueued k :=
      (State.Unqueued.onTrackRec (s := s) hqueue n (f := fun t => { t with counter := 0 }) fun _ ht => ht).of_tracks rfl
    have hd := Departed.depart n { tr with counter := 0 } s.time.lineTime (s.segmentEnded n tr)
    obtain ⟨hother, hsame⟩ := State.advanceParcel_cases (s := s) (hd.plan.trans (s.segmentEnded_plan n tr)) hd.probe
      (hd.baseMs.trans (s.segmentEnded_baseMs n tr)) hloc n
    refine ⟨_, _, exec_indexes h presence, ?_, hother, hsame⟩
    rw [State.finish_parcel]
    exact State.index_parcel (s := s.segmentEnded n tr) hget hloc hlast hended presence s.time.lineTime

end Sys2Proof.Machine
end

section
/-! ## Departure into a handover queue, and the take-over from it (R43, R45, R49 to R51) -/

namespace Sys2Proof.Machine

-- One declaration after the other, so that the text needs one thread for them and not one each.
set_option Elab.async false

/-! ### A departure from a track that is not the last (R43, R49, R50) -/

/-- R5: with an entry in a handover queue the line holds a parcel. -/
theorem State.emptyTest_queued {s : State} {m : Nat} {x : Track} (hx : s.track.tracks.get? m = some x) (hq : x.queue ≠ []) :
    s.emptyTest = s := by
  refine State.emptyTest_keep s fun h => ?_
  obtain ⟨-, hempty⟩ := h
  obtain ⟨-, hqueues⟩ := Bool.and_eq_true_iff.mp hempty
  have hnil := List.all_eq_true.mp hqueues (m, x) (Table.mem_of_get? hx)
  exact hq (List.isEmpty_iff.mp hnil)

/-- R43, R49: with room in the queue the parcel joins its tail. -/
theorem State.depart_joins {s : State} {n k : Nat} {t : Track} {p : Parcel} (hn : n < s.track.tracks.length)
    (hlast : s.lastRecord n t = some k) (hp : s.parcel.parcels.get? k = some p) (hroom : t.queue.length < 8) (stamp : Nat) :
    s.depart n t stamp = (s.vacated n t).joinQueue k n (t.queue.length + 1) := by
  have hcell : s.track.cells.get? (s.track.cellOf n t (t.segments - 1)) = some k := hlast
  have hcount : n ≠ s.track.count := Nat.ne_of_lt hn
  have hdepth : t.queue.length < Config.handoverDepth := hroom
  unfold State.depart
  simp only [hcell, hp]
  rw [if_neg hcount, if_pos hdepth]
  rfl

/-- R50: with the queue full it is lost. -/
theorem State.depart_lost {s : State} {n k : Nat} {t : Track} {p : Parcel} (hn : n < s.track.tracks.length)
    (hlast : s.lastRecord n t = some k) (hp : s.parcel.parcels.get? k = some p) (hfull : 8 ≤ t.queue.length) (stamp : Nat) :
    s.depart n t stamp = (s.vacated n t).backpressure k n p stamp := by
  have hcell : s.track.cells.get? (s.track.cellOf n t (t.segments - 1)) = some k := hlast
  have hcount : n ≠ s.track.count := Nat.ne_of_lt hn
  have hdepth : ¬t.queue.length < Config.handoverDepth := Nat.not_lt.mpr hfull
  unfold State.depart
  simp only [hcell, hp]
  rw [if_neg hcount, if_neg hdepth]
  rfl

/-- R50: at the full queue of a defined track the line holds parcels, so a loss ends no drain. -/
theorem State.backpressure_full {s : State} {n : Nat} {t : Track} (hget : s.track.tracks.get? n = some t)
    (hfull : 8 ≤ t.queue.length) (k : Nat) (p : Parcel) (stamp : Nat) :
    (s.backpressure k n p stamp).track.tracks.get? n = some { t with backedUp := true } ∧
      (s.backpressure k n p stamp).time = (s.cancel (.stall n)).time := by
  obtain ⟨u, hu, -, htrack, -, htime⟩ := s.backpressure_emptied k n p stamp
  have hmarked : u.track.tracks.get? n = some { t with backedUp := true } := by
    rw [htrack, Table.get?_modify_self, hget]
    rfl
  have hqueue : ({ t with backedUp := true } : Track).queue ≠ [] := fun hnil => by
    have hlength : t.queue.length = 0 := congrArg List.length hnil
    omega
  rw [hu, State.emptyTest_queued hmarked hqueue]
  exact ⟨hmarked, htime⟩

/-- R50, R60: the lot that is current takes the loss into its account and stays. -/
theorem State.backpressure_lot {s : State} {p : Parcel} {l : Lot} (hl : s.parcel.lots.get? p.slot = some l)
    (hcur : s.parcel.current = some p.slot) (k n stamp : Nat) :
    (s.backpressure k n p stamp).parcel.lots.get? p.slot = some { l with lost := l.lost + 1, live := l.live - 1 } := by
  obtain ⟨-, -, -, htake⟩ := s.takeEntry_keeps p fun _ => lostEntry p
  unfold State.backpressure
  dsimp only
  rw [State.emptyTest_parcel, State.cancel_parcel, State.onTrackRec, State.onTrack_parcel, State.notify_parcel,
    State.retireParcel, State.retireTest_keep]
  · rw [State.onLot_lots, Table.get?_modify_self, State.onParcel_parcel, htake, hl]
    rfl
  · intro l' _
    simp [ParcelUnit.mayRetire, htake, hcur]

/-- R50: the loss is reported. -/
theorem State.backpressure_queued {s : State} (hroom : Room s 2) (k n : Nat) (p : Parcel) (stamp : Nat) :
    Queued (s.backpressure k n p stamp) (.lost p.seq p.slot n stamp) := by
  have hretired : Announces 1 s ((s.takeEntry p fun _ => lostEntry p).retireParcel k p.slot Lot.lose) :=
    (Announces.takeEntry ..).trans (.retireParcel ..)
  unfold State.backpressure
  refine Queued.emptyTest ((queued_congr ?_).mpr (State.notify_queued _ (hretired.room 1 hroom)))
  rfl

/-! ### What a departure leaves of the other tracks -/

/-- R43: up to the end of a drain a departure from track `n` leaves line and pin, the other tracks, and every timer but the
track's stall timer and the gate timer. -/
theorem State.depart_emptied (n : Nat) (t : Track) (stamp : Nat) (s : State) :
    ∃ u : State, (s.depart n t stamp = u ∨ s.depart n t stamp = u.emptyTest) ∧ u.stance = s.stance ∧
      (∀ m, m ≠ n → u.track.tracks.get? m = s.track.tracks.get? m) ∧
      ∀ j, j ≠ n - 1 → j ≠ 5 → u.time.timers.get? j = s.time.timers.get? j := by
  unfold State.depart
  dsimp only
  split
  · exact ⟨s, Or.inl rfl, rfl, fun _ _ => rfl, fun _ _ _ => rfl⟩
  · next k _ =>
    split
    · exact ⟨_, Or.inl rfl, rfl, fun _ _ => rfl, fun _ _ _ => rfl⟩
    · next p _ =>
      split
      · obtain ⟨u, hu, hstance, htrack, -, htimers⟩ := State.outfeed_emptied k p stamp (s.vacated n t)
        exact ⟨u, Or.inr hu, hstance, fun m _ => by rw [htrack]; rfl, fun j _ hj => htimers j hj⟩
      · split
        · exact ⟨_, Or.inl rfl, rfl, fun m hm => Table.get?_modify_ne _ _ hm, fun _ _ _ => rfl⟩
        · obtain ⟨u, hu, hstance, htrack, -, htime⟩ := State.backpressure_emptied k n p stamp (s.vacated n t)
          refine ⟨u, Or.inr hu, hstance, fun m hm => ?_, fun j hj _ => ?_⟩
          · rw [htrack]
            exact Table.get?_modify_ne _ _ hm
          · rw [htime]
            exact Table.get?_del_ne _ hj

/-- R43: while another queue holds an entry, a departure from track `n` leaves line and pin, the other tracks and their timers. -/
theorem State.depart_beside {n m : Nat} {x : Track} {s : State} (hm : m ≠ n) (hx : s.track.tracks.get? m = some x)
    (hq : x.queue ≠ []) (t : Track) (stamp : Nat) : (s.depart n t stamp).stance = s.stance ∧
      (∀ m, m ≠ n → (s.depart n t stamp).track.tracks.get? m = s.track.tracks.get? m) ∧
      ∀ j, j ≠ n - 1 → j ≠ 5 → (s.depart n t stamp).time.timers.get? j = s.time.timers.get? j := by
  obtain ⟨u, hu, hstance, htracks, htimers⟩ := s.depart_emptied n t stamp
  have hempty : u.emptyTest = u := State.emptyTest_queued ((htracks m hm).trans hx) hq
  obtain rfl : s.depart n t stamp = u := hu.elim id fun h => h.trans hempty
  exact ⟨hstance, htracks, htimers⟩

/-- R43: a departure from track `n` leaves an empty queue of another track empty. -/
theorem State.depart_queue {n m : Nat} {x : Track} {s : State} (hm : m ≠ n) (hx : s.track.tracks.get? m = some x) (t : Track)
    (stamp : Nat) : ∃ x', (s.depart n t stamp).track.tracks.get? m = some x' ∧ x'.queue = x.queue := by
  obtain ⟨u, hu, -, htracks, -⟩ := s.depart_emptied n t stamp
  have hux : u.track.tracks.get? m = some x := (htracks m hm).trans hx
  rcases hu with hu | hu
  · exact ⟨x, by rw [hu, hux], rfl⟩
  · by_cases hempty : u.line.state = .draining ∧ u.lineEmpty = true
    · refine ⟨x.released, ?_, rfl⟩
      rw [hu, State.emptyTest_drained hempty.1 hempty.2, State.drained_track, Table.get?_mapVals, hux]
      rfl
    · exact ⟨x, by rw [hu, State.emptyTest_keep u hempty, hux], rfl⟩

/-- R43: behind a departure the last cell is empty. -/
theorem State.depart_cell {s : State} (hwf : s.track.cells.wf = true) (n : Nat) (t : Track) (stamp : Nat) :
    (s.depart n t stamp).track.cells.get? (s.track.cellOf n t (t.segments - 1)) = none := by
  rw [(Departed.depart n t stamp s).cells]
  exact Table.get?_del_self _ hwf

/-! ### The take-over from a queue (R45, R51) -/

/-- R45: a parcel as it arrives at position 0 of track `n`. -/
def State.arrival (n stamp : Nat) (s : State) (p : Parcel) : Parcel :=
  match s.track.zoneAt n 0 with
  | some z => s.entering z stamp { p with loc := .track n 0 }
  | none => { p with loc := .track n 0 }

theorem State.arrival_entered {s a : State} (hplan : a.track.plan = s.track.plan) (hprobe : a.probe = s.probe)
    (hms : a.time.baseMs = s.time.baseMs) {n : Nat} {z : ZoneInfo} (hz : s.track.zoneAt n 0 = some z) (p : Parcel) :
    EnteredZone s z { p with loc := .track n 0 } (a.arrival n s.time.lineTime p) := by
  unfold State.arrival
  rw [TrackUnit.zoneAt_of_plan hplan, hz, State.entering_congr hprobe hms]
  exact s.entering_entered z _

theorem State.place_eq {s : State} {n : Nat} {t : Track} (ht : s.track.tracks.get? n = some t) (k stamp : Nat) :
    s.place k n stamp = { s with
      track := { s.track with cells := s.track.cells.put (s.track.cellOf n t 0) k }
      parcel := { s.parcel with parcels := s.parcel.parcels.modify k (s.arrival n stamp) } } := by
  rw [State.place, ht]
  rfl

/-- R51: the condition of a recovery. -/
abbrev State.Recovers (s : State) (x : Track) (rest : List Nat) : Prop :=
  x.backedUp = true ∧ rest.length ≤ 4 ∧ s.line.state.runs = true

/-- R45: track `m` and the parcels after the oldest entry of its queue has been taken out. -/
def State.handedOver (m : Nat) (rest : List Nat) (s : State) : State :=
  (s.onTrackRec m fun t => { t with queue := rest }).onParcel fun u => { u with parcels := u.parcels.mapVals fun _ p => p.moveUp m }

theorem State.takeQueue_empty {s : State} {m : Nat} {x : Track} (hx : s.track.tracks.get? m = some x) (hq : x.queue = [])
    (stamp : Nat) : s.takeQueue m stamp = s := by
  simp [State.takeQueue, hx, hq]

theorem State.takeQueue_eq {s : State} {m k : Nat} {rest : List Nat} {x : Track} (hx : s.track.tracks.get? m = some x)
    (hq : x.queue = k :: rest) (stamp : Nat) :
    s.takeQueue m stamp = ((s.handedOver m rest).place k (m + 1) stamp).recover m := by
  simp only [State.takeQueue, hx, Option.map_some, hq]
  rfl

theorem State.recover_keeps (s : State) (m : Nat) : (s.recover m).stance = s.stance ∧ (s.recover m).parcel = s.parcel ∧
    (s.recover m).track.cells = s.track.cells := by
  unfold State.recover
  split
  · split <;> exact ⟨rfl, rfl, rfl⟩
  · exact ⟨rfl, rfl, rfl⟩

/-- R51: a track that recovers regains RUN, with its stall timer armed; any other is left. -/
theorem State.recover_cases {s : State} {m : Nat} {x : Track} (hx : s.track.tracks.get? m = some x) :
    (s.Recovers x x.queue → (s.recover m).track.tracks.get? m = some { x with backedUp := false } ∧
      (s.recover m).time = (s.armFor (.stall m) x.stallLimit).time) ∧
    (¬s.Recovers x x.queue → s.recover m = s) := by
  have hdepth : s.Recovers x x.queue ↔
      x.backedUp = true ∧ x.queue.length ≤ Config.recoverDepth ∧ s.line.state.runs = true := Iff.rfl
  simp only [State.recover, hx]
  rw [hdepth]
  refine ⟨fun hr => ?_, fun hr => if_neg hr⟩
  rw [if_pos hr]
  refine ⟨?_, rfl⟩
  show (s.track.tracks.modify m _).get? m = _
  rw [Table.get?_modify_self, hx]
  rfl

/-- R45, R51: what the take-over of the oldest entry of queue `m` leaves. -/
structure TookOver (m k : Nat) (rest : List Nat) (x : Track) (stamp : Nat) (s t : State) : Prop where
  stance : t.stance = s.stance
  cells : ∀ y, s.track.tracks.get? (m + 1) = some y → t.track.cells = s.track.cells.put (s.track.cellOf (m + 1) y 0) k
  parcel : ∀ p, s.parcel.parcels.get? k = some p → ∃ a : State, a.track.plan = s.track.plan ∧ a.probe = s.probe ∧
    a.time.baseMs = s.time.baseMs ∧ t.parcel.parcels.get? k = some (a.arrival (m + 1) stamp (p.moveUp m))
  others : ∀ j, j ≠ k → t.parcel.parcels.get? j = (s.parcel.parcels.get? j).map (Parcel.moveUp m)
  recovered : s.Recovers x rest → t.track.tracks.get? m = some { x with queue := rest, backedUp := false } ∧
    t.time = (s.armFor (.stall m) x.stallLimit).time
  unchanged : ¬s.Recovers x rest → t.track.tracks.get? m = some { x with queue := rest } ∧ t.time = s.time

theorem TookOver.takeQueue {s : State} {m k : Nat} {rest : List Nat} {x y : Track} (hx : s.track.tracks.get? m = some x)
    (hq : x.queue = k :: rest) (hy : s.track.tracks.get? (m + 1) = some y) (stamp : Nat) :
    TookOver m k rest x stamp s (s.takeQueue m stamp) := by
  have hnext : (s.handedOver m rest).track.tracks.get? (m + 1) = some y := (Table.get?_modify_ne _ _ (Nat.succ_ne_self m)).trans hy
  have hplan : (s.handedOver m rest).track.plan = s.track.plan := plan_modify s.track m fun _ => rfl
  have hplace := State.place_eq hnext k stamp
  have htaken : ((s.handedOver m rest).place k (m + 1) stamp).track.tracks.get? m = some { x with queue := rest } := by
    rw [hplace]
    show (s.track.tracks.modify m _).get? m = _
    rw [Table.get?_modify_self, hx]
    rfl
  have hstance : ((s.handedOver m rest).place k (m + 1) stamp).stance = s.stance := by
    rw [hplace]
    rfl
  have hline : ((s.handedOver m rest).place k (m + 1) stamp).line = s.line := by
    rw [hplace]
    rfl
  have htime : ((s.handedOver m rest).place k (m + 1) stamp).time = s.time := by
    rw [hplace]
    rfl
  obtain ⟨hrstance, hrparcel, hrcells⟩ := ((s.handedOver m rest).place k (m + 1) stamp).recover_keeps m
  obtain ⟨hrecovers, hstays⟩ := State.recover_cases htaken
  rw [State.takeQueue_eq hx hq]
  constructor
  case stance => exact hrstance.trans hstance
  case cells =>
    intro y' hy'
    obtain rfl := Option.some.inj (hy.symm.trans hy')
    rw [hrcells, hplace]
    show s.track.cells.put _ k = _
    rw [TrackUnit.cellOf_of_plan hplan]
  case parcel =>
    intro p hp
    refine ⟨s.handedOver m rest, hplan, rfl, rfl, ?_⟩
    rw [hrparcel, hplace]
    show ((s.parcel.parcels.mapVals _).modify k _).get? k = _
    rw [Table.get?_modify_self, Table.get?_mapVals, hp]
    rfl
  case others =>
    intro j hj
    rw [hrparcel, State.place_other hj]
    exact Table.get?_mapVals ..
  case recovered =>
    intro hr
    rw [State.Recovers, ← hline] at hr
    obtain ⟨htracks, htime'⟩ := hrecovers hr
    refine ⟨htracks, htime'.trans ?_⟩
    rw [State.armFor_time, State.armFor_time, htime]
  case unchanged =>
    intro hr
    rw [State.Recovers, ← hline] at hr
    rw [hstays hr]
    exact ⟨htaken, htime⟩

/-! ### An index of a track behind the first -/

/-- R38, R43: an index of track `n` up to its fill. -/
def State.onward (n : Nat) (t : Track) (stamp : Nat) (s : State) : State := (s.depart n t stamp).advance n stamp

theorem State.onward_reads (n : Nat) (t : Track) (stamp : Nat) (s : State) :
    (s.onward n t stamp).track.plan = s.track.plan ∧ (s.onward n t stamp).probe = s.probe ∧
    (s.onward n t stamp).time.baseMs = s.time.baseMs ∧ (s.onward n t stamp).time.lineTime = s.time.lineTime := by
  have hd := Departed.depart n t stamp s
  have hplan : (s.onward n t stamp).track.plan = (s.depart n t stamp).track.plan := plan_modify _ n fun _ => rfl
  exact ⟨hplan.trans hd.plan, hd.probe, hd.baseMs, hd.lineTime⟩

/-- R38: the cell that was the last of track `n` is the one at position 0. -/
theorem State.onward_cell {n : Nat} {t : Track} {s : State} (hget : s.track.tracks.get? n = some t) (hhead : t.head < t.segments)
    (stamp : Nat) : ∃ y, (s.onward n t stamp).track.tracks.get? n = some y ∧
      (s.onward n t stamp).track.cellOf n y 0 = s.track.cellOf n t (t.segments - 1) := by
  obtain ⟨t', hget', hgauge, -⟩ := GaugesKept.depart n t stamp s n t hget
  obtain ⟨hplan, -⟩ := s.onward_reads n t stamp
  obtain ⟨hhead', -, -, hsegments, -⟩ := Track.of_gauge hgauge
  refine ⟨{ t' with head := (t'.head + 1) % t'.segments }, ?_, ?_⟩
  · show ((s.depart n t stamp).track.tracks.modify n _).get? n = _
    rw [Table.get?_modify_self, hget']
    rfl
  · rw [TrackUnit.cellOf_of_plan hplan]
    refine TrackUnit.cellOf_advanced s.track n hsegments ?_ hhead
    rw [hhead', hsegments]

/-- R43: the other tracks, while one of their queues holds an entry. -/
theorem State.onward_beside {n m : Nat} {x : Track} {s : State} (hm : m ≠ n) (hx : s.track.tracks.get? m = some x)
    (hq : x.queue ≠ []) (t : Track) (stamp : Nat) : (s.onward n t stamp).stance = s.stance ∧
      (s.onward n t stamp).track.tracks.get? m = some x ∧
      ∀ j, j ≠ n - 1 → j ≠ 5 → (s.onward n t stamp).time.timers.get? j = s.time.timers.get? j := by
  obtain ⟨hstance, htracks, htimers⟩ := State.depart_beside hm hx hq t stamp
  exact ⟨hstance, ((Table.get?_modify_ne _ _ hm).trans (htracks m hm)).trans hx, htimers⟩

/-- R43, R44: a parcel in a queue waits while a track before or behind it advances. -/
theorem State.onward_waiting {n j m i : Nat} {t : Track} {q : Parcel} {s : State} (hlast : s.lastRecord n t ≠ some j)
    (hq : s.parcel.parcels.get? j = some q) (hloc : q.loc = .queue m i) (stamp : Nat) :
    (s.onward n t stamp).parcel.parcels.get? j = some q := by
  show ((s.depart n t stamp).parcel.parcels.mapVals _).get? j = _
  rw [Table.get?_mapVals, State.depart_other hlast, hq, Option.map_some, State.advanceParcel]
  simp only [hloc]

theorem State.fill_late {n : Nat} (hn : n ≠ 1) (presence : Bool) (stamp : Nat) (s : State) :
    s.fill n presence stamp = s.takeQueue (n - 1) stamp := if_neg hn

theorem State.index_cells (n : Nat) (t : Track) (presence : Bool) (stamp : Nat) (s : State) :
    (s.index n t presence stamp).track.cells = ((s.onward n t stamp).fill n presence stamp).track.cells := by
  rw [State.index_eq, (State.completeProving_keeps _).2, State.indexNotice_frame, State.indexed, State.applyStaged_tracks]
  rfl

/-- R46: behind the first track the staged edits leave the line and the timers. -/
theorem State.applyStaged_late {n : Nat} (hn : n ≠ 1) (stamp : Nat) (s : State) :
    (s.applyStaged n stamp).stance = s.stance ∧ (s.applyStaged n stamp).time = s.time := by
  unfold State.applyStaged
  dsimp only
  rw [if_neg hn]
  split <;> exact ⟨rfl, rfl⟩

theorem State.indexed_comm (n : Nat) (t : Track) (presence : Bool) (stamp : Nat) (s : State) :
    (s.indexed n t presence stamp).comm = (s.depart n t stamp).comm := by
  have hview : (s.indexed n t presence stamp).lineView = (s.depart n t stamp).lineView := by simp [State.indexed]
  exact comm_of_lineView hview

/-- R46, R47, R169: with the run not complete, the fill of a track behind the first settles line, timers and the other tracks. -/
theorem State.index_late {n : Nat} (hn : n ≠ 1) {t : Track} {s : State}
    (hopen : ∀ run, s.comm.record = ⟨.running, some run⟩ → run.entries.length + 1 < run.count) (presence : Bool) (stamp : Nat) :
    (s.index n t presence stamp).stance = ((s.onward n t stamp).fill n presence stamp).stance ∧
      (s.index n t presence stamp).time = ((s.onward n t stamp).fill n presence stamp).time ∧
      ∀ m, m ≠ n → (s.index n t presence stamp).track.tracks.get? m =
        ((s.onward n t stamp).fill n presence stamp).track.tracks.get? m := by
  have hindex : s.index n t presence stamp =
      (s.indexed n t presence stamp).indexNotice n ((s.depart n t stamp).crosses n) stamp := by
    rw [State.index_eq]
    refine State.completeProving_open ?_
    rw [State.indexNotice_frame]
    show ∀ run, (s.indexed n t presence stamp).comm.record = _ → _
    rw [State.indexed_comm]
    exact (s.depart_comm n t stamp).open hopen
  obtain ⟨hstance, htime⟩ := State.applyStaged_late hn stamp ((s.onward n t stamp).fill n presence stamp)
  rw [hindex, State.indexNotice_frame]
  refine ⟨hstance, htime, fun m hm => ?_⟩
  show (State.applyStaged n stamp ((s.onward n t stamp).fill n presence stamp)).track.tracks.get? m = _
  rw [State.applyStaged_tracks]
  exact Table.get?_modify_ne _ _ hm

/-- R2: the RUN output of a defined track. -/
theorem State.finish_trackRun {s : State} (hw : s.powered = true) (hp : s.pin = false) {m : Nat} (h1 : 1 ≤ m) (h4 : m ≤ 4) :
    s.finish.pins.trackRun[m - 1]? = some (s.trackRun m) := by
  rw [State.finish_pins, State.drivenPins_trackRun hp hw]
  interval_cases m <;> rfl

/-- R45, R63: a parcel in the queue moves up one place. -/
theorem Parcel.moveUp_queue {p : Parcel} {m i : Nat} (h : p.loc = .queue m i) : p.moveUp m = { p with loc := .queue m (i - 1) } := by
  simp only [Parcel.moveUp, h, if_true]

/-- R43, R49, R50: what leaves a track that is not the last. -/
theorem departure_cases {s : State} {n : Nat} (stamp : Nat) {tr : Track} (hn : n < s.track.tracks.length)
    (hget : s.track.tracks.get? n = some tr) {k : Nat} {p : Parcel}
    (hk : s.track.cells.get? (s.track.cellOf n tr (tr.segments - 1)) = some k) (hp : s.parcel.parcels.get? k = some p) :
    (tr.queue.length < 8 →
      (s.depart n tr stamp).track.tracks.get? n = some { tr with queue := tr.queue ++ [k] } ∧
      (s.depart n tr stamp).parcel.parcels.get? k =
        some { p with
          loc := .queue n (tr.queue.length + 1), zone := none, armed := false, movedAt := s.time.baseMs
          past := (if p.movedAt = s.time.baseMs then p.past else []) ++ [⟨p.zone, p.armed⟩] } ∧
      (s.depart n tr stamp).parcel.lots = s.parcel.lots) ∧
    (8 ≤ tr.queue.length →
      (∃ tr', (s.depart n tr stamp).track.tracks.get? n = some tr' ∧ tr'.backedUp = true ∧ tr'.queue = tr.queue) ∧
      (s.depart n tr stamp).parcel.parcels = s.parcel.parcels.del k ∧
      (s.time.timers.wf = true → (s.depart n tr stamp).time.timers.get? (n - 1) = none) ∧
      (∀ l, s.parcel.lots.get? p.slot = some l → s.parcel.current = some p.slot →
        (s.depart n tr stamp).parcel.lots.get? p.slot = some { l with lost := l.lost + 1, live := l.live - 1 }) ∧
      (s.link.notices.length + 2 ≤ 32 → s.link.waiting = [] → Queued (s.depart n tr stamp) (.lost p.seq p.slot n stamp))) := by
  refine ⟨fun hroom => ?_, fun hfull => ?_⟩
  · rw [State.depart_joins hn hk hp hroom]
    refine ⟨?_, ?_, rfl⟩
    · show (s.track.tracks.modify n _).get? n = _
      rw [Table.get?_modify_self, hget]
      rfl
    · show (s.parcel.parcels.modify k _).get? k = _
      rw [Table.get?_modify_self, hp]
      rfl
  · have hvacated : (s.vacated n tr).track.tracks.get? n = some tr := hget
    obtain ⟨htrack, htime⟩ := State.backpressure_full hvacated hfull k p stamp
    rw [State.depart_lost hn hk hp hfull]
    refine ⟨⟨_, htrack, rfl, rfl⟩, State.backpressure_parcels .., fun hwf => ?_, fun l hl hcur => ?_, fun hroom hwait => ?_⟩
    · rw [htime]
      exact Table.get?_del_self _ hwf
    · exact State.backpressure_lot (s := s.vacated n tr) hl hcur k n stamp
    · exact State.backpressure_queued (s := s.vacated n tr) ⟨hroom, hwait⟩ k n p stamp

/-- R45, R51: what an index of track `m + 1` leaves where it takes over record `k`, the oldest entry of queue `m`. -/
structure HandedOn (m k : Nat) (rest : List Nat) (x t : Track) (stamp : Nat) (s u : State) : Prop where
  stance : u.stance = s.stance
  cell : u.track.cells.get? (s.track.cellOf (m + 1) t (t.segments - 1)) = some k
  arrives : ∀ p i, s.parcel.parcels.get? k = some p → p.loc = .queue m i → ∃ a : State, a.track.plan = s.track.plan ∧
    a.probe = s.probe ∧ a.time.baseMs = s.time.baseMs ∧ u.parcel.parcels.get? k = some (a.arrival (m + 1) stamp p)
  movesUp : ∀ j q i, j ≠ k → s.lastRecord (m + 1) t ≠ some j → s.parcel.parcels.get? j = some q → q.loc = .queue m i →
    u.parcel.parcels.get? j = some { q with loc := .queue m (i - 1) }
  recovered : s.Recovers x rest → u.track.tracks.get? m = some { x with queue := rest, backedUp := false } ∧
    u.time.timers.get? (m - 1) = some (min (s.time.lineTime + x.stallLimit) 281474976710655)
  unchanged : ¬s.Recovers x rest → u.track.tracks.get? m = some { x with queue := rest } ∧
    u.time.timers.get? (m - 1) = s.time.timers.get? (m - 1)

/-- R45: where a parcel arrives, its place in the queue is forgotten. -/
theorem State.arrival_moveUp (a : State) (n stamp : Nat) {p : Parcel} {m i : Nat} (h : p.loc = .queue m i) :
    a.arrival n stamp (p.moveUp m) = a.arrival n stamp p := by
  rw [Parcel.moveUp_queue h]
  rfl

theorem HandedOn.index {s : State} {m k : Nat} {rest : List Nat} {x t : Track} (hm1 : 1 ≤ m) (hm4 : m ≤ 4)
    (hx : s.track.tracks.get? m = some x) (hq : x.queue = k :: rest) (ht : s.track.tracks.get? (m + 1) = some t)
    (hhead : t.head < t.segments) (hlast : s.lastRecord (m + 1) t ≠ some k)
    (hopen : ∀ run, s.comm.record = ⟨.running, some run⟩ → run.entries.length + 1 < run.count) (presence : Bool) (stamp : Nat) :
    HandedOn m k rest x t stamp s (s.index (m + 1) t presence stamp) := by
  have hne : m ≠ m + 1 := (Nat.succ_ne_self m).symm
  have hn1 : m + 1 ≠ 1 := by omega
  have hqueue : x.queue ≠ [] := hq ▸ List.cons_ne_nil k rest
  obtain ⟨hstance, hxa, htimers⟩ := State.onward_beside hne hx hqueue t stamp
  obtain ⟨hplan, hprobe, hms, hline⟩ := s.onward_reads (m + 1) t stamp
  obtain ⟨y, hy, hcell⟩ := State.onward_cell ht hhead stamp
  have htook := TookOver.takeQueue hxa hq hy stamp
  obtain ⟨hindexStance, hindexTime, hindexTracks⟩ := State.index_late hn1 hopen presence stamp
  have hindexCells := s.index_cells (m + 1) t presence stamp
  have hindexParcels : (s.index (m + 1) t presence stamp).parcel.parcels =
      ((s.onward (m + 1) t stamp).fill (m + 1) presence stamp).parcel.parcels := s.index_parcels (m + 1) t presence stamp
  rw [State.fill_late hn1, Nat.add_sub_cancel] at hindexStance hindexTime hindexTracks hindexCells hindexParcels
  have hrecovers : (s.onward (m + 1) t stamp).Recovers x rest ↔ s.Recovers x rest := by
    rw [State.Recovers, State.Recovers, (State.stance_eq_iff.mp hstance).2.2]
  constructor
  case stance => exact hindexStance.trans (htook.stance.trans hstance)
  case cell =>
    rw [hindexCells, htook.cells y hy, hcell]
    exact Table.get?_put_self ..
  case arrives =>
    intro p i hp hloc
    obtain ⟨a, haplan, haprobe, hams, harrival⟩ := htook.parcel p (State.onward_waiting hlast hp hloc stamp)
    refine ⟨a, haplan.trans hplan, haprobe.trans hprobe, hams.trans hms, ?_⟩
    rw [hindexParcels, harrival, a.arrival_moveUp _ _ hloc]
  case movesUp =>
    intro j q i hj hjlast hget hloc
    rw [hindexParcels, htook.others j hj, State.onward_waiting hjlast hget hloc, Option.map_some, Parcel.moveUp_queue hloc]
  case recovered =>
    intro hr
    obtain ⟨htrack, htime⟩ := htook.recovered (hrecovers.mpr hr)
    refine ⟨(hindexTracks m hne).trans htrack, ?_⟩
    rw [hindexTime, htime, State.armFor_time, hline]
    exact Table.get?_put_self ..
  case unchanged =>
    intro hr
    obtain ⟨htrack, htime⟩ := htook.unchanged fun h => hr (hrecovers.mp h)
    refine ⟨(hindexTracks m hne).trans htrack, ?_⟩
    rw [hindexTime, htime]
    exact htimers (m - 1) (by omega) (by omega)

/-- R45: with the queue before it empty, the cell at position 0 of a track behind the first stays empty. -/
theorem State.index_emptyQueue {s : State} {m : Nat} {x t : Track} (hm1 : 1 ≤ m) (hx : s.track.tracks.get? m = some x)
    (hq : x.queue = []) (hwf : s.track.cells.wf = true) (presence : Bool) (stamp : Nat) :
    (s.index (m + 1) t presence stamp).track.cells.get? (s.track.cellOf (m + 1) t (t.segments - 1)) = none := by
  have hne : m ≠ m + 1 := (Nat.succ_ne_self m).symm
  obtain ⟨x', hx', hq'⟩ := State.depart_queue hne hx t stamp
  have honward : (s.onward (m + 1) t stamp).track.tracks.get? m = some x' := (Table.get?_modify_ne _ _ hne).trans hx'
  rw [State.index_cells, State.fill_late (by omega), Nat.add_sub_cancel, State.takeQueue_empty honward (hq'.trans hq)]
  exact State.depart_cell hwf (m + 1) t stamp

/-- R52: the stall timers of the other tracks, where a segment ends. -/
theorem State.segmentEnded_timers_ne {n j : Nat} (hj : j ≠ n - 1) (tr : Track) (s : State) :
    (s.segmentEnded n tr).time.timers.get? j = s.time.timers.get? j := by
  show (s.stallRearmed n tr).time.timers.get? j = _
  unfold State.stallRearmed
  split
  · exact State.armFor_timers_ne s (id := .stall n) _ hj
  · rfl

/-- R2, R51: a track that has recovered runs again. -/
theorem State.recovered_pin {s u : State} {m : Nat} {x : Track} (hstance : u.stance = s.stance) (hw : s.powered = true)
    (hp : s.pin = false) (hruns : s.line.state.runs = true) (hx : u.track.tracks.get? m = some x) (hb : x.backedUp = false)
    (h1 : 1 ≤ m) (h4 : m ≤ 4) : u.finish.pins.trackRun[m - 1]? = some true := by
  obtain ⟨hpowered, hpin, hline⟩ := State.stance_eq_iff.mp hstance
  rw [State.finish_trackRun (hpowered.trans hw) (hpin.trans hp) h1 h4, State.trackRun_of_get? hx, hline, hruns, hb]
  rfl

/-- Settles O27: a departure joins the queue or is lost; an index of a track behind the first takes the oldest entry over, and
the track before it recovers where R51 says so. -/
theorem departureJoinsTheQueue : Obligations.DepartureJoinsTheQueue := by
  refine ⟨fun s n stamp tr hn hget => ⟨fun hnone => State.depart_empty hnone stamp,
    fun k p hk hp => departure_cases stamp hn hget hk hp⟩,
    fun s input n presence tr x cell h h2 h4 hx hhead hcell hwf => ?_⟩
  obtain ⟨m, rfl⟩ : ∃ m, n = m + 1 := ⟨n - 1, by omega⟩
  have hm1 : 1 ≤ m := by omega
  have hne : m ≠ m + 1 := (Nat.succ_ne_self m).symm
  have hm4 : m ≤ 4 := by omega
  have hexec := exec_indexes h presence
  obtain ⟨hw, hp, -, -, -, hget, -, -⟩ := h
  rw [Nat.add_sub_cancel] at hx
  have hx0 : (s.segmentEnded (m + 1) tr).track.tracks.get? m = some x := (s.segmentEnded_get?_ne (m + 1) tr hne).trans hx
  have hcell0 := (s.segmentEnded_cell (m + 1) tr).trans hcell.symm
  refine ⟨fun hq => ⟨_, hexec, ?_⟩, fun k rest p place hq hpk hloc hlast hopen => ?_⟩
  · rw [State.finish_track, ← hcell0]
    exact State.index_emptyQueue hm1 hx0 hq hwf presence _
  · have hlast0 : ∀ j, s.track.cells.get? cell ≠ some j →
        (s.segmentEnded (m + 1) tr).lastRecord (m + 1) { tr with counter := 0 } ≠ some j := fun j hj => by
      rwa [State.lastRecord, hcell0]
    have hon := HandedOn.index hm1 hm4 hx0 hq (s.segmentEnded_get? (m + 1) tr hget) hhead (hlast0 k hlast) hopen
      presence s.time.lineTime
    obtain ⟨a, hplan, hprobe, hms, harrives⟩ := hon.arrives p place hpk hloc
    refine ⟨_, _, hexec, ?_, (congrArg (fun u => u.parcels.get? k) (State.finish_parcel _)).trans harrives, fun z hz => ?_,
      fun j q i hj hjlast hjq hjloc => ?_, fun hr => ?_, fun hr => ?_⟩
    · rw [State.finish_track, ← hcell0]
      exact hon.cell
    · exact State.arrival_entered (hplan.trans (s.segmentEnded_plan ..)) hprobe (hms.trans (s.segmentEnded_baseMs ..)) hz p
    · rw [State.finish_parcel]
      exact hon.movesUp j q i hj (hlast0 j hjlast) hjq hjloc
    · obtain ⟨htrack, htimer⟩ := hon.recovered hr
      obtain ⟨-, -, hruns⟩ := hr
      rw [s.segmentEnded_lineTime] at htimer
      rw [State.finish_track, State.finish_time]
      exact ⟨htrack, htimer, State.recovered_pin hon.stance hw hp hruns htrack rfl hm1 hm4⟩
    · have hother : m - 1 ≠ m + 1 - 1 := by omega
      obtain ⟨htrack, htimer⟩ := hon.unchanged hr
      rw [State.finish_track, State.finish_time]
      exact ⟨htrack, htimer.trans (State.segmentEnded_timers_ne hother tr s)⟩

end Sys2Proof.Machine
end

section
/-! ## Accounts of the lots kept (R71)

A lot's record changes by a count of the outcome of a parcel, by a creation, or in fields the account does not read; a slot's
record is written anew with every count 0, or deleted. Each keeps the account, whatever the lot table holds. `LotsBalanced`
reads the lot table alone, so an operation that leaves the table is passed by as it stands. This file has the rule for each
change of a record and for the shared operations. -/

namespace Sys2Proof.Machine

-- One declaration after the other, so that the text needs one thread for them and not one each.
set_option Elab.async false

/-! ### The account of one lot -/

theorem Lot.balanced_iff (l : Lot) : l.balanced = true ↔ l.created = l.live + l.released + l.held + l.redirected + l.lost :=
  decide_eq_true_iff

theorem Lot.balanced_new (code : List Byte) (recipe cls : Nat) (proving : Bool) :
    (Lot.new code recipe cls proving).balanced = true := rfl

/-- R61: a parcel created is a live one. -/
theorem Lot.balanced_create (q : Seq) {l : Lot} (h : l.balanced = true) : (l.create q).balanced = true := by
  rw [Lot.balanced_iff] at h ⊢
  simp only [Lot.create, h]
  ring

/-- R69: a parcel lost is live no more. -/
theorem Lot.balanced_lose {l : Lot} (h : l.balanced = true) : l.lose.balanced = true := by
  rw [Lot.balanced_iff] at h ⊢
  simp only [Lot.lose, h]
  ring

/-- R68: each outcome takes one live parcel into one count. -/
theorem Lot.balanced_outcome (r : LaneResult) {l : Lot} (h : l.balanced = true) : (l.outcome r).balanced = true := by
  rw [Lot.balanced_iff] at h ⊢
  unfold Lot.outcome
  split <;> (simp only [h]; ring)

theorem Lot.balanced_addBagVerdict (accepted : Bool) {l : Lot} (h : l.balanced = true) :
    (l.addBagVerdict accepted).balanced = true := by
  unfold Lot.addBagVerdict
  split <;> exact h

theorem Lot.balanced_storePallet (quarantined : Bool) {l : Lot} (h : l.balanced = true) :
    (l.storePallet quarantined).balanced = true := by
  unfold Lot.storePallet
  split <;> exact h

/-! ### The lot table -/

theorem lotsBalanced_iff (s : State) : LotsBalanced s ↔ ∀ e ∈ s.parcel.lots, e.2.balanced = true := List.all_eq_true

/-- What empties the lot table leaves no account open. -/
theorem lotsBalanced_of_nil {s : State} (h : s.parcel.lots = []) : LotsBalanced s := by
  rw [lotsBalanced_iff, h]
  exact List.forall_mem_nil _

/-- A choice between two states keeps the accounts where both do. -/
theorem lotsBalanced_ite {p : Prop} [Decidable p] {s t : State} (hs : LotsBalanced s) (ht : LotsBalanced t) :
    LotsBalanced (if p then s else t) := by
  split
  · exact hs
  · exact ht

section Shared
variable {s : State} {slot : Nat} {l : Lot} {f : Lot → Lot} {cause : HaltCause} {x : TripSource} {why : TripCause}
  {c pallet time : Nat} {b : Option (Nat × LevelName)} {i : FieldInput} {edge : Edge → State → State} {id : TimerId}
  {owner : State → State} (h : LotsBalanced s)
include h

theorem LotsBalanced.of_parcel {t : State} (ht : t.parcel = s.parcel) : LotsBalanced t := by
  rw [LotsBalanced, ht]
  exact h

theorem LotsBalanced.onLot (hf : ∀ l : Lot, l.balanced = true → (f l).balanced = true) :
    LotsBalanced (s.onLot slot f) := by
  rw [LotsBalanced, State.onLot_lots, Table.modify, Table.all_mapVals, List.all_eq_true]
  intro e he
  have hl := (lotsBalanced_iff s).mp h e he
  dsimp only
  split
  · exact hf _ hl
  · exact hl

theorem LotsBalanced.newLot (hl : l.balanced = true) : LotsBalanced (s.newLot slot l) := by
  refine (lotsBalanced_iff _).mpr fun e he => ?_
  rcases Table.mem_put he with rfl | he
  · exact hl
  · exact (lotsBalanced_iff s).mp h e he

/-! ### Lots retired and made current (R59, R60, R73) -/

theorem LotsBalanced.enterSummary : LotsBalanced (s.enterSummary slot) := by
  unfold State.enterSummary
  split
  · exact (lotsBalanced_iff _).mpr fun e he => (lotsBalanced_iff s).mp h e ((s.parcel.lots.del_sublist slot).mem he)
  · exact h

theorem LotsBalanced.offerSummary : LotsBalanced (s.offerSummary slot) := lotsBalanced_ite h.enterSummary h

theorem LotsBalanced.retireTest : LotsBalanced (s.retireTest slot) := by
  unfold State.retireTest
  split
  · split
    · exact .offerSummary (.onLot h fun _ hl => hl)
    · exact h
  · exact h

theorem LotsBalanced.makeCurrent : LotsBalanced (s.makeCurrent slot) := by
  unfold State.makeCurrent
  dsimp only
  split
  · split
    · exact h
    · exact .retireTest h
  · exact h

theorem LotsBalanced.dropCurrent : LotsBalanced s.dropCurrent := by
  unfold State.dropCurrent
  dsimp only
  split
  · exact .retireTest h
  · exact h

/-! ### The line state -/

theorem LotsBalanced.armStalls : LotsBalanced s.armStalls := h.of_parcel (State.armStalls_parcel s)

theorem LotsBalanced.releaseSync : LotsBalanced s.releaseSync := .armStalls h

theorem LotsBalanced.endProving : LotsBalanced s.endProving := by
  unfold State.endProving
  split
  · exact .dropCurrent h
  · exact h

theorem LotsBalanced.abortProving : LotsBalanced s.abortProving := lotsBalanced_ite h.endProving h

theorem LotsBalanced.enterHalted : LotsBalanced (s.enterHalted cause) := by
  have hcancel : LotsBalanced (if s.line.state = .draining then s.cancelStalls.cancel .drain else s.cancelStalls) := by
    split <;> exact h
  unfold State.enterHalted
  dsimp only
  split
  · exact .abortProving hcancel
  · exact hcancel

theorem LotsBalanced.raiseHalt : LotsBalanced (s.raiseHalt cause) := lotsBalanced_ite h.enterHalted h

theorem LotsBalanced.emptyTest : LotsBalanced s.emptyTest := h.of_parcel (State.emptyTest_parcel s)

/-! ### Trip events -/

theorem LotsBalanced.markZone : LotsBalanced (s.markZone x) := by
  unfold State.markZone
  split <;> exact h

theorem LotsBalanced.fire : LotsBalanced (s.fire x why pallet time) := by
  have hnote : LotsBalanced (if (s.route x).notify then
      (s.setLatch x true).notify (.trip x why (s.tripChannel x) pallet (s.route x) time) else s.setLatch x true) := by
    split <;> exact h.of_parcel (State.setLatch_parcel s x true)
  have hmark : ∀ u, LotsBalanced u → LotsBalanced (if (s.route x).markZone then u.markZone x else u) := fun u hu => by
    split
    · exact hu.markZone
    · exact hu
  unfold State.fire
  dsimp only
  split
  · exact (hmark _ hnote).raiseHalt
  · exact hmark _ hnote

theorem LotsBalanced.reform : LotsBalanced (s.reform c why time) := by
  unfold State.reform
  split
  · refine State.each_induct LotsBalanced _ _ _ h fun l _ t ht => ?_
    split
    · exact ht.fire
    · exact ht
  · exact h

theorem LotsBalanced.reformBound : LotsBalanced (s.reformBound time b) := by
  unfold State.reformBound
  split
  · exact h.reform
  · exact h

/-! ### The end of a command, edges and expiries -/

theorem LotsBalanced.finish : LotsBalanced s.finish := h.of_parcel (State.finish_parcel s)

theorem LotsBalanced.deliver (ho : ∀ e t, LotsBalanced t → LotsBalanced (edge e t)) : LotsBalanced (s.deliver i edge) := by
  unfold State.deliver
  split
  · exact ho _ _ h
  · exact h

theorem LotsBalanced.expire (ho : ∀ t, LotsBalanced t → LotsBalanced (owner t)) : LotsBalanced (s.expire id owner) := by
  unfold State.expire
  split
  · dsimp only
    split
    · exact h
    · exact ho _ h
  · exact h

end Shared

end Sys2Proof.Machine
end

section
/-! ## Accounts of the lots kept: the units -/

namespace Sys2Proof.Machine

-- One declaration after the other, so that the text needs one thread for them and not one each.
set_option Elab.async false

/-! ### Lanes, gates and bags -/

section Lanes
variable {s : State} {k n stamp slot bag : Nat} {pending : Option Nat} {cause : LaneZeroCause} {lanes : List Nat} {p : Parcel}
  {e : ClassEntry} {v : VerdictRecord} (h : LotsBalanced s)
include h

theorem LotsBalanced.sealLane : LotsBalanced (s.sealLane n stamp) := by
  unfold State.sealLane
  split <;> exact h

theorem LotsBalanced.closeGate : LotsBalanced (s.closeGate pending) := h

theorem LotsBalanced.requestGate : LotsBalanced (s.requestGate bag) := by
  unfold State.requestGate
  split
  · split
    · exact h
    · exact h.closeGate
  · split <;> exact h

theorem LotsBalanced.toLaneZero : LotsBalanced (s.toLaneZero cause).1 := by
  unfold State.toLaneZero State.requestLaneZero
  dsimp only
  split
  · exact .closeGate h
  · exact h

theorem LotsBalanced.unblock : LotsBalanced s.unblock := by
  unfold State.unblock
  split <;> exact h

theorem LotsBalanced.freeBag : LotsBalanced (s.freeBag k) := by
  unfold State.freeBag
  split
  · exact .unblock (.retireTest (.onLot h fun _ hl => hl))
  · exact h

/-! ### The lane choice -/

theorem LotsBalanced.joinBag : LotsBalanced (s.joinBag k n p) := by
  unfold State.joinBag
  dsimp only
  split
  · split <;> exact h
  · exact h

theorem LotsBalanced.openBag : LotsBalanced (s.openBag k n stamp p).1 := .onLot h fun _ hl => hl

theorem LotsBalanced.divert : LotsBalanced (s.divert n stamp p).1 := by
  unfold State.divert
  split
  · exact h.joinBag
  · split
    · exact h.openBag
    · exact h

theorem LotsBalanced.passGate : LotsBalanced (s.passGate n p stamp).1 := by
  unfold State.passGate
  dsimp only
  split
  · exact h.requestGate.divert
  · exact h.requestGate

theorem LotsBalanced.useLane : LotsBalanced (s.useLane n p stamp).1 := by
  unfold State.useLane
  dsimp only
  split
  · exact .toLaneZero h
  · exact h.passGate

theorem LotsBalanced.chooseLane : LotsBalanced (s.chooseLane e p stamp).1 := by
  unfold State.chooseLane
  dsimp only
  split
  · exact .useLane h
  · exact .toLaneZero h

/-- R125: wherever a parcel is sent, a lot changes in its bag references at most. -/
theorem LotsBalanced.distribute : LotsBalanced (s.distribute p v).1 := by
  unfold State.distribute
  split
  · exact h.toLaneZero
  · split
    · exact h.toLaneZero
    · split
      · exact h.toLaneZero
      · split
        · exact h.chooseLane
        · exact h.toLaneZero

end Lanes

/-! ### Counting bags and the arbiter -/

section Counting
variable {s : State} {k r grams : Nat} {b : Bag} {numbers lanes : List Nat} (h : LotsBalanced s)
include h

theorem LotsBalanced.arbitrate : LotsBalanced s.arbitrate := by
  unfold State.arbitrate
  split
  · split <;> exact h
  · exact h

theorem LotsBalanced.becomeReady : LotsBalanced (s.becomeReady r) := .arbitrate h

theorem LotsBalanced.createPallet : LotsBalanced (s.createPallet r b) := .onLot h fun _ hl => hl

theorem LotsBalanced.countOnto : LotsBalanced (s.countOnto r k) := by
  unfold State.countOnto
  dsimp only
  split
  · split
    · exact .becomeReady (.freeBag h)
    · exact .freeBag h
  · exact h

theorem LotsBalanced.countNew : LotsBalanced (s.countNew k b).1 := by
  unfold State.countNew
  split
  · exact h.createPallet.countOnto
  · exact h

theorem LotsBalanced.tryCount : LotsBalanced (s.tryCount k).1 := by
  unfold State.tryCount
  split
  · exact h
  · split
    · split
      · exact h.countOnto
      · exact h.becomeReady.countNew
    · exact h.countNew

theorem LotsBalanced.submitBag : LotsBalanced (s.submitBag k b) := by
  unfold State.submitBag
  split
  · exact h
  · dsimp only
    split <;> exact h.tryCount

/-- R146: each bag the walk takes up is counted, or left. -/
theorem LotsBalanced.walk : LotsBalanced (walk numbers lanes s).1 := by
  induction numbers generalizing lanes s with
  | nil => exact h
  | cons number rest ih =>
    unfold Machine.walk
    split
    · exact ih h
    · dsimp only
      split
      · exact ih h
      · split
        · exact ih h.tryCount
        · exact ih h.tryCount

theorem LotsBalanced.walkWaiting : LotsBalanced s.walkWaiting := h.walk

theorem LotsBalanced.weigh : LotsBalanced (s.weigh k b grams).1 := by
  unfold State.weigh
  dsimp only
  split
  · exact .submitBag (.onLot h fun _ => Lot.balanced_addBagVerdict _)
  · exact .freeBag (LotsBalanced.onLot h fun _ => Lot.balanced_addBagVerdict _)

end Counting

/-! ### PALLET TRANSFER (R159, R185) -/

section Transfer
variable {s : State} {r part : Nat} (h : LotsBalanced s)
include h

theorem LotsBalanced.freePallet : LotsBalanced (s.freePallet r) := by
  unfold State.freePallet
  dsimp only
  split
  · exact .walkWaiting (.retireTest (.onLot h fun _ hl => hl))
  · exact h

theorem LotsBalanced.enterTransfer : LotsBalanced (s.enterTransfer r part) := by
  unfold State.enterTransfer
  split <;> exact h

theorem LotsBalanced.enterLast : LotsBalanced (s.enterLast r part) := h.enterTransfer.freePallet

theorem LotsBalanced.offerLast : LotsBalanced (s.offerLast r part) := lotsBalanced_ite h.enterLast h

theorem LotsBalanced.enterPart : LotsBalanced (s.enterPart r part) := by
  unfold State.enterPart
  split
  · split
    · exact h.enterTransfer.offerLast
    · exact h.enterLast
  · exact h

theorem LotsBalanced.offerPart : LotsBalanced (s.offerPart r part) := lotsBalanced_ite h.enterPart h

end Transfer

/-! ### The shuttle, the door and faults -/

section Shuttle
variable {s : State} {r stamp : Nat} {p : Pallet} {cause : ShuttleCause} (h : LotsBalanced s)
include h

theorem LotsBalanced.expose : LotsBalanced (s.expose r p) := LotsBalanced.fire (s := s.onPallet r _) h

theorem LotsBalanced.exposureExpired : LotsBalanced (s.exposureExpired r) := by
  unfold State.exposureExpired
  split
  · exact h
  · split
    · exact h
    · split
      · exact h.expose.becomeReady
      · exact h.expose

theorem LotsBalanced.returnPallet : LotsBalanced (s.returnPallet r p) := by
  unfold State.returnPallet
  split
  · exact h.becomeReady
  · split <;> exact h

theorem LotsBalanced.faultShuttle : LotsBalanced (s.faultShuttle cause) := by
  unfold State.faultShuttle
  dsimp only
  split
  · exact .fire (.returnPallet h)
  · exact .fire h

theorem LotsBalanced.accepted : LotsBalanced s.accepted := by
  unfold State.accepted
  split <;> exact h

theorem LotsBalanced.loaded : LotsBalanced s.loaded := by
  unfold State.loaded
  dsimp only
  split
  · split <;> exact h
  · exact h

theorem LotsBalanced.jobDone : LotsBalanced s.jobDone := by
  unfold State.jobDone
  split
  · split
    · exact .arbitrate h
    · exact h
  · exact h

theorem LotsBalanced.judgeDoor : LotsBalanced (s.judgeDoor r stamp) := by
  unfold State.judgeDoor
  split
  · split
    · exact h.expose
    · exact h
  · exact h

theorem LotsBalanced.storePallet : LotsBalanced (s.storePallet r) := by
  unfold State.storePallet
  split
  · exact .offerPart (.onLot h fun _ => Lot.balanced_storePallet _)
  · exact h

theorem LotsBalanced.doorPass : LotsBalanced (s.doorPass r stamp) := .storePallet (.judgeDoor h)

theorem LotsBalanced.doorEdge : LotsBalanced (s.doorEdge stamp) := by
  unfold State.doorEdge
  split
  · split
    · exact h
    · split
      · exact h.doorPass
      · exact h
  · exact h

theorem LotsBalanced.recoverShuttle : LotsBalanced s.recoverShuttle := by
  unfold State.recoverShuttle
  dsimp only
  split
  · exact .becomeReady h
  · exact .arbitrate h

end Shuttle

/-! ### Parcels, declarations and the index -/

section Index
variable {s : State} {k n slot stamp input : Nat} {f : Lot → Lot} {p : Parcel} {l : Lot} {t : Track}
  {entry : ProvingRun → ProvingEntry} {presence moved : Bool} (h : LotsBalanced s)
include h

theorem LotsBalanced.retireParcel (hf : ∀ l : Lot, l.balanced = true → (f l).balanced = true) :
    LotsBalanced (s.retireParcel k slot f) := .retireTest (.onLot h hf)

theorem LotsBalanced.takeEntry : LotsBalanced (s.takeEntry p entry) := by
  unfold State.takeEntry
  split <;> exact h

/-- R68: the outcome of a parcel at the outfeed. -/
theorem LotsBalanced.outfeed : LotsBalanced (s.outfeed k p stamp) := by
  have hout : ∀ v b, LotsBalanced (if (s.distribute p v).1.credit.outfeedNotices then (s.distribute p v).1.notify b
      else (s.distribute p v).1) := fun v b => by
    split <;> exact h.distribute
  exact ((hout ..).takeEntry.retireParcel fun _ => Lot.balanced_outcome _).emptyTest

/-- R69: a parcel lost to backpressure. -/
theorem LotsBalanced.backpressure : LotsBalanced (s.backpressure k n p stamp) :=
  .emptyTest (h.takeEntry.retireParcel fun _ => Lot.balanced_lose)

theorem LotsBalanced.depart : LotsBalanced (s.depart n t stamp) := by
  unfold State.depart
  dsimp only
  split
  · exact h
  · split
    · exact h
    · split
      · exact .outfeed h
      · split
        · exact h
        · exact .backpressure h

theorem LotsBalanced.place : LotsBalanced (s.place k n stamp) := by
  unfold State.place
  split <;> exact h

theorem LotsBalanced.recover : LotsBalanced (s.recover n) := h.of_parcel (State.recover_parcel ..)

theorem LotsBalanced.takeQueue : LotsBalanced (s.takeQueue n stamp) := by
  unfold State.takeQueue
  dsimp only
  split
  · exact .recover (.place h)
  · exact h

theorem LotsBalanced.createParcel : LotsBalanced (s.createParcel slot l k stamp) := .onLot h fun _ => Lot.balanced_create _

theorem LotsBalanced.fill : LotsBalanced (s.fill n presence stamp) := by
  unfold State.fill
  split
  · split
    · exact h.createParcel.place
    · exact h
  · exact h.takeQueue

theorem LotsBalanced.revive : LotsBalanced (s.revive slot) := .onLot h fun _ hl => hl

theorem LotsBalanced.applyDeclaration : LotsBalanced (s.applyDeclaration stamp) := by
  unfold State.applyDeclaration State.tableFull
  split
  · exact h
  · split
    · split
      · exact h.revive.makeCurrent
      · exact h.makeCurrent
    · split
      · exact (h.newLot (Lot.balanced_new ..)).makeCurrent
      · split <;> exact h

theorem LotsBalanced.applyStaged : LotsBalanced (s.applyStaged n stamp) := by
  have hdeclared : LotsBalanced (if n = 1 then s.applyDeclaration stamp else s) := by
    split
    · exact h.applyDeclaration
    · exact h
  unfold State.applyStaged
  dsimp only
  generalize (if n = 1 then s.applyDeclaration stamp else s) = u at hdeclared
  split <;> exact hdeclared

theorem LotsBalanced.indexNotice : LotsBalanced (s.indexNotice n moved stamp) :=
  h.of_parcel (by rw [State.indexNotice_frame])

theorem LotsBalanced.endProvingLine : LotsBalanced s.endProvingLine := h.of_parcel (State.holdCounters_parcel _)

theorem LotsBalanced.completeProving : LotsBalanced s.completeProving := by
  unfold State.completeProving
  dsimp only
  split
  · split
    · exact .endProvingLine (.dropCurrent h)
    · exact h
  · exact h

theorem LotsBalanced.index : LotsBalanced (s.index n t presence stamp) :=
  .completeProving (.indexNotice (.applyStaged (.fill h.depart)))

theorem LotsBalanced.pulse : LotsBalanced (s.pulse presence n) := by
  unfold State.pulse
  split
  · exact h
  · next t _ =>
    split
    · have hrun : LotsBalanced (if s.trackRun n then s.armFor (.stall n) t.stallLimit else s) := by
        split <;> exact h
      dsimp only
      generalize (if s.trackRun n then s.armFor (.stall n) t.stallLimit else s) = u at hrun
      split
      · exact hrun
      · exact .index hrun
    · exact h

theorem LotsBalanced.encoder : LotsBalanced (s.encoder input presence) := by
  have hpulses : ∀ l u, LotsBalanced u → LotsBalanced (State.each (State.pulse presence) l u) := fun l u hu =>
    State.each_induct LotsBalanced _ _ _ hu fun n _ _ ht => ht.pulse
  unfold State.encoder
  dsimp only
  split
  · exact hpulses _ { s with draws := s.draws + 1 } h
  · exact hpulses _ _ h

end Index

/-! ### Probes -/

section Probes
variable {s : State} {c input stamp : Nat} {raw : Int} {b : Option (Nat × LevelName)} {cause : MissCause} {rising : Bool}
  {e : Exchange} {frame bytes : List Byte} {outcome : State → State} (h : LotsBalanced s)
include h

theorem LotsBalanced.bind : LotsBalanced (s.bind input b) := by
  unfold State.bind
  split
  · exact .reformBound (.reformBound h)
  · exact h

theorem LotsBalanced.creditSample {v : Int} {time : Nat} {wasStale : Bool} : LotsBalanced (s.creditSample c v time wasStale) := by
  rw [State.creditSample_frame]
  exact h

theorem LotsBalanced.goodSample : LotsBalanced (s.goodSample c raw stamp) := by
  have hcredit : ∀ u v w, LotsBalanced u → LotsBalanced (if u.track.watchesBlanch c then u.creditSample c v stamp w else u) :=
    fun u v w hu => by
      split
      · exact hu.creditSample
      · exact hu
  unfold State.goodSample
  split
  · exact h
  · refine hcredit _ _ _ (.reform ?_)
    split <;> exact h

theorem LotsBalanced.missed : LotsBalanced (s.missed c cause) := by
  unfold State.missed
  dsimp only
  split
  · exact h
  · split
    · exact LotsBalanced.fire (s := s.onChannel c (Channel.miss cause)) h
    · exact h

theorem LotsBalanced.judgeFrame : LotsBalanced (s.judgeFrame e frame) := by
  unfold State.judgeFrame
  split
  · split
    · split
      · exact .missed h
      · exact h.goodSample
    · exact h.missed
  · exact h

theorem LotsBalanced.endExchange (ho : LotsBalanced (outcome s)) : LotsBalanced (s.endExchange e outcome) := by
  unfold State.endExchange
  dsimp only
  split
  · exact h
  · exact ho

theorem LotsBalanced.sampleBytes : LotsBalanced (s.sampleBytes bytes) := by
  unfold State.sampleBytes
  dsimp only
  split
  · exact h
  · split
    · split
      · exact h.endExchange h.judgeFrame
      · exact h
    · exact h

theorem LotsBalanced.closeWindow : LotsBalanced s.closeWindow := by
  unfold State.closeWindow
  split
  · exact h
  · split
    · exact h
    · exact h.endExchange h.missed

theorem LotsBalanced.externalEdge : LotsBalanced (s.externalEdge input rising stamp) := by
  unfold State.externalEdge
  split
  · exact .reformBound h
  · exact h

end Probes

end Sys2Proof.Machine
end

section
/-! ## Accounts of the lots kept: every command

Most requests leave the lot table as it stands, whatever their checks say; those that may change it are HALT, CLEAR, RESET LINE,
EXTERNAL TRIP SET, BAG WEIGHT, PROVE START and PROVE ABORT. -/

namespace Sys2Proof.Machine

-- One declaration after the other, so that the text needs one thread for them and not one each.
set_option Elab.async false

section Owners
variable {s : State} (h : LotsBalanced s)
include h

/-! ### Tracks and declarations -/

theorem LotsBalanced.doTrackDefine (d : TrackDefine) : LotsBalanced (doTrackDefine d s).1 := by
  unfold Machine.doTrackDefine
  (repeat' split) <;> exact h

theorem LotsBalanced.doZoneDefine (d : ZoneDefine) : LotsBalanced (doZoneDefine d s).1 := by
  unfold Machine.doZoneDefine
  (repeat' split) <;> exact h

theorem LotsBalanced.doTrackRead (d : Nat × Nat × Nat) : LotsBalanced (doTrackRead d s).1 := by
  unfold Machine.doTrackRead
  (repeat' split) <;> exact h

theorem LotsBalanced.doDividerReset (g : Nat) : LotsBalanced (doDividerReset g s).1 := by
  unfold Machine.doDividerReset
  (repeat' split) <;> exact h

theorem LotsBalanced.doNoticeModeSet (d : Nat × Nat × Option Nat) : LotsBalanced (doNoticeModeSet d s).1 := by
  unfold Machine.doNoticeModeSet
  (repeat' split) <;> exact h

theorem LotsBalanced.doInfeedDeclare (d : List Byte × Nat × Nat) : LotsBalanced (doInfeedDeclare d s).1 := by
  unfold Machine.doInfeedDeclare
  split <;> exact h

theorem LotsBalanced.doParcelRead (q : Seq) : LotsBalanced (doParcelRead q s).1 := by
  unfold Machine.doParcelRead
  split <;> exact h

theorem LotsBalanced.doLotRead (slot : Nat) : LotsBalanced (doLotRead slot s).1 := by
  unfold Machine.doLotRead
  split <;> exact h

/-! ### Channels (R81 to R98) -/

theorem LotsBalanced.doChannelSet (d : Nat × Nat × Nat × Nat) : LotsBalanced (doChannelSet d s).1 := by
  unfold Machine.doChannelSet State.setChannel
  dsimp only
  (repeat' split) <;> exact h

theorem LotsBalanced.doOffsetStep (d : Nat × Int) : LotsBalanced (doOffsetStep d s).1 := by
  unfold Machine.doOffsetStep
  dsimp only
  (repeat' split) <;> exact h

theorem LotsBalanced.doLevelsSet (d : LevelsSet) : LotsBalanced (doLevelsSet d s).1 := by
  unfold Machine.doLevelsSet
  (repeat' split) <;> exact h

theorem LotsBalanced.doRouteSet (d : Nat × Nat × Nat) : LotsBalanced (doRouteSet d s).1 := by
  unfold Machine.doRouteSet
  (repeat' split) <;> exact h

theorem LotsBalanced.doExternalTripSet (d : ExternalSet) : LotsBalanced (doExternalTripSet d s).1 := by
  unfold Machine.doExternalTripSet
  (repeat' split) <;> try exact h
  exact h.bind

theorem LotsBalanced.doSamplingSet (ms : Nat) : LotsBalanced (doSamplingSet ms s).1 := by
  unfold Machine.doSamplingSet
  split <;> exact h

theorem LotsBalanced.doTripAck (d : Nat × Nat) : LotsBalanced (doTripAck d s).1 := by
  unfold Machine.doTripAck
  (repeat' split) <;> exact h

theorem LotsBalanced.doChannelRead (c : Nat) : LotsBalanced (doChannelRead c s).1 := by
  unfold Machine.doChannelRead
  (repeat' split) <;> exact h

/-! ### Rates and recipes -/

theorem LotsBalanced.doRateTableSet (d : List Band) : LotsBalanced (doRateTableSet d s).1 := by
  unfold Machine.doRateTableSet
  (repeat' split) <;> exact h

theorem LotsBalanced.doRecipeThermalSet (d : ThermalSet) : LotsBalanced (doRecipeThermalSet d s).1 := by
  unfold Machine.doRecipeThermalSet
  (repeat' split) <;> exact h

theorem LotsBalanced.doRecipePackingSet (d : PackingSet) : LotsBalanced (doRecipePackingSet d s).1 := by
  unfold Machine.doRecipePackingSet
  split <;> exact h

/-! ### Lanes and bags -/

theorem LotsBalanced.doClassMapSet (es : List (Nat × Nat)) : LotsBalanced (doClassMapSet es s).1 := by
  unfold Machine.doClassMapSet
  split <;> exact h

theorem LotsBalanced.doDeadTimeSet (ms : Nat) : LotsBalanced (doDeadTimeSet ms s).1 := by
  unfold Machine.doDeadTimeSet
  split <;> exact h

theorem LotsBalanced.doLaneOpen (n : Nat) : LotsBalanced (doLaneOpen n s).1 := by
  unfold Machine.doLaneOpen
  split <;> exact h

theorem LotsBalanced.doLaneClose (n : Nat) : LotsBalanced (doLaneClose n s).1 := by
  unfold Machine.doLaneClose
  split <;> exact h

theorem LotsBalanced.doBagRead (number : Nat) : LotsBalanced (doBagRead number s).1 := by
  unfold Machine.doBagRead
  (repeat' split) <;> exact h

/-! ### Bags weighed and pallets -/

theorem LotsBalanced.doBagWeight (d : Nat × Nat) : LotsBalanced (doBagWeight d s).1 := by
  unfold Machine.doBagWeight
  (repeat' split) <;> try exact h
  exact h.weigh

theorem LotsBalanced.doPalletClose (number : Nat) : LotsBalanced (doPalletClose number s).1 := by
  unfold Machine.doPalletClose
  (repeat' split) <;> try exact h
  exact h.becomeReady

theorem LotsBalanced.doPalletRead (d : Nat × Option Nat) : LotsBalanced (doPalletRead d s).1 := by
  unfold Machine.doPalletRead
  dsimp only
  (repeat' split) <;> exact h

theorem LotsBalanced.doShuttleReset (a : Unit) : LotsBalanced (doShuttleReset a s).1 := by
  unfold Machine.doShuttleReset
  (repeat' split) <;> try exact h
  exact h.recoverShuttle

theorem LotsBalanced.doJobLimitSet (a : Nat) : LotsBalanced (doJobLimitSet a s).1 := by
  unfold Machine.doJobLimitSet
  split <;> exact h

/-! ### The time base and the link -/

theorem LotsBalanced.doTimeSet (a : Nat) : LotsBalanced (doTimeSet a s).1 := by
  unfold Machine.doTimeSet
  split <;> exact h

theorem LotsBalanced.doTimeTrim (a : Int) : LotsBalanced (doTimeTrim a s).1 := by
  unfold Machine.doTimeTrim
  split <;> exact h

/-- R73, R185: a summary that has waited enters, and its slot becomes FREE. -/
theorem LotsBalanced.enterOldest : LotsBalanced s.enterOldest := by
  unfold State.enterOldest
  split
  · exact h
  · exact .enterSummary h
  · exact .enterPart h

theorem LotsBalanced.frameSent : LotsBalanced s.frameSent := by
  unfold State.frameSent
  split
  · exact h
  · exact h
  · split
    · exact .enterOldest h
    · exact h

theorem LotsBalanced.answerUnknown : LotsBalanced s.answerUnknown := by
  unfold State.answerUnknown
  (repeat' split) <;> exact h

/-! ### START to CLEAR -/

theorem LotsBalanced.doStart (a : Unit) : LotsBalanced (doStart a s).1 := by
  unfold Machine.doStart
  (repeat' split) <;> try exact h
  exact h.releaseSync

theorem LotsBalanced.stop (limit : Option Nat) : LotsBalanced (s.stop limit) := by
  cases limit with
  | none => exact lotsBalanced_ite (.emptyTest h) (lotsBalanced_ite h h)
  | some l => exact lotsBalanced_ite (.emptyTest h) (lotsBalanced_ite h h)

theorem LotsBalanced.doStop (limit : Option Nat) : LotsBalanced (doStop limit s).1 := by
  unfold Machine.doStop
  split
  · exact h.stop _
  · split
    · exact h.stop _
    · exact h

theorem LotsBalanced.doHalt (a : Unit) : LotsBalanced (doHalt a s).1 := by
  unfold Machine.doHalt
  split
  · exact h
  · exact h.enterHalted

theorem LotsBalanced.resumeTo (origin : LineState) : LotsBalanced (s.resumeTo origin) := by
  have harmed : LotsBalanced (s.onTrack fun u => { u with tracks := u.tracks.mapVals fun _ t => t.resume }).armStalls :=
    .armStalls h
  unfold State.resumeTo
  dsimp only
  split <;> exact .emptyTest harmed

theorem LotsBalanced.doResume (a : Unit) : LotsBalanced (doResume a s).1 := by
  unfold Machine.doResume
  (repeat' split) <;> try exact h
  exact h.resumeTo _

/-- R11, R69: every live parcel is LOST in its lot's account. -/
theorem LotsBalanced.loseAll : LotsBalanced s.loseAll := by
  have hlost : LotsBalanced (State.each (fun p s => s.onLot p.slot Lot.lose) s.parcel.parcels.vals s) :=
    State.each_induct LotsBalanced _ _ _ h fun _ _ _ ht => ht.onLot fun _ => Lot.balanced_lose
  exact hlost

theorem LotsBalanced.doClear (a : Unit) : LotsBalanced (doClear a s).1 :=
  State.each_induct LotsBalanced _ _ _ h.loseAll fun _ _ _ ht => ht.retireTest

/-! ### Proving runs and saves -/

theorem LotsBalanced.beginProving (k recipe n margin : Nat) : LotsBalanced (s.beginProving k recipe n margin) :=
  .releaseSync (h.newLot (Lot.balanced_new ..)).makeCurrent

theorem LotsBalanced.doProveStart (d : Nat × Nat × Nat) : LotsBalanced (doProveStart d s).1 := by
  unfold Machine.doProveStart
  (repeat' split) <;> try exact h
  exact h.beginProving ..

theorem LotsBalanced.doProveAbort (a : Unit) : LotsBalanced (doProveAbort a s).1 := h.enterHalted

theorem LotsBalanced.doCommission (a : Unit) : LotsBalanced (doCommission a s).1 := by
  unfold Machine.doCommission
  (repeat' split) <;> exact h

theorem LotsBalanced.doUnlock (a : Unit) : LotsBalanced (doUnlock a s).1 := by
  unfold Machine.doUnlock
  (repeat' split) <;> exact h

theorem LotsBalanced.doStoreSave (a : Unit) : LotsBalanced (doStoreSave a s).1 := by
  unfold Machine.doStoreSave
  split <;> exact h

theorem LotsBalanced.endSave (v : Save) (ok : Bool) : LotsBalanced (s.endSave v ok) :=
  h.of_parcel (by rw [State.endSave_frame]; rfl)

end Owners

/-! ### Line reset and power (R15, R16, R77, R191) -/

section Reset
variable {s : State} (h : LotsBalanced s)
include h

theorem LotsBalanced.notifyDiscard (parcels parts part : Nat) (ls : List (List (Nat × Lot))) :
    LotsBalanced (s.notifyDiscard parcels parts part ls) := by
  rw [State.notifyDiscard_eq]
  exact h

theorem LotsBalanced.payProving : LotsBalanced s.payProving := by
  unfold State.payProving
  split <;> exact h

theorem LotsBalanced.refire : LotsBalanced s.refire := by
  refine State.each_induct LotsBalanced _ _ _ h fun x _ t ht => ?_
  split
  · exact ht.fire
  · exact ht

theorem LotsBalanced.payStore : LotsBalanced s.payStore := by
  unfold State.payStore
  split <;> exact h

theorem LotsBalanced.assertPin : LotsBalanced s.assertPin := LotsBalanced.endProving (s := State.holdCounters _) h

end Reset

/-- R77: the lot table is emptied, and the notices of the reset change no lot. -/
theorem lotsBalanced_lineReset (s : State) : LotsBalanced s.lineReset := by
  have hunits : LotsBalanced s.resetUnits := lotsBalanced_of_nil rfl
  have hline := fun b => LotsBalanced.notifyDiscard (s := s.resetUnits.notify b) hunits
  unfold State.lineReset State.resetNotices
  exact (hline ..).payProving.refire.payStore

theorem lotsBalanced_doResetLine (a : Unit) (s : State) : LotsBalanced (doResetLine a s).1 := by
  simp only [doResetLine]
  exact lotsBalanced_lineReset _

/-- R76: at power-on every slot is FREE. -/
theorem lotsBalanced_powerUp (s : State) (seen : List FieldInput) (baud : Nat) : LotsBalanced (s.powerUp seen baud) :=
  State.each_induct LotsBalanced _ _ _ (lotsBalanced_of_nil rfl) fun _ _ _ ht => ht.reform

theorem lotsBalanced_powerDown (s : State) : LotsBalanced s.powerDown := lotsBalanced_of_nil rfl

/-! ### Every command -/

theorem LotsBalanced.act {s t : State} {effect : State → State} (h : LotsBalanced s) (hc : s.act effect = .next t)
    (he : LotsBalanced (effect s)) : LotsBalanced t := by
  cases hp : s.powered with
  | true =>
    rw [State.act_powered _ _ hp] at hc
    cases hc
    exact he.finish
  | false =>
    rw [State.act_unpowered _ _ hp] at hc
    cases hc
    exact h

theorem LotsBalanced.handOn {α : Type} {s : State} {r : Request} {parse : List Byte → Option α}
    {owner : α → State → State × ReplyBody} (h : LotsBalanced s) (ho : ∀ a, LotsBalanced (owner a s).1) :
    LotsBalanced (s.handOn r parse owner) := by
  unfold State.handOn
  (repeat' split) <;> try exact h
  exact ho _

theorem LotsBalanced.request {α : Type} {s t : State} {r : Request} {parse : List Byte → Option α}
    {owner : α → State → State × ReplyBody} (h : LotsBalanced s) (hc : (s.act fun s => s.handOn r parse owner) = .next t)
    (ho : ∀ a, LotsBalanced (owner a s).1) : LotsBalanced t := h.act hc (h.handOn ho)

/-- A command that names a line of the part, or faults. -/
theorem LotsBalanced.guarded {t : State} {i : Instr} {o : Outcome} (hc : (if i.wellFormed then o else .fault .noSuchLine) = .next t)
    (ho : o = .next t → LotsBalanced t) : LotsBalanced t := by
  split at hc
  · exact ho hc
  · nomatch hc

/-- R71: whatever command is taken, every account carries over. -/
theorem LotsBalanced.exec {c : Instr} {s t : State} (h : LotsBalanced s) (hc : exec c s = .next t) : LotsBalanced t := by
  cases c <;> simp only [Machine.exec] at hc
  case start => exact h.request hc h.doStart
  case stop => exact h.request hc h.doStop
  case halt => exact h.request hc h.doHalt
  case resume => exact h.request hc h.doResume
  case clear => exact h.request hc h.doClear
  case resetLine => exact h.request hc fun a => lotsBalanced_doResetLine a s
  case timeSet => exact h.request hc h.doTimeSet
  case timeTrim => exact h.request hc h.doTimeTrim
  case trackDefine => exact h.request hc h.doTrackDefine
  case zoneDefine => exact h.request hc h.doZoneDefine
  case trackRead => exact h.request hc h.doTrackRead
  case dividerReset => exact h.request hc h.doDividerReset
  case noticeModeSet => exact h.request hc h.doNoticeModeSet
  case infeedDeclare => exact h.request hc h.doInfeedDeclare
  case parcelRead => exact h.request hc h.doParcelRead
  case lotRead => exact h.request hc h.doLotRead
  case channelSet => exact h.request hc h.doChannelSet
  case offsetStep => exact h.request hc h.doOffsetStep
  case levelsSet => exact h.request hc h.doLevelsSet
  case routeSet => exact h.request hc h.doRouteSet
  case externalTripSet => exact h.request hc h.doExternalTripSet
  case samplingSet => exact h.request hc h.doSamplingSet
  case tripAck => exact h.request hc h.doTripAck
  case channelRead => exact h.request hc h.doChannelRead
  case rateTableSet => exact h.request hc h.doRateTableSet
  case recipeThermalSet => exact h.request hc h.doRecipeThermalSet
  case recipePackingSet => exact h.request hc h.doRecipePackingSet
  case classMapSet => exact h.request hc h.doClassMapSet
  case deadTimeSet => exact h.request hc h.doDeadTimeSet
  case laneOpen => exact h.request hc h.doLaneOpen
  case laneClose => exact h.request hc h.doLaneClose
  case bagRead => exact h.request hc h.doBagRead
  case bagWeight => exact h.request hc h.doBagWeight
  case palletClose => exact h.request hc h.doPalletClose
  case palletRead => exact h.request hc h.doPalletRead
  case shuttleReset => exact h.request hc h.doShuttleReset
  case jobLimitSet => exact h.request hc h.doJobLimitSet
  case proveStart => exact h.request hc h.doProveStart
  case proveAbort => exact h.request hc h.doProveAbort
  case commission => exact h.request hc h.doCommission
  case unlock => exact h.request hc h.doUnlock
  case storeSave => exact h.request hc h.doStoreSave
  case statusRead => exact h.request hc fun _ => h
  case timeRead => exact h.request hc fun _ => h
  case provingRead => exact h.request hc fun _ => h
  case holdRange => exact h.request hc fun _ => h
  case clearHoldRange => exact h.request hc fun _ => h
  case unknownKind => exact h.act hc h.answerUnknown
  case frameReceived bytes => exact h.act hc h
  case interByteGapTimeout => exact h.act hc h
  case brokenCharacter => exact h.act hc h
  case frameSent => exact h.act hc h.frameSent
  case baseMillisecond seen => exact .guarded hc fun hc => h.act hc h
  case encoderPulse input presence => exact .guarded hc fun hc => h.act hc h.encoder
  case pollRoundStart => exact h.act hc (lotsBalanced_ite h h)
  case sampleFrame bytes => exact h.act hc h.sampleBytes
  case answerWindowClose => exact h.act hc h.closeWindow
  case externalTripEdge input => exact .guarded hc fun hc => h.act hc (h.deliver fun _ _ ht => ht.externalEdge)
  case stallTimerExpiry track => exact .guarded hc fun hc => h.act hc (h.expire fun _ ht => .raiseHalt ht)
  case drainTimerExpiry => exact h.act hc (h.expire fun _ ht => lotsBalanced_ite ht.enterHalted ht)
  case gateTimerExpiry => exact h.act hc (h.expire fun _ ht => ht)
  case exposureTimerExpiry record => exact .guarded hc fun hc => h.act hc (h.expire fun _ ht => ht.exposureExpired)
  case shuttleJobTimerExpiry => exact h.act hc (h.expire fun _ ht => lotsBalanced_ite ht.faultShuttle ht)
  case acceptEdge => exact h.act hc (h.deliver fun _ _ ht => lotsBalanced_ite (.accepted ht) ht)
  case loadedEdge => exact h.act hc (h.deliver fun _ _ ht => lotsBalanced_ite (.loaded ht) ht)
  case doneEdge => exact h.act hc (h.deliver fun _ _ ht => lotsBalanced_ite (.jobDone ht) ht)
  case faultEdge => exact h.act hc (h.deliver fun _ _ ht => lotsBalanced_ite (.faultShuttle ht) ht)
  case doorEyeEdge => exact h.act hc (h.deliver fun _ _ ht => lotsBalanced_ite ht.doorEdge ht)
  case sealEdge lane => exact .guarded hc fun hc => h.act hc (h.deliver fun _ _ ht => lotsBalanced_ite ht.sealLane ht)
  case readyEdge lane => exact .guarded hc fun hc => h.act hc (h.deliver fun _ _ ht => ht)
  case commissionKeyEdge => exact h.act hc (h.deliver fun _ _ ht => ht)
  case saveEnd ok =>
    refine h.act hc ?_
    split
    · exact h.endSave ..
    · exact h
  case lineResetPinAssert => exact h.act hc (lotsBalanced_ite h h.assertPin)
  case lineResetPinRelease => exact h.act hc (lotsBalanced_ite (lotsBalanced_lineReset _) h)
  case powerOn seen a b =>
    rw [execPowerOn_next hc]
    exact (lotsBalanced_powerUp s seen (baudOf a b)).finish
  case powerLoss => exact h.act hc (lotsBalanced_powerDown s)

/-- Settles O55: a command keeps every account, and taking it from the queue changes none. -/
theorem lotsStayBalanced : Obligations.LotsStayBalanced := by
  intro s t h hstep
  unfold step at hstep
  split at hstep
  · cases hstep
    exact h
  · next c rest _ =>
    exact LotsBalanced.exec (s := { s with pending := rest }) h hstep

end Sys2Proof.Machine
end

section
/-! ## Sequence numbers (R62) -/

namespace Sys2Proof.Machine

/-- R62: a live parcel of the table holds the number. -/
def SeqHeld (t : Table Parcel) (q : Seq) : Prop := ∃ e ∈ t, e.2.seq = q

theorem any_seq_iff (t : Table Parcel) (q : Seq) : (t.any fun e => decide (e.2.seq = q)) = true ↔ SeqHeld t q := by
  simp [SeqHeld]

theorem seq_add_succ (q : Seq) (j : Nat) : q + BitVec.ofNat 16 (j + 1) = q + 1 + BitVec.ofNat 16 j := by
  rw [Nat.add_comm j 1, BitVec.ofNat_add, ← BitVec.add_assoc]
  rfl

/-- R62: the search passes over held numbers alone, and ends at one no parcel holds, or with its fuel. -/
theorem freeSeq_spec (t : Table Parcel) (n : Nat) (q : Seq) :
    ∃ j, j ≤ n ∧ freeSeq t n q = q + BitVec.ofNat 16 j ∧ (∀ i, i < j → SeqHeld t (q + BitVec.ofNat 16 i)) ∧
      (j < n → ¬SeqHeld t (q + BitVec.ofNat 16 j)) := by
  induction n generalizing q with
  | zero => exact ⟨0, Nat.le_refl 0, (BitVec.add_zero q).symm, nofun, nofun⟩
  | succ n ih =>
    rw [freeSeq]
    split
    · next hheld =>
      obtain ⟨j, hj, hfree, hbefore, hafter⟩ := ih (q + 1)
      rw [← seq_add_succ] at hfree hafter
      refine ⟨j + 1, by omega, hfree, fun i hi => ?_, fun hlt => hafter (by omega)⟩
      cases i with
      | zero => simpa using (any_seq_iff t q).mp hheld
      | succ i =>
        rw [seq_add_succ]
        exact hbefore i (by omega)
    · next hfree =>
      rw [any_seq_iff] at hfree
      exact ⟨0, Nat.zero_le _, (BitVec.add_zero q).symm, nofun, fun _ => by simpa using hfree⟩

/-- A table with `m` numbers in a row held has `m` records. -/
theorem le_length_of_held {t : Table Parcel} {q : Seq} {m : Nat} (hm : m ≤ 65536)
    (h : ∀ i, i < m → SeqHeld t (q + BitVec.ofNat 16 i)) : m ≤ t.length := by
  have hinj : ∀ i ∈ List.range m, ∀ j ∈ List.range m, q + BitVec.ofNat 16 i = q + BitVec.ofNat 16 j → i = j := by
    intro i hi j hj heq
    have hi' := List.mem_range.mp hi
    have hj' := List.mem_range.mp hj
    have hmod : i % 65536 = j % 65536 := by simpa using congrArg BitVec.toNat (add_left_cancel heq)
    omega
  have hnodup : ((List.range m).map fun i => q + BitVec.ofNat 16 i).Nodup := List.Nodup.map_on hinj List.nodup_range
  have hsubset : ((List.range m).map fun i => q + BitVec.ofNat 16 i) ⊆ t.map fun e => e.2.seq := by
    intro x hx
    obtain ⟨i, hi, rfl⟩ := List.mem_map.mp hx
    obtain ⟨e, he, heq⟩ := h i (List.mem_range.mp hi)
    exact List.mem_map.mpr ⟨e, he, heq⟩
  simpa using (hnodup.subperm hsubset).length_le

/-- R62: with a fuel of at least the records of the table, the number found is free. -/
theorem freeSeq_first {t : Table Parcel} {n : Nat} (hn : n < 65536) (ht : t.length ≤ n) (q : Seq) :
    ∃ j, j ≤ n ∧ freeSeq t n q = q + BitVec.ofNat 16 j ∧ ¬SeqHeld t (freeSeq t n q) ∧
      ∀ i, i < j → SeqHeld t (q + BitVec.ofNat 16 i) := by
  obtain ⟨j, hj, hfree, hbefore, hafter⟩ := freeSeq_spec t n q
  refine ⟨j, hj, hfree, fun hheld => ?_, hbefore⟩
  rw [hfree] at hheld
  have hend : ¬j < n := fun hlt => hafter hlt hheld
  have hrun : ∀ i, i < j + 1 → SeqHeld t (q + BitVec.ofNat 16 i) := fun i hi => by
    rcases Nat.lt_succ_iff_lt_or_eq.mp hi with hlt | rfl
    · exact hbefore i hlt
    · exact hheld
  have hlength := le_length_of_held (by omega) hrun
  omega

/-- R61, R62: the number a new parcel takes becomes the last issued. -/
theorem State.createParcel_lastSeq (slot : Nat) (l : Lot) (k stamp : Nat) (s : State) :
    (s.createParcel slot l k stamp).parcel.lastSeq = freeSeq s.parcel.parcels 1024 (s.parcel.lastSeq + 1) := rfl

/-- R61: the new parcel's record. -/
theorem State.createParcel_get? (slot : Nat) (l : Lot) (k stamp : Nat) (s : State) :
    (s.createParcel slot l k stamp).parcel.parcels.get? k =
      some (Parcel.new (freeSeq s.parcel.parcels 1024 (s.parcel.lastSeq + 1)) slot l stamp) := Table.get?_put_self ..

/-- Settles O29: the search stops at a free number, since a table of 1024 records cannot hold 1025 numbers in a row. -/
theorem sequenceNumbersAreFresh : Obligations.SequenceNumbersAreFresh := by
  refine ⟨fun t q ht => ?_, fun s slot l k stamp q hq => ⟨?_, ?_⟩⟩
  · obtain ⟨j, hj, hfree, hnot, hbefore⟩ := freeSeq_first (by decide) ht q
    exact ⟨j, by omega, hfree, fun e he heq => hnot ⟨e, he, heq⟩, hbefore⟩
  · rw [State.createParcel_lastSeq, hq]
  · rw [State.createParcel_get?, hq]
    rfl

end Sys2Proof.Machine
end

section
/-! ## HOLD RANGE and CLEAR HOLD RANGE (R66, R67) -/

namespace Sys2Proof.Machine

theorem exec_holdRange_taken {s : State} {f : Frame} {a b c d : Byte} (h : AtHand s .holdRange f) (hf : f.payload = [a, b, c, d]) :
    exec .holdRange s = .next ((doHoldRange (b ++ a, d ++ c) s).1.replied f (doHoldRange (b ++ a, d ++ c) s).2) :=
  State.act_handOn s .holdRange f parseRange doHoldRange (taken_of_always h fun _ => rfl) _ (by rw [hf]; rfl)

theorem exec_clearHoldRange_taken {s : State} {f : Frame} {a b c d : Byte} (h : AtHand s .clearHoldRange f)
    (hf : f.payload = [a, b, c, d]) : exec .clearHoldRange s =
      .next ((doClearHoldRange (b ++ a, d ++ c) s).1.replied f (doClearHoldRange (b ++ a, d ++ c) s).2) :=
  State.act_handOn s .clearHoldRange f parseRange doClearHoldRange (taken_of_always h fun _ => rfl) _ (by rw [hf]; rfl)

/-- R66: the numbers of a range, through 65,535 where its last is below its first. -/
theorem inRange_iff (first last q : Seq) :
    inRange first last q = true ↔ if first ≤ last then first ≤ q ∧ q ≤ last else first ≤ q ∨ q ≤ last := by
  unfold inRange
  split <;> simp

theorem eq_inRange_of_iff {low high : Seq} {isIn : Parcel → Bool}
    (h : ∀ p, isIn p = true ↔ (if low ≤ high then low ≤ p.seq ∧ p.seq ≤ high else low ≤ p.seq ∨ p.seq ≤ high)) :
    isIn = fun p => inRange low high p.seq :=
  funext fun p => Bool.eq_iff_iff.mpr ((h p).trans (inRange_iff low high p.seq).symm)

/-- R66: the live parcels in a range, counted in the table. -/
theorem State.inRange_length (s : State) (r : Seq × Seq) :
    (s.inRange r).length = (s.parcel.parcels.filter fun e => Machine.inRange r.1 r.2 e.2.seq).length := by
  rw [State.inRange, Table.vals, List.filter_map, List.length_map]
  rfl

/-- R66, R67: those of them that `g` picks out. -/
theorem State.inRange_filter_length (s : State) (r : Seq × Seq) (g : Parcel → Bool) :
    ((s.inRange r).filter g).length =
      (s.parcel.parcels.filter fun e => Machine.inRange r.1 r.2 e.2.seq && g e.2).length := by
  rw [State.inRange, Table.vals, List.filter_map, List.filter_map, List.length_map, List.filter_filter]
  simp only [Function.comp_def, Bool.and_comm]

/-- Settles O31: both are available in every line state; what each marks and counts is read off the table. -/
theorem holdRangesMarkParcels : Obligations.HoldRangesMarkParcels := by
  rintro s f a b c d low high isIn hf rfl rfl hin
  obtain rfl := eq_inRange_of_iff hin
  refine ⟨fun h => ?_, fun h => ?_⟩
  · rw [exec_holdRange_taken h hf, doHoldRange, State.inRange_length, State.inRange_filter_length]
    rfl
  · rw [exec_clearHoldRange_taken h hf, doClearHoldRange, State.inRange_length, State.inRange_filter_length]
    rfl

end Sys2Proof.Machine
end

section
/-! ## INFEED DECLARE (R58) -/

namespace Sys2Proof.Machine

/-- R57, R58: the checks of a code. -/
theorem codeOk_iff (code : List Byte) : codeOk code = true ↔
    (∀ x ∈ code, 0x20 ≤ x ∧ x ≤ 0x7E) ∧ (∃ x ∈ code, x ≠ 0x20) ∧ code ≠ provingCode := by
  simp [codeOk, and_assoc]

/-- R58: no lot of the table holds the code with another recipe or class. -/
theorem ParcelUnit.disagrees_iff (u : ParcelUnit) (code : List Byte) (recipe cls : Nat) :
    u.disagrees code recipe cls = false ↔ ∀ e ∈ u.lots, e.2.code = code → e.2.recipe = recipe ∧ e.2.cls = cls := by
  simp [ParcelUnit.disagrees, Table.vals]

/-- R58: the checks of INFEED DECLARE. -/
def Declarable (s : State) (code : List Byte) (recipe cls : Nat) : Prop :=
  recipe ≤ 15 ∧ cls ≤ 7 ∧ (∀ x ∈ code, 0x20 ≤ x ∧ x ≤ 0x7E) ∧ (∃ x ∈ code, x ≠ 0x20) ∧ code ≠ provingCode ∧
    ∀ e ∈ s.parcel.lots, e.2.code = code → e.2.recipe = recipe ∧ e.2.cls = cls

/-- R58: a declaration is staged where the checks pass, and refused where one fails. -/
theorem doInfeedDeclare_cases (s : State) (code : List Byte) (recipe cls : Nat) :
    (Declarable s code recipe cls → doInfeedDeclare (code, recipe, cls) s =
      (s.onParcel fun u => { u with staged := some ⟨code, recipe, cls, false⟩ }, .status .ok)) ∧
    (¬Declarable s code recipe cls → doInfeedDeclare (code, recipe, cls) s = s.refuse .badValue) := by
  have hchecks : (recipe ≤ 15 ∧ cls ≤ 7 ∧ codeOk code = true ∧ s.parcel.disagrees code recipe cls = false) ↔
      Declarable s code recipe cls := by
    rw [codeOk_iff, ParcelUnit.disagrees_iff, Declarable, and_assoc, and_assoc]
  exact ⟨fun h => if_pos (hchecks.mpr h), fun h => if_neg (mt hchecks.mp h)⟩

theorem parseDeclare_append {code : List Byte} (h : code.length = 12) (r c : Byte) :
    parseDeclare (code ++ [r, c]) = some (code, r.toNat, c.toNat) := by
  rw [parseDeclare, List.drop_left' h, List.take_left' h]

theorem exec_infeedDeclare_taken {s : State} {f : Frame} {code : List Byte} {r c : Byte} (h : AtHand s .infeedDeclare f)
    (hcode : code.length = 12) (hf : f.payload = code ++ [r, c]) (hs : s.line.state ∈ admittedIn .infeedDeclare) :
    exec .infeedDeclare s = .next ((doInfeedDeclare (code, r.toNat, c.toNat) s).1.replied f
      (doInfeedDeclare (code, r.toNat, c.toNat) s).2) :=
  State.act_handOn s .infeedDeclare f parseDeclare doInfeedDeclare (taken_of_mem h hs) _
    (by rw [hf, parseDeclare_append hcode])

/-- R13: INFEED DECLARE is admitted outside SETUP and PROVING. -/
theorem mem_admittedIn_infeedDeclare (l : LineState) : l ∈ admittedIn .infeedDeclare ↔ l ≠ .setup ∧ l ≠ .proving := by
  cases l <;> simp [admittedIn]

/-- Settles O30: the table refuses in SETUP and PROVING; elsewhere the checks decide. -/
theorem infeedDeclareStages : Obligations.InfeedDeclareStages := by
  intro s f code r c h hcode hf
  obtain ⟨hstaged, hrefused⟩ := doInfeedDeclare_cases s code r.toNat c.toNat
  refine ⟨fun hs => ?_, ?_⟩
  · have hout : s.line.state ∉ admittedIn .infeedDeclare := by
      rw [mem_admittedIn_infeedDeclare, not_and_or, not_not, not_not]
      exact hs
    exact exec_unavailable rfl h (by simp [payloadFits, hf, hcode]) hout
  · rintro hsetup hproving ok rfl
    have htaken := exec_infeedDeclare_taken h hcode hf ((mem_admittedIn_infeedDeclare _).mpr ⟨hsetup, hproving⟩)
    refine ⟨fun hok => ?_, fun hbad => ?_⟩
    · rw [htaken, hstaged hok]
      rfl
    · rw [htaken, hrefused hbad]
      rfl

end Sys2Proof.Machine
end

section
/-! ## SAMPLING SET, DEAD TIME SET, JOB LIMIT SET, OFFSET STEP and LEVELS SET (R79, R84, R85, R132, R158, R164) -/

namespace Sys2Proof.Machine

-- One declaration after the other, so that the text needs one thread for them and not one each.
set_option Elab.async false

/-! ### Working settings (R79, R132, R158) -/

theorem parseWord_of_length {bs : List Byte} (h : bs.length = 2) : parseWord bs = some (leNat bs) := by
  obtain ⟨a, b, rfl⟩ := List.length_eq_two.mp h
  rfl

theorem exec_samplingSet_taken {s : State} {f : Frame} (h : AtHand s .samplingSet f) (hf : f.payload.length = 2) :
    exec .samplingSet s = .next ((doSamplingSet (leNat f.payload) s).1.replied f (doSamplingSet (leNat f.payload) s).2) :=
  State.act_handOn s .samplingSet f parseWord doSamplingSet (taken_of_always h fun _ => rfl) _ (parseWord_of_length hf)

theorem exec_deadTimeSet_taken {s : State} {f : Frame} (h : Taken s .deadTimeSet f) (hf : f.payload.length = 2) :
    exec .deadTimeSet s = .next ((doDeadTimeSet (leNat f.payload) s).1.replied f (doDeadTimeSet (leNat f.payload) s).2) :=
  State.act_handOn s .deadTimeSet f parseWord doDeadTimeSet h _ (parseWord_of_length hf)

theorem exec_jobLimitSet_taken {s : State} {f : Frame} (h : AtHand s .jobLimitSet f) (hf : f.payload.length = 2) :
    exec .jobLimitSet s = .next ((doJobLimitSet (leNat f.payload) s).1.replied f (doJobLimitSet (leNat f.payload) s).2) :=
  State.act_handOn s .jobLimitSet f parseWord doJobLimitSet (taken_of_always h fun _ => rfl) _ (parseWord_of_length hf)

/-- Settles O20: each request is taken, and its range decides. -/
theorem workingSettingsAreReplaced : Obligations.WorkingSettingsAreReplaced := by
  refine ⟨fun s f h hf => ?_, fun s f h hf => ?_, fun s f h hf => ?_⟩
  · rw [exec_samplingSet_taken h hf, doSamplingSet]
    split <;> rfl
  · rw [exec_deadTimeSet_taken h hf, doDeadTimeSet]
    split <;> rfl
  · rw [exec_jobLimitSet_taken h hf, doJobLimitSet]
    split <;> rfl

/-! ### An accepted edit answered (R163, R164) -/

/-- R163, R164: an edit of another block's settings leaves the commissioning unit to the edit itself. -/
theorem edited_answered {s u : State} (h : u.comm = s.comm) (f : Frame) (b : ReplyBody) : Edited s (u.edited.replied f b) := by
  unfold Edited
  rw [State.replied_comm, ← h]
  rfl

/-- R183: an edit is answered, whatever notices it has queued. -/
theorem edited_replied {s u : State} {f : Frame} (hold : s.link.oldest = some f) (h : u.link.rest = s.link.rest) (b : ReplyBody) :
    Replied (u.edited.replied f b) f b :=
  State.replied_made_of_rest (u := u.edited) hold h b

/-- R163, R164: the state after an accepted edit of the probe unit has been answered. -/
def State.probeEdited (s : State) (f : Frame) (b : ReplyBody) (g : ProbeUnit → ProbeUnit) : State := (s.onProbe g).edited.replied f b

@[simp] theorem State.probeEdited_probe (s : State) (f : Frame) (b : ReplyBody) (g : ProbeUnit → ProbeUnit) :
    (s.probeEdited f b g).probe = g s.probe := by simp [State.probeEdited]

theorem State.probeEdited_frame (s : State) (f : Frame) (b : ReplyBody) (g : ProbeUnit → ProbeUnit) :
    s.probeEdited f b g = { s with
      probe := (s.probeEdited f b g).probe, comm := (s.probeEdited f b g).comm, link := (s.probeEdited f b g).link
      pins := (s.probeEdited f b g).pins } := by
  apply State.ext_fields <;> simp [State.probeEdited]

theorem State.edited_probeEdited (s : State) (f : Frame) (b : ReplyBody) (g : ProbeUnit → ProbeUnit) : Edited s (s.probeEdited f b g) :=
  edited_answered rfl f b

theorem State.replied_probeEdited {s : State} {f : Frame} (h : s.link.oldest = some f) (b : ReplyBody) (g : ProbeUnit → ProbeUnit) :
    Replied (s.probeEdited f b g) f b :=
  edited_replied (u := s.onProbe g) h rfl b

/-! ### OFFSET STEP (R84) -/

theorem exec_offsetStep_taken {s : State} {f : Frame} {c d : Byte} (h : Taken s .offsetStep f) (hf : f.payload = [c, d]) :
    exec .offsetStep s = .next ((doOffsetStep (c.toNat, d.toInt) s).1.replied f (doOffsetStep (c.toNat, d.toInt) s).2) :=
  State.act_handOn s .offsetStep f parseOffsetStep doOffsetStep h _ (by rw [hf]; rfl)

/-- R84: OFFSET STEP of a channel that is not there, or in no direction. -/
theorem doOffsetStep_refused {s : State} {c : Nat} {d : Int} (h : s.probe.channels.get? c = none ∨ (d ≠ 1 ∧ d ≠ -1)) :
    doOffsetStep (c, d) s = s.refuse .badValue := by
  unfold doOffsetStep
  split
  · rfl
  · next ch hch =>
    obtain ⟨h1, h2⟩ := h.resolve_left (by simp [hch])
    exact if_pos (not_or.mpr ⟨h1, h2⟩)

/-- R84, R164: OFFSET STEP of a channel, in its cases. -/
theorem doOffsetStep_cases {s : State} {c : Nat} {d : Int} {ch : Channel} (hch : s.probe.channels.get? c = some ch)
    (hd : d = 1 ∨ d = -1) :
    (CommissionInFlight s → doOffsetStep (c, d) s = s.refuse .busy) ∧
    (¬CommissionInFlight s → stepOffset ch.offset d = ch.offset → doOffsetStep (c, d) s = (s, .offset ch.offset)) ∧
    (¬CommissionInFlight s → stepOffset ch.offset d ≠ ch.offset → doOffsetStep (c, d) s =
      ((s.onChannel c fun ch' => { ch' with offset := stepOffset ch.offset d }).edited, .offset (stepOffset ch.offset d))) := by
  simp only [doOffsetStep, hch, if_neg (not_not.mpr hd)]
  refine ⟨fun hbusy => if_pos ((commissioning_iff s).mpr hbusy), fun hfree hsame => ?_, fun hfree hmoved => ?_⟩
  · rw [if_neg (commissioning_false hfree), if_pos hsame, hsame]
  · rw [if_neg (commissioning_false hfree), if_neg hmoved]

/-! ### LEVELS SET (R85) -/

theorem exec_levelsSet_taken {s : State} {f : Frame} {c a0 a1 b0 b1 c0 c1 d0 d1 h : Byte} (ht : Taken s .levelsSet f)
    (hf : f.payload = [c, a0, a1, b0, b1, c0, c1, d0, d1, h]) {d : LevelsSet}
    (hd : d = ⟨c.toNat, ⟨leInt [a0, a1], leInt [b0, b1], leInt [c0, c1], leInt [d0, d1]⟩, h.toNat⟩) :
    exec .levelsSet s = .next ((doLevelsSet d s).1.replied f (doLevelsSet d s).2) :=
  State.act_handOn s .levelsSet f parseLevelsSet doLevelsSet ht _ (by rw [hf, hd]; rfl)

theorem LevelsSet.ok_iff (d : LevelsSet) : d.ok = true ↔
    1 ≤ d.channel ∧ d.channel ≤ 16 ∧ -500 ≤ d.levels.lowCrit ∧ d.levels.lowCrit ≤ d.levels.low ∧ d.levels.low < d.levels.high ∧
      d.levels.high ≤ d.levels.highCrit ∧ d.levels.highCrit ≤ 1500 ∧ d.hysteresis ≤ 100 := by
  simp only [LevelsSet.ok, Bool.and_eq_true, decide_eq_true_iff, and_assoc]

/-- R85: a channel with new levels: no level has been judged against them, so its conditions are the external forcing. -/
def Channel.relevel (d : LevelsSet) (forcing : LevelMap Bool) (ch : Channel) : Channel :=
  { ch with levels := d.levels, hysteresis := d.hysteresis, results := .const false, conditions := forcing }

/-- R85, R164: LEVELS SET, in its cases. -/
theorem doLevelsSet_cases (d : LevelsSet) (s : State) :
    (¬d.ok = true → doLevelsSet d s = s.refuse .badValue) ∧
    (d.ok = true → CommissionInFlight s → doLevelsSet d s = s.refuse .busy) ∧
    (d.ok = true → ¬CommissionInFlight s →
      doLevelsSet d s = ((s.onChannel d.channel (Channel.relevel d (s.forcing d.channel))).edited, .status .ok)) := by
  unfold doLevelsSet
  refine ⟨fun hbad => if_pos (by simpa using hbad), fun hok hbusy => ?_, fun hok hfree => ?_⟩
  · rw [if_neg (by simpa using hok), if_pos ((commissioning_iff s).mpr hbusy)]
  · rw [if_neg (by simpa using hok), if_neg (commissioning_false hfree)]
    rfl

/-- Settles O33: the checks of each request in their order, then the edit of one channel record, which is answered. -/
theorem offsetAndLevelsAreSet : Obligations.OffsetAndLevelsAreSet := by
  refine ⟨fun s f c d h hf => ?_, fun s f c a0 a1 b0 b1 c0 c1 d0 d1 hy h hf ok hok => ?_⟩
  · have hexec := exec_offsetStep_taken h hf
    obtain ⟨⟨-, -, hold, -⟩, -⟩ := h
    rw [hexec]
    refine ⟨fun hbad => ?_, fun ch offset hch hd hoffset => ?_⟩
    · rw [doOffsetStep_refused hbad]
      rfl
    · obtain rfl : offset = stepOffset ch.offset d.toInt := hoffset
      obtain ⟨hbusy, hsame, hmoved⟩ := doOffsetStep_cases hch hd
      refine ⟨fun hc => ?_, fun hfree heq => ?_, fun hfree hne => ?_⟩
      · rw [hbusy hc]
        rfl
      · rw [hsame hfree heq]
      · rw [hmoved hfree hne]
        exact ⟨s.probeEdited f _ _, rfl, s.edited_probeEdited f _ _, s.probeEdited_frame f _ _, State.replied_probeEdited hold _ _,
          State.probeEdited_probe ..⟩
  · obtain ⟨d, hd⟩ : ∃ d : LevelsSet,
        d = ⟨c.toNat, ⟨leInt [a0, a1], leInt [b0, b1], leInt [c0, c1], leInt [d0, d1]⟩, hy.toNat⟩ := ⟨_, rfl⟩
    have hexec := exec_levelsSet_taken h hf hd
    obtain ⟨⟨-, -, hold, -⟩, -⟩ := h
    have hok' : ok ↔ d.ok = true := by rw [d.ok_iff, hok, hd]
    obtain ⟨hbad, hbusy, hdone⟩ := doLevelsSet_cases d s
    rw [hexec, hok']
    refine ⟨fun hr => ?_, fun hr hc => ?_, fun hr hfree => ?_⟩
    · rw [hbad hr]
      rfl
    · rw [hbusy hr hc]
      rfl
    · rw [hdone hr hfree]
      refine ⟨s.probeEdited f _ _, rfl, s.edited_probeEdited f _ _, s.probeEdited_frame f _ _, State.replied_probeEdited hold _ _, ?_⟩
      rw [State.probeEdited_probe, hd]
      rfl

end Sys2Proof.Machine
end

section
/-! ## What a trip event does (R89 to R94)

An event sets its latch, offers its notice and marks its zone; with STOP_LINE it then halts a running line. Each part is said
once, block by block. -/

namespace Sys2Proof.Machine

-- One declaration after the other, so that the text needs one thread for them and not one each.
set_option Elab.async false

/-! ### The parcels at the entry to HALTED (R170) -/

@[simp] theorem State.dropCurrent_parcels (s : State) : s.dropCurrent.parcel.parcels = s.parcel.parcels := by
  unfold State.dropCurrent
  dsimp only
  split
  · obtain ⟨hparcels, -⟩ := State.retireTest_parcels (s.onParcel fun u => { u with current := none }) _
    exact hparcels
  · rfl

@[simp] theorem State.abortProving_parcels (s : State) : s.abortProving.parcel.parcels = s.parcel.parcels := by
  have hend : s.endProving.parcel.parcels = s.parcel.parcels := by
    unfold State.endProving
    split
    · simp
    · rfl
  unfold State.abortProving
  split
  · simpa using hend
  · rfl

@[simp] theorem State.enterHalted_parcels (s : State) (cause : HaltCause) :
    (s.enterHalted cause).parcel.parcels = s.parcel.parcels := by
  rw [State.enterHalted_eq]
  split
  · rw [State.abortProving_parcels, State.halting_parcel]
  · rw [State.halting_parcel]

/-! ### The event and its halt -/

/-- R94: the event `x` halts the line. -/
abbrev State.halts (s : State) (x : TripSource) : Prop :=
  (s.route x).stopLine = true ∧ s.line.state.runs = true ∧ s.pin = false

/-- R89, R91: the latch set and the notice offered. -/
def State.announced (s : State) (x : TripSource) (cause : TripCause) (pallet time : Nat) : State :=
  (s.setLatch x true).onLink fun u => u.offerAll s.time.lineTime (s.tripNotices x cause pallet time)

/-- R89, R91, R92: an event up to its halt. -/
def State.tripped (s : State) (x : TripSource) (cause : TripCause) (pallet time : Nat) : State :=
  if (s.route x).markZone then (s.announced x cause pallet time).markZone x else s.announced x cause pallet time

theorem State.announced_eq (s : State) (x : TripSource) (cause : TripCause) (pallet time : Nat) :
    s.announced x cause pallet time = if (s.route x).notify then (s.setLatch x true).notify
      (.trip x cause (s.tripChannel x) pallet (s.route x) time) else s.setLatch x true := by
  unfold State.announced State.tripNotices
  split <;> rfl

/-- R89: an event, and its halt where it halts the line. -/
theorem State.fire_eq (s : State) (x : TripSource) (cause : TripCause) (pallet time : Nat) : s.fire x cause pallet time =
    if s.halts x then (s.tripped x cause pallet time).enterHalted (.trip x) else s.tripped x cause pallet time := by
  have hfire : s.fire x cause pallet time = if (s.route x).stopLine then (s.tripped x cause pallet time).raiseHalt (.trip x)
      else s.tripped x cause pallet time := by
    simp only [State.fire, ← State.announced_eq]
    rfl
  have hline : (s.tripped x cause pallet time).line = s.line := by unfold State.tripped State.announced; split <;> simp
  have hpin : (s.tripped x cause pallet time).pin = s.pin := by unfold State.tripped State.announced; split <;> simp
  rw [hfire, State.raiseHalt, hline, hpin]
  split_ifs <;> simp_all

section Tripped
variable (s : State) (x : TripSource) (cause : TripCause) (pallet time : Nat)

/-- R89, R91, R92: up to its halt an event changes probe unit, parcels and link. -/
theorem State.tripped_frame : s.tripped x cause pallet time =
    { s with
      parcel := (s.tripped x cause pallet time).parcel, probe := (s.setLatch x true).probe
      link := s.link.offerAll s.time.lineTime (s.tripNotices x cause pallet time) } := by
  unfold State.tripped
  split
  · rw [State.markZone_frame]
    rfl
  · rfl

theorem State.tripped_line : (s.tripped x cause pallet time).line = s.line := by rw [State.tripped_frame]
theorem State.tripped_time : (s.tripped x cause pallet time).time = s.time := by rw [State.tripped_frame]
theorem State.tripped_probe : (s.tripped x cause pallet time).probe = (s.setLatch x true).probe := by rw [State.tripped_frame]
theorem State.tripped_link : (s.tripped x cause pallet time).link =
    s.link.offerAll s.time.lineTime (s.tripNotices x cause pallet time) := by rw [State.tripped_frame]

/-- R92: an event with MARK_ZONE marks the parcels of its channel's zones. -/
theorem State.tripped_parcels : (s.tripped x cause pallet time).parcel.parcels =
    if (s.route x).markZone then (s.markZone x).parcel.parcels else s.parcel.parcels := by
  unfold State.tripped
  split
  · unfold State.markZone
    split <;> rfl
  · rfl

/-! ### The event, block by block -/

@[simp] theorem State.fire_probe : (s.fire x cause pallet time).probe = (s.setLatch x true).probe := by
  rw [State.fire_eq]
  split
  · rw [State.enterHalted_probe, State.tripped_probe]
  · exact s.tripped_probe ..

/-- R89: an event changes nothing of the probe unit but its latch. -/
theorem State.fire_reset : (s.fire x cause pallet time).probe.reset = s.probe.reset := by
  rw [State.fire_probe, State.setLatch_reset]

theorem State.fire_parcels : (s.fire x cause pallet time).parcel.parcels =
    if (s.route x).markZone then (s.markZone x).parcel.parcels else s.parcel.parcels := by
  rw [← State.tripped_parcels s x cause pallet time, State.fire_eq]
  split
  · rw [State.enterHalted_parcels]
  · rfl

/-- R94: the line after an event. -/
theorem State.fire_line : (s.fire x cause pallet time).line = if s.halts x then
    { s.line with state := .halted, origin := some s.line.state, cause := some (.trip x) } else s.line := by
  rw [State.fire_eq]
  split
  · rw [State.enterHalted_line, State.tripped_line]
  · exact s.tripped_line ..

/-- R94: without a halt no timer changes. -/
theorem State.fire_time_of_not_halts (h : ¬s.halts x) : (s.fire x cause pallet time).time = s.time := by
  rw [State.fire_eq, if_neg h, State.tripped_time]

/-- R7: of the time base a halt changes the timers alone. -/
theorem State.fire_time : (s.fire x cause pallet time).time =
    { s.time with timers := (s.fire x cause pallet time).time.timers } := by
  rw [State.fire_eq]
  split
  · rw [State.enterHalted_time_frame, State.tripped_time]
  · rw [State.tripped_time]

@[simp] theorem rest_fire : (s.fire x cause pallet time).link.rest = s.link.rest := by
  have htripped : (s.tripped x cause pallet time).link.rest = s.link.rest := by
    rw [State.tripped_link, LinkUnit.rest_offerAll]
  rw [State.fire_eq]
  split
  · rw [rest_enterHalted, htripped]
  · exact htripped

end Tripped

/-! ### The notices of an event (R91, R185) -/

theorem Queued.enterHalted {s : State} {b : NoticeBody} (h : Queued s b) (cause : HaltCause) : Queued (s.enterHalted cause) b := by
  have hhalting : Queued (s.halting cause) b := by
    unfold State.halting
    split
    · exact Queued.setLine (s := s.cancelStalls.cancel .drain) h ..
    · exact Queued.setLine (s := s.cancelStalls) h ..
  rw [State.enterHalted_eq]
  split
  · exact hhalting.abortProving
  · exact hhalting

/-- R91: an event without NOTIFY leaves the link up to its halt. -/
theorem State.tripped_link_silent {s : State} {x : TripSource} (h : ¬(s.route x).notify = true) (cause : TripCause)
    (pallet time : Nat) : (s.tripped x cause pallet time).link = s.link := by
  rw [State.tripped_link, State.tripNotices, if_neg h]
  rfl

/-- R91: an event with NOTIFY offers one notice up to its halt. -/
theorem State.tripped_link_notify {s : State} {x : TripSource} (h : (s.route x).notify = true) (cause : TripCause)
    (pallet time : Nat) : (s.tripped x cause pallet time).link =
      (s.notify (.trip x cause (s.tripChannel x) pallet (s.route x) time)).link := by
  rw [State.tripped_link, State.tripNotices, if_pos h]
  rfl

theorem Queued.tripped {s : State} {b : NoticeBody} (h : Queued s b) (x : TripSource) (cause : TripCause) (pallet time : Nat) :
    Queued (s.tripped x cause pallet time) b := by
  by_cases hn : (s.route x).notify = true
  · exact (queued_congr (congrArg LinkUnit.notices (State.tripped_link_notify hn ..))).mpr (h.notify _)
  · exact (queued_congr (congrArg LinkUnit.notices (State.tripped_link_silent hn ..))).mpr h

/-- R185: an event takes no notice out of the queue. -/
theorem Queued.fire {s : State} {b : NoticeBody} (h : Queued s b) (x : TripSource) (cause : TripCause) (pallet time : Nat) :
    Queued (s.fire x cause pallet time) b := by
  rw [State.fire_eq]
  split
  · exact (h.tripped ..).enterHalted _
  · exact h.tripped ..

/-- R91: with NOTIFY and a free entry TRIP is queued. -/
theorem State.fire_queued {s : State} {x : TripSource} (hn : (s.route x).notify = true) (h : Room s 1) (cause : TripCause)
    (pallet time : Nat) : Queued (s.fire x cause pallet time) (.trip x cause (s.tripChannel x) pallet (s.route x) time) := by
  have htripped : Queued (s.tripped x cause pallet time) (.trip x cause (s.tripChannel x) pallet (s.route x) time) :=
    (queued_congr (congrArg LinkUnit.notices (State.tripped_link_notify hn ..))).mpr (State.notify_queued _ h)
  rw [State.fire_eq]
  split
  · exact htripped.enterHalted _
  · exact htripped

/-! ### The latch of an event (R89) -/

/-- R89: the latch of a source that has a record is set. -/
theorem State.latch_setLatch_of_record {s : State} {x : TripSource}
    (h : ∀ k, x.channel = some k → s.probe.channels.get? k ≠ none) (b : Bool) : (s.setLatch x b).latch x = b := by
  cases x with
  | level c l =>
    obtain ⟨ch, hch⟩ := Option.ne_none_iff_exists'.mp (h c rfl)
    simp [State.latch, State.setLatch, hch, LevelMap.look_put]
  | stale c =>
    obtain ⟨ch, hch⟩ := Option.ne_none_iff_exists'.mp (h c rfl)
    simp [State.latch, State.setLatch, hch]
  | exposure => rfl
  | shuttleFault => rfl

/-! ### The 82 sources (R89) -/

theorem mem_all_of_channel {c : Nat} (h1 : 1 ≤ c) (h16 : c ≤ 16) {x : TripSource} (h : x.channel = some c) : x ∈ TripSource.all :=
  List.mem_append_left _ (List.mem_flatMap.mpr ⟨c, mem_channelNumbers h1 h16, (mem_ofChannel_iff c x).mpr h⟩)

/-- R93: what it is for the infeed hold to be in force. -/
theorem infeedHold_iff (s : State) :
    s.infeedHold = true ↔ ∃ x ∈ TripSource.all, s.latch x = true ∧ (s.route x).holdInfeed = true := by
  simp [State.infeedHold]

/-- R92: what it is to stand at a position of a zone bound to a channel. -/
theorem inZoneOf_iff (u : TrackUnit) (c : Nat) (p : Parcel) : u.inZoneOf c p = true ↔
    ∃ n pos z, p.loc = .track n pos ∧ u.zoneAt n pos = some z ∧ z.channel = some c := by
  unfold TrackUnit.inZoneOf
  cases hloc : p.loc with
  | queue n i => simp
  | track n pos =>
    cases hz : u.zoneAt n pos with
    | none => simp [hz]
    | some z => simp [hz]

/-- Settles O37: the parts of an event, block by block. -/
theorem eventsPerformTheirRoute : Obligations.EventsPerformTheirRoute := by
  refine ⟨⟨by decide, by decide, by decide, by decide, fun c l h1 h16 =>
    ⟨mem_all_of_channel h1 h16 rfl, mem_all_of_channel h1 h16 rfl⟩⟩, infeedHold_iff, inZoneOf_iff, ?_⟩
  rintro s t x cause pallet time rfl hrec
  have hlatch := State.latch_congr (s.fire_probe x cause pallet time)
  have hreset := s.fire_reset x cause pallet time
  have htransfer := s.fire_transfer x cause pallet time
  refine ⟨?_, fun y hy => ?_, fun y => ?_, fun y => ?_, s.fire_dist .., htransfer, s.fire_track .., fun hn hroom => ?_,
    fun c hc hm => ?_, fun hno => ?_, fun hstop hrun hpin => ?_, fun hno => ?_⟩
  · rw [hlatch]
    exact State.latch_setLatch_of_record hrec true
  · rw [hlatch]
    exact State.latch_setLatch_ne s true hy
  · rw [State.route_of_reset hreset]
  · rw [State.condition_of_reset hreset htransfer]
  · exact State.fire_queued hn hroom ..
  · rw [State.fire_parcels, if_pos hm, State.markZone, hc]
    rfl
  · rw [State.fire_parcels]
    rcases hno with hm | hc
    · rw [if_neg (by simp [hm])]
    · rw [State.markZone, hc, ite_self]
  · rw [State.fire_line, if_pos ⟨hstop, hrun, hpin⟩]
  · have hstays : ¬s.halts x := by
      rintro ⟨hstop, hrun, hpin⟩
      simp [hstop, hrun, hpin] at hno
    rw [State.fire_line, if_neg hstays, State.fire_time_of_not_halts s x _ _ _ hstays]
    exact ⟨rfl, rfl⟩

end Sys2Proof.Machine
end

section
/-! ## The conditions of a channel formed again, on any line (R87, R88, R92, R185)

Power-on forms them on a line at rest without parcels (`State.reform_quiet`); here the line may run and carry parcels. -/

namespace Sys2Proof.Machine

-- One declaration after the other, so that the text needs one thread for them and not one each.
set_option Elab.async false

/-! ### Changes of one record -/

theorem Table.modify_id {α : Type} (t : Table α) (k : Nat) : t.modify k (fun v => v) = t := by
  simp only [Table.modify, ite_self]
  exact t.mapVals_id

theorem Table.modify_modify {α : Type} (t : Table α) (k : Nat) (f g : α → α) :
    (t.modify k f).modify k g = t.modify k fun v => g (f v) := by
  rw [Table.modify, Table.modify, Table.mapVals_mapVals]
  refine Table.mapVals_congr fun e _ => ?_
  by_cases h : e.1 = k <;> simp [h]

/-! ### Trip sources read the channel records -/

theorem State.get?_onChannel (s : State) (c : Nat) (f : Channel → Channel) (k : Nat) : (s.onChannel c f).probe.channels.get? k =
    if k = c then (s.probe.channels.get? k).map f else s.probe.channels.get? k := Table.get?_modify ..

/-- R89: a latch is read off the latches of the channel records. -/
theorem State.latch_onChannel (s : State) (c : Nat) {f : Channel → Channel}
    (h : ∀ ch, (f ch).latches = ch.latches ∧ (f ch).staleLatch = ch.staleLatch) : (s.onChannel c f).latch = s.latch := by
  funext x
  cases x with
  | level k l =>
    rw [State.latch, State.latch, State.get?_onChannel]
    by_cases hk : k = c <;> cases s.probe.channels.get? k <;> simp [hk, h]
  | stale k =>
    rw [State.latch, State.latch, State.get?_onChannel]
    by_cases hk : k = c <;> cases s.probe.channels.get? k <;> simp [hk, h]
  | exposure => rfl
  | shuttleFault => rfl

/-- R90: a route is read off the routes of the channel records. -/
theorem State.route_onChannel (s : State) (c : Nat) {f : Channel → Channel}
    (h : ∀ ch, (f ch).routes = ch.routes ∧ (f ch).staleRoute = ch.staleRoute) : (s.onChannel c f).route = s.route := by
  funext x
  cases x with
  | level k l =>
    rw [State.route, State.route, State.get?_onChannel]
    by_cases hk : k = c <;> cases s.probe.channels.get? k <;> simp [hk, h]
  | stale k =>
    rw [State.route, State.route, State.get?_onChannel]
    by_cases hk : k = c <;> cases s.probe.channels.get? k <;> simp [hk, h]
  | exposure => rfl
  | shuttleFault => rfl

/-- R87, R89: a condition is read off the conditions and states of the channel records. -/
theorem State.condition_onChannel (s : State) (c : Nat) {f : Channel → Channel}
    (h : ∀ ch, (f ch).conditions = ch.conditions ∧ (f ch).state = ch.state) : (s.onChannel c f).condition = s.condition := by
  funext x
  cases x with
  | level k l =>
    rw [State.condition, State.condition, State.get?_onChannel]
    by_cases hk : k = c <;> cases s.probe.channels.get? k <;> simp [hk, h]
  | stale k =>
    rw [State.condition, State.condition, State.get?_onChannel]
    by_cases hk : k = c <;> cases s.probe.channels.get? k <;> simp [hk, h]
  | exposure => rfl
  | shuttleFault => rfl

/-! ### Channel records and latches (R87, R89) -/

theorem State.fireLevel_probe (c : Nat) (cause : TripCause) (time : Nat) (now before : LevelMap Bool) (l : LevelName) (s : State) :
    (s.fireLevel c cause time now before l).probe =
      { s.probe with channels := s.probe.channels.modify c (Channel.raise now before [l]) } := by
  have hraise : Channel.raise now before [l] = fun ch =>
      { ch with latches := if now.look l && !before.look l then ch.latches.put true l else ch.latches } := rfl
  rw [hraise, State.fireLevel]
  cases now.look l && !before.look l with
  | true =>
    rw [if_pos rfl, State.fire_probe]
    rfl
  | false => exact congrArg (fun cs => { s.probe with channels := cs }) (Table.modify_id ..).symm

theorem fireLevels_probe (c : Nat) (cause : TripCause) (time : Nat) (now before : LevelMap Bool) (ls : List LevelName) (s : State) :
    (State.each (State.fireLevel c cause time now before) ls s).probe =
      { s.probe with channels := s.probe.channels.modify c (Channel.raise now before ls) } := by
  induction ls generalizing s with
  | nil =>
    have hraise : Channel.raise now before [] = fun ch => ch := rfl
    rw [hraise, Table.modify_id]
    rfl
  | cons l ls ih =>
    rw [State.each, ih, State.fireLevel_probe, Table.modify_modify]
    rfl

/-- R87, R89: a channel with its conditions replaced, and a latch set for each that begins to hold. -/
def Channel.reformed (now before : LevelMap Bool) (ch : Channel) : Channel :=
  Channel.raise now before LevelName.all { ch with conditions := now }

/-- R87, R89: forming the conditions of a channel again changes its record, and nothing else of the probe unit. -/
theorem State.reform_probe {s : State} {c : Nat} {ch : Channel} (h : s.probe.channels.get? c = some ch) (cause : TripCause)
    (time : Nat) : (s.reform c cause time).probe =
      { s.probe with channels := s.probe.channels.modify c (Channel.reformed (s.formed c ch) ch.conditions) } := by
  rw [State.reform_some h, fireLevels_probe, State.form, State.onProbe_probe]
  simp only [Table.modify_modify]
  rfl

theorem State.reform_probe_frame (s : State) (c : Nat) (cause : TripCause) (time : Nat) : (s.reform c cause time).probe =
    { s.probe with channels := (s.reform c cause time).probe.channels } := by
  cases hc : s.probe.channels.get? c with
  | none => rw [State.reform_none hc]
  | some ch => rw [State.reform_probe hc]

theorem State.reform_self {s : State} {c : Nat} {ch : Channel} (h : s.probe.channels.get? c = some ch) (cause : TripCause)
    (time : Nat) : (s.reform c cause time).probe.channels.get? c = some (ch.reformed (s.formed c ch) ch.conditions) := by
  rw [State.reform_probe h, Table.get?_modify_self, h]
  rfl

theorem State.reform_ne (s : State) {c k : Nat} (hk : k ≠ c) (cause : TripCause) (time : Nat) :
    (s.reform c cause time).probe.channels.get? k = s.probe.channels.get? k := by
  cases hc : s.probe.channels.get? c with
  | none => rw [State.reform_none hc]
  | some ch => rw [State.reform_probe hc, Table.get?_modify_ne _ _ hk]

theorem State.forced_congr {s t : State} (h : t.probe.external = s.probe.external) : t.forced = s.forced := by
  funext c l
  rw [State.forced, State.forced, h]

theorem State.reform_external (s : State) (c : Nat) (cause : TripCause) (time : Nat) :
    (s.reform c cause time).probe.external = s.probe.external := by rw [State.reform_probe_frame]

/-- R87: a condition is its sample result or its external forcing. -/
theorem State.look_formed (s : State) (c : Nat) (ch : Channel) (m : LevelName) :
    (s.formed c ch).look m = (ch.results.look m || s.forced c m) := by cases m <;> rfl

/-- R89: a latch is set once its condition has begun to hold. -/
theorem Channel.look_reformed (now before : LevelMap Bool) (ch : Channel) (m : LevelName) :
    (ch.reformed now before).latches.look m = (ch.latches.look m || (now.look m && !before.look m)) := by
  have hall : m ∈ LevelName.all := by cases m <;> decide
  have hlook : (ch.reformed now before).latches.look m =
      (ch.latches.look m || (decide (m ∈ LevelName.all) && now.look m && !before.look m)) := LevelMap.look_raised ..
  rw [hlook, decide_eq_true hall, Bool.true_and]

/-! ### Time base and link -/

theorem State.reform_time (s : State) (c : Nat) (cause : TripCause) (time : Nat) : (s.reform c cause time).time =
    { s.time with timers := (s.reform c cause time).time.timers } := by
  unfold State.reform
  split
  · refine State.each_induct (fun t => t.time = { s.time with timers := t.time.timers }) _ _ _ rfl fun l _ t ht => ?_
    split
    · rw [State.fire_time, ht]
    · exact ht
  · rfl

@[simp] theorem rest_reform (s : State) (c : Nat) (cause : TripCause) (time : Nat) :
    (s.reform c cause time).link.rest = s.link.rest := by
  unfold State.reform
  split
  · refine State.each_induct (fun t => t.link.rest = s.link.rest) _ _ _ rfl fun l _ t ht => ?_
    split
    · rw [rest_fire, ht]
    · exact ht
  · rfl

@[simp] theorem rest_reformBound (s : State) (time : Nat) (b : Option (Nat × LevelName)) :
    (s.reformBound time b).link.rest = s.link.rest := by
  unfold State.reformBound
  split
  · exact rest_reform ..
  · rfl

theorem Queued.fireLevel {s : State} {b : NoticeBody} (h : Queued s b) (c : Nat) (cause : TripCause) (time : Nat)
    (now before : LevelMap Bool) (l : LevelName) : Queued (s.fireLevel c cause time now before l) b := by
  unfold State.fireLevel
  split
  · exact h.fire ..
  · exact h

theorem Queued.fireLevels {s : State} {b : NoticeBody} (h : Queued s b) (c : Nat) (cause : TripCause) (time : Nat)
    (now before : LevelMap Bool) (ls : List LevelName) : Queued (State.each (State.fireLevel c cause time now before) ls s) b :=
  State.each_induct (fun t => Queued t b) _ _ _ h fun l _ _ ht => ht.fireLevel c cause time now before l

theorem Queued.reform {s : State} {b : NoticeBody} (h : Queued s b) (c : Nat) (cause : TripCause) (time : Nat) :
    Queued (s.reform c cause time) b := by
  cases hc : s.probe.channels.get? c with
  | none => rwa [State.reform_none hc]
  | some ch =>
    rw [State.reform_some hc]
    exact Queued.fireLevels (s := s.form c _) h ..

/-! ### Parcels marked (R92) -/

/-- R92: a parcel with TRIP added where `b` says so. -/
def Parcel.tripIf (b : Bool) (p : Parcel) : Parcel := if b then p.addTrip else p

theorem Parcel.tripIf_tripIf (a b : Bool) (p : Parcel) : (p.tripIf a).tripIf b = p.tripIf (a || b) := by
  cases a <;> cases b <;> rfl

@[simp] theorem Parcel.loc_tripIf (b : Bool) (p : Parcel) : (p.tripIf b).loc = p.loc := by cases b <;> rfl

@[simp] theorem inZoneOf_tripIf (u : TrackUnit) (c : Nat) (b : Bool) (p : Parcel) : u.inZoneOf c (p.tripIf b) = u.inZoneOf c p := by
  rw [TrackUnit.inZoneOf, TrackUnit.inZoneOf, Parcel.loc_tripIf]

/-- Adding TRIP changes no more than that. -/
theorem Parcel.tripIf_frame (b : Bool) (p : Parcel) :
    p.tripIf b = { p with deviation := { p.deviation with trip := (p.tripIf b).deviation.trip } } := by cases b <;> rfl

theorem Parcel.trip_tripIf (b : Bool) (p : Parcel) : (p.tripIf b).deviation.trip = true ↔ p.deviation.trip = true ∨ b = true := by
  cases b <;> simp [Parcel.tripIf, Parcel.addTrip]

/-- R92: the parcels after an event of a channel's source. -/
theorem State.fire_channel_parcels (s : State) {x : TripSource} {c : Nat} (h : x.channel = some c) (cause : TripCause)
    (pallet time : Nat) : (s.fire x cause pallet time).parcel.parcels =
      s.parcel.parcels.mapVals fun _ p => p.tripIf ((s.route x).markZone && s.track.inZoneOf c p) := by
  rw [State.fire_parcels]
  cases (s.route x).markZone with
  | true =>
    rw [if_pos rfl, State.markZone, h]
    rfl
  | false =>
    rw [if_neg (by simp)]
    exact (Table.mapVals_id _).symm

/-- R89, R92: some level that begins to hold is routed to MARK_ZONE. -/
def State.marking (s : State) (c : Nat) (now before : LevelMap Bool) (ls : List LevelName) : Bool :=
  ls.any fun l => now.look l && !before.look l && (s.route (.level c l)).markZone

theorem State.fireLevel_parcels (c : Nat) (cause : TripCause) (time : Nat) (now before : LevelMap Bool) (l : LevelName)
    (s : State) : (s.fireLevel c cause time now before l).parcel.parcels =
      s.parcel.parcels.mapVals fun _ p => p.tripIf (s.track.inZoneOf c p && s.marking c now before [l]) := by
  unfold State.fireLevel
  cases hb : now.look l && !before.look l with
  | true =>
    rw [if_pos rfl, State.fire_channel_parcels s rfl]
    refine Table.mapVals_congr fun e _ => congrArg (Parcel.tripIf · e.2) ?_
    simp [State.marking, hb, Bool.and_comm]
  | false =>
    have hnone : s.marking c now before [l] = false := by simp [State.marking, hb]
    rw [if_neg (by simp), hnone]
    simp only [Bool.and_false]
    exact (Table.mapVals_id _).symm

theorem State.fireLevel_track (c : Nat) (cause : TripCause) (time : Nat) (now before : LevelMap Bool) (l : LevelName) (s : State) :
    (s.fireLevel c cause time now before l).track = s.track := by
  unfold State.fireLevel
  split
  · exact s.fire_track ..
  · rfl

/-- R89: setting latches is all an event does to the probe unit. -/
theorem State.fireLevel_reset (c : Nat) (cause : TripCause) (time : Nat) (now before : LevelMap Bool) (l : LevelName) (s : State) :
    (s.fireLevel c cause time now before l).probe.reset = s.probe.reset := by
  unfold State.fireLevel
  split
  · exact s.fire_reset ..
  · rfl

theorem fireLevels_parcels (c : Nat) (cause : TripCause) (time : Nat) (now before : LevelMap Bool) (ls : List LevelName) (s : State) :
    (State.each (State.fireLevel c cause time now before) ls s).parcel.parcels =
      s.parcel.parcels.mapVals fun _ p => p.tripIf (s.track.inZoneOf c p && s.marking c now before ls) := by
  induction ls generalizing s with
  | nil =>
    simp only [State.marking, List.any_nil, Bool.and_false]
    exact (Table.mapVals_id _).symm
  | cons l ls ih =>
    have hmarking : ∀ k, (s.fireLevel c cause time now before l).marking c now before k = s.marking c now before k := fun k => by
      rw [State.marking, State.marking, State.route_of_reset (State.fireLevel_reset ..)]
    rw [State.each, ih, State.fireLevel_parcels, Table.mapVals_mapVals, State.fireLevel_track, hmarking]
    refine Table.mapVals_congr fun e _ => ?_
    rw [inZoneOf_tripIf, Parcel.tripIf_tripIf, ← Bool.and_or_distrib_left]
    simp [State.marking]

theorem State.route_form (s : State) (c : Nat) (now : LevelMap Bool) : (s.form c now).route = s.route :=
  State.route_onChannel s c fun _ => ⟨rfl, rfl⟩

theorem State.marking_iff (s : State) (c : Nat) (now before : LevelMap Bool) : s.marking c now before LevelName.all = true ↔
    ∃ l, now.look l = true ∧ before.look l = false ∧ (s.route (.level c l)).markZone = true := by
  have hall : ∀ l, l ∈ LevelName.all := fun l => by cases l <;> decide
  simp [State.marking, hall, and_assoc]

/-- R87, R92: what forming the conditions of a channel again makes of the parcels. -/
theorem State.levelMarks_reform {s : State} {c : Nat} {ch : Channel} (h : s.probe.channels.get? c = some ch) (cause : TripCause)
    (time : Nat) : LevelMarks s (s.reform c cause time) c ch.conditions (s.formed c ch) := by
  have hparcels : ∀ k, (s.reform c cause time).parcel.parcels.get? k = (s.parcel.parcels.get? k).map fun p =>
      p.tripIf (s.track.inZoneOf c p && s.marking c (s.formed c ch) ch.conditions LevelName.all) := fun k => by
    rw [State.reform_some h, fireLevels_parcels, Table.get?_mapVals, State.marking, State.route_form]
    rfl
  refine ⟨fun k hk => by rw [hparcels, hk]; rfl, fun k p hk => ⟨_, by rw [hparcels, hk]; rfl, p.tripIf_frame _, ?_⟩⟩
  rw [Parcel.trip_tripIf, Bool.and_eq_true, State.marking_iff]

/-- The marks count from any state with the same parcels, zones and routes. -/
theorem LevelMarks.since {s s' u : State} {c : Nat} {before now : LevelMap Bool} (h : LevelMarks s' u c before now)
    (hp : s'.parcel = s.parcel) (ht : s'.track = s.track) (hr : s'.route = s.route) : LevelMarks s u c before now := by
  unfold LevelMarks at h ⊢
  rwa [hp, ht, hr] at h

/-! ### Room for the notices of a channel's events (R91, R185) -/

/-- R8, R170, R185: the entries a halt of this line may take: LINE STATE, LOT SUMMARY, PROVING RESULT. -/
def State.haltRoom (s : State) : Nat := if s.line.state.runs then 3 else 0

theorem State.haltRoom_le (s : State) : s.haltRoom ≤ 3 := by unfold State.haltRoom; split <;> omega

theorem Room.enterHalted {s : State} {k : Nat} (h : Room s (k + 3)) (cause : HaltCause) : Room (s.enterHalted cause) k := by
  have hhalting : Room (s.halting cause) (k + 2) := Room.halting h cause
  have hend : Room (s.halting cause).endProving (k + 1) := by
    unfold State.endProving
    split
    · exact Room.dropCurrent (s := (s.halting cause).onComm _) hhalting
    · exact hhalting.mono (by omega)
  rw [State.enterHalted_eq]
  split
  · unfold State.abortProving
    split
    · exact hend.notify _
    · exact hhalting.mono (by omega)
  · exact hhalting.mono (by omega)

theorem Room.tripped {s : State} {k : Nat} (h : Room s (k + 1)) (x : TripSource) (cause : TripCause) (pallet time : Nat) :
    Room (s.tripped x cause pallet time) k := by
  by_cases hn : (s.route x).notify = true
  · exact (room_congr (State.tripped_link_notify hn ..)).mpr (h.notify _)
  · exact (room_congr (State.tripped_link_silent hn ..)).mpr (h.mono (by omega))

/-- R185: an event takes one entry, and those of its halt; a line that has halted does not halt again. -/
theorem Room.fire {s : State} {k : Nat} (h : Room s (k + 1 + s.haltRoom)) (x : TripSource) (cause : TripCause) (pallet time : Nat) :
    Room (s.fire x cause pallet time) (k + (s.fire x cause pallet time).haltRoom) := by
  by_cases hh : s.halts x
  · have hrest : (s.fire x cause pallet time).haltRoom = 0 := by
      rw [State.haltRoom, State.fire_line, if_pos hh]
      rfl
    have hruns : s.haltRoom = 3 := if_pos hh.2.1
    rw [hruns] at h
    rw [hrest, State.fire_eq, if_pos hh]
    exact Room.enterHalted (Room.tripped (h.mono (by omega)) ..) _
  · have hsame : (s.fire x cause pallet time).haltRoom = s.haltRoom := by rw [State.haltRoom, State.fire_line, if_neg hh]; rfl
    rw [hsame, State.fire_eq, if_neg hh]
    exact Room.tripped (h.mono (by omega)) ..

/-- R91: what TRIP says of the channel is read off its record without the latches. -/
theorem State.tripChannel_of_reset {s t : State} (h : t.probe.reset = s.probe.reset) : t.tripChannel = s.tripChannel := by
  have hread : ∀ c, (t.probe.channels.get? c).map Channel.unlatch = (s.probe.channels.get? c).map Channel.unlatch :=
    ProbeUnit.unlatch_of_reset h
  funext x
  cases x with
  | level c l =>
    exact (Option.map_map ..).symm.trans ((congrArg (Option.map fun ch : Channel =>
      (⟨ch.lastValue, ch.overRange, ch.state, none⟩ : TripChannel)) (hread c)).trans (Option.map_map ..))
  | stale c =>
    exact (Option.map_map ..).symm.trans ((congrArg (Option.map fun ch : Channel =>
      (⟨ch.lastValue, ch.overRange, ch.state, ch.lastMiss⟩ : TripChannel)) (hread c)).trans (Option.map_map ..))
  | exposure => rfl
  | shuttleFault => rfl

theorem Room.fireLevel {s : State} {k : Nat} (h : Room s (k + 1 + s.haltRoom)) (c : Nat) (cause : TripCause) (time : Nat)
    (now before : LevelMap Bool) (l : LevelName) : Room (s.fireLevel c cause time now before l)
      (k + (s.fireLevel c cause time now before l).haltRoom) := by
  unfold State.fireLevel
  split
  · exact h.fire ..
  · exact h.mono (by omega)

/-- R91: with room for every notice of the channel's events and for a halt, TRIP is queued for a level that begins to hold. -/
theorem fireLevels_queued (c : Nat) (cause : TripCause) (time : Nat) {now before : LevelMap Bool} {l : LevelName}
    (hnow : now.look l = true) (hbefore : before.look l = false) {ls : List LevelName} (hl : l ∈ ls) {s : State}
    (hn : (s.route (.level c l)).notify = true) (hroom : Room s (ls.length + s.haltRoom)) :
    Queued (State.each (State.fireLevel c cause time now before) ls s)
      (.trip (.level c l) cause (s.tripChannel (.level c l)) 0 (s.route (.level c l)) time) := by
  induction ls generalizing s with
  | nil => nomatch hl
  | cons m ls ih =>
    rw [State.each]
    by_cases hm : l = m
    · subst hm
      have hfire : s.fireLevel c cause time now before l = s.fire (.level c l) cause 0 time := if_pos (by simp [hnow, hbefore])
      rw [hfire]
      exact Queued.fireLevels (State.fire_queued hn (hroom.mono (by simp only [List.length_cons]; omega)) ..) ..
    · have hreset := State.fireLevel_reset c cause time now before m s
      have hmem : l ∈ ls := (List.mem_cons.mp hl).resolve_left hm
      rw [← State.tripChannel_of_reset hreset, ← State.route_of_reset hreset]
      rw [← State.route_of_reset hreset] at hn
      exact ih hmem hn (Room.fireLevel hroom ..)

end Sys2Proof.Machine
end

section
/-! ## CHANNEL SET (R81, R112, R163, R164) -/

namespace Sys2Proof.Machine

-- One declaration after the other, so that the text needs one thread for them and not one each.
set_option Elab.async false

/-! ### Bytes that number a choice (R189) -/

theorem byte_eq_one_iff (b : Byte) : b = 1 ↔ b.toNat = 1 := BitVec.toNat_inj.symm
theorem byte_eq_zero_iff (b : Byte) : b = 0 ↔ b.toNat = 0 := BitVec.toNat_inj.symm

theorem yesNo_of_le {n : Nat} (h : n ≤ 1) : yesNo n = some (decide (n = 1)) := by interval_cases n <;> rfl

theorem yesNo_of_gt {n : Nat} (h : 1 < n) : yesNo n = none := by
  rw [yesNo, if_neg (by omega), if_neg (by omega)]

theorem Role.ofNat?_of_le {n : Nat} (h : n ≤ 1) : Role.ofNat? n = some (if n = 1 then .exit else .zone) := by
  interval_cases n <;> rfl

theorem Role.ofNat?_of_gt {n : Nat} (h : 1 < n) : Role.ofNat? n = none := by
  rw [Role.ofNat?, if_neg (by omega), if_neg (by omega)]

theorem role_eq_exit_iff (r : Nat) : (if r = 1 then Role.exit else .zone) = .exit ↔ r = 1 := by split <;> simp_all

/-! ### The checks (R81) -/

theorem exec_channelSet_taken {s : State} {f : Frame} {c a e r : Byte} (h : Taken s .channelSet f) (hf : f.payload = [c, a, e, r]) :
    exec .channelSet s = .next ((doChannelSet (c.toNat, a.toNat, e.toNat, r.toNat) s).1.replied f
      (doChannelSet (c.toNat, a.toNat, e.toNat, r.toNat) s).2) :=
  State.act_handOn s .channelSet f parseChannelSet doChannelSet h _ (by rw [hf]; rfl)

/-- R81: another channel is the EXIT channel, or another enabled one has the address. -/
theorem ProbeUnit.admits_iff (u : ProbeUnit) (c address : Nat) (enabled : Bool) (role : Role) :
    u.admits c address enabled role = true ↔
      ¬(role = .exit ∧ ∃ x ∈ u.channels, x.1 ≠ c ∧ x.2.role = .exit) ∧
        ¬(enabled = true ∧ ∃ x ∈ u.channels, x.1 ≠ c ∧ x.2.enabled = true ∧ x.2.address = address) := by
  rw [ProbeUnit.admits, Bool.and_eq_true, Bool.not_eq_true', Bool.not_eq_true', ← Bool.not_eq_true, ← Bool.not_eq_true]
  simp only [Bool.and_eq_true, decide_eq_true_iff, List.any_eq_true, and_assoc]

/-- R81: the fields of CHANNEL SET that it refuses. -/
abbrev ProbeUnit.Forbids (u : ProbeUnit) (c a e r : Nat) : Prop :=
  c < 1 ∨ 16 < c ∨ a < 1 ∨ 16 < a ∨ 1 < e ∨ 1 < r ∨ (r = 1 ∧ ∃ x ∈ u.channels, x.1 ≠ c ∧ x.2.role = .exit) ∨
    (e = 1 ∧ ∃ x ∈ u.channels, x.1 ≠ c ∧ x.2.enabled = true ∧ x.2.address = a)

/-- R81: with the two choice bytes in range the checks are those of ranges and of the other channels. -/
theorem ProbeUnit.forbids_iff {u : ProbeUnit} {c a e r : Nat} (he : e ≤ 1) (hr : r ≤ 1) : u.Forbids c a e r ↔
    ¬(1 ≤ c ∧ c ≤ 16 ∧ 1 ≤ a ∧ a ≤ 16) ∨ ¬u.admits c a (decide (e = 1)) (if r = 1 then .exit else .zone) = true := by
  have he' : ¬1 < e := Nat.not_lt.mpr he
  have hr' : ¬1 < r := Nat.not_lt.mpr hr
  have hrange : ¬(1 ≤ c ∧ c ≤ 16 ∧ 1 ≤ a ∧ a ≤ 16) ↔ c < 1 ∨ 16 < c ∨ a < 1 ∨ 16 < a := by omega
  rw [ProbeUnit.admits_iff, role_eq_exit_iff, decide_eq_true_iff, hrange, not_and_or, not_not, not_not]
  simp only [ProbeUnit.Forbids, he', hr', false_or, or_assoc]

/-- R81, R164: CHANNEL SET, in its cases. -/
theorem doChannelSet_cases (s : State) (c a e r : Nat) :
    (s.probe.Forbids c a e r → doChannelSet (c, a, e, r) s = s.refuse .badValue) ∧
    (¬s.probe.Forbids c a e r → CommissionInFlight s → doChannelSet (c, a, e, r) s = s.refuse .busy) ∧
    (¬s.probe.Forbids c a e r → ¬CommissionInFlight s → doChannelSet (c, a, e, r) s =
      ((s.setChannel c a (decide (e = 1)) (if r = 1 then .exit else .zone)).edited, .status .ok)) := by
  by_cases he : e ≤ 1
  · by_cases hr : r ≤ 1
    · simp only [doChannelSet, yesNo_of_le he, Role.ofNat?_of_le hr, ProbeUnit.forbids_iff he hr, not_or, not_not]
      refine ⟨fun hbad => ?_, fun ⟨hrange, hadmits⟩ hbusy => ?_, fun ⟨hrange, hadmits⟩ hfree => ?_⟩
      · by_cases hrange : 1 ≤ c ∧ c ≤ 16 ∧ 1 ≤ a ∧ a ≤ 16
        · rw [if_neg (not_not.mpr hrange), if_pos (by simpa [hrange] using hbad)]
        · exact if_pos hrange
      · rw [if_neg (not_not.mpr hrange), if_neg (by simp [hadmits]), if_pos ((commissioning_iff s).mpr hbusy)]
      · rw [if_neg (not_not.mpr hrange), if_neg (by simp [hadmits]), if_neg (commissioning_false hfree)]
    · have hbad : s.probe.Forbids c a e r := by simp only [ProbeUnit.Forbids, not_le.mp hr, true_or, or_true]
      refine ⟨fun _ => ?_, fun h => absurd hbad h, fun h => absurd hbad h⟩
      simp only [doChannelSet, Role.ofNat?_of_gt (not_le.mp hr)]
      cases yesNo e <;> rfl
  · have hbad : s.probe.Forbids c a e r := by simp only [ProbeUnit.Forbids, not_le.mp he, true_or, or_true]
    refine ⟨fun _ => ?_, fun h => absurd hbad h, fun h => absurd hbad h⟩
    simp only [doChannelSet, yesNo_of_gt (not_le.mp he)]

/-! ### The edit (R81, R112) -/

/-- R81: the three fields CHANNEL SET writes. -/
def Channel.set (address : Nat) (enabled : Bool) (role : Role) (ch : Channel) : Channel :=
  { ch with address := address, enabled := enabled, role := role }

/-- R81: a channel starts afresh when its enable or its address has changed. -/
theorem State.setChannel_eq {s : State} {c : Nat} {ch : Channel} (h : s.probe.channels.get? c = some ch) (address : Nat)
    (enabled : Bool) (role : Role) : s.setChannel c address enabled role =
      if ch.enabled = enabled ∧ ch.address = address then s.onChannel c (Channel.set address enabled role)
      else (s.onChannel c (Channel.set address enabled role)).restartChannel c enabled := by
  simp only [State.setChannel, h]
  rfl

theorem State.setChannel_frame (s : State) (c address : Nat) (enabled : Bool) (role : Role) :
    s.setChannel c address enabled role = { s with
      probe := (s.setChannel c address enabled role).probe, credit := (s.setChannel c address enabled role).credit } := by
  unfold State.setChannel
  split
  · rfl
  · dsimp only
    split <;> rfl

/-- R81: the record of the channel after the edit. -/
theorem State.setChannel_self {s : State} {c : Nat} {ch : Channel} (h : s.probe.channels.get? c = some ch) (address : Nat)
    (enabled : Bool) (role : Role) : (s.setChannel c address enabled role).probe.channels.get? c = some
      (if ch.enabled = enabled ∧ ch.address = address then ch.set address enabled role
        else (ch.set address enabled role).restart (s.forcing c)) := by
  have hset : (s.onChannel c (Channel.set address enabled role)).probe.channels.get? c = some (ch.set address enabled role) := by
    rw [State.get?_onChannel, if_pos rfl, h]
    rfl
  rw [State.setChannel_eq h]
  split
  · exact hset
  · exact (Table.get?_modify_self ..).trans (congrArg (Option.map _) hset)

theorem State.setChannel_ne (s : State) {c k : Nat} (hk : k ≠ c) (address : Nat) (enabled : Bool) (role : Role) :
    (s.setChannel c address enabled role).probe.channels.get? k = s.probe.channels.get? k := by
  have hset : (s.onChannel c (Channel.set address enabled role)).probe.channels.get? k = s.probe.channels.get? k := by
    rw [State.get?_onChannel, if_neg hk]
  cases h : s.probe.channels.get? c with
  | none => simp only [State.setChannel, h]
  | some ch =>
    rw [State.setChannel_eq h]
    split
    · exact hset
    · exact (Table.get?_modify_ne _ _ hk).trans hset

/-- Settles O32: the checks in their order, then the record written, and started afresh where enable or address has changed. -/
theorem channelSetWritesTheChannel : Obligations.ChannelSetWritesTheChannel := by
  intro s f c a e r h hf bad hbad
  have hexec := exec_channelSet_taken h hf
  obtain ⟨⟨-, -, hold, -⟩, -⟩ := h
  obtain rfl : bad = s.probe.Forbids c.toNat a.toNat e.toNat r.toNat := by rw [hbad, byte_eq_one_iff r, byte_eq_one_iff e]
  obtain ⟨hrefused, hbusy, hdone⟩ := doChannelSet_cases s c.toNat a.toNat e.toNat r.toNat
  rw [hexec]
  refine ⟨fun hno => ?_, fun hok hc => ?_, fun hok hfree ch hch => ?_⟩
  · rw [hrefused hno]
    rfl
  · rw [hbusy hok hc]
    rfl
  · rw [hdone hok hfree]
    generalize hen : decide (e.toNat = 1) = enabled
    generalize hro : (if r.toNat = 1 then Role.exit else .zone) = role
    have hen' : enabled = true ↔ e = 1 := by rw [← hen, decide_eq_true_iff, byte_eq_one_iff]
    have hro' : role = .exit ↔ r = 1 := by rw [← hro, role_eq_exit_iff, byte_eq_one_iff]
    obtain ⟨u, hu⟩ : ∃ u, u = s.setChannel c.toNat a.toNat enabled role := ⟨_, rfl⟩
    have hframe : u = { s with probe := u.probe, credit := u.credit } := by
      rw [hu]
      exact s.setChannel_frame ..
    have hself := State.setChannel_self hch a.toNat enabled role
    have hcomm : u.comm = s.comm := by rw [hframe]
    have hlink : u.link = s.link := by rw [hframe]
    rw [← hu] at hself ⊢
    refine ⟨u.edited.replied f (.status .ok), _, rfl, edited_answered hcomm f _, edited_replied hold (congrArg LinkUnit.rest hlink) _,
      ?_, by simpa using hself, fun k hk => ?_, ?_⟩
    · apply State.ext_fields <;> simp <;> rw [hframe]
    · simpa [hu] using s.setChannel_ne hk ..
    · rw [State.setChannel_eq hch] at hu
      by_cases hsame : ch.enabled = enabled ∧ ch.address = a.toNat
      · obtain ⟨henabled, haddress⟩ := hsame
        rw [if_pos ⟨henabled, haddress⟩] at hu ⊢
        refine ⟨rfl, hen', hro', rfl, rfl, rfl, rfl, rfl, rfl, rfl, rfl, fun _ _ =>
          ⟨by simp [hu, State.onChannel], rfl, rfl, rfl, rfl, rfl, rfl, rfl, rfl, by simp [hu, State.onChannel]⟩, fun hne => ?_⟩
        exact (hne.elim (fun h => h henabled.symm) fun h => h haddress.symm).elim
      · rw [if_neg hsame] at hu ⊢
        refine ⟨rfl, hen', hro', rfl, rfl, rfl, rfl, rfl, rfl, rfl, rfl, fun henabled haddress =>
          absurd ⟨henabled.symm, haddress.symm⟩ hsame, fun _ => ⟨by rw [State.replied_credit, State.edited_credit, hu]; rfl, ?_, rfl, rfl,
            rfl, rfl, rfl, rfl, rfl, fun x hx hxc => ?_⟩⟩
        · show (if enabled = true then ChannelState.waiting else .off) = _
          simp only [hen']
        · rw [State.replied_probe, State.edited_probe, hu]
          show s.probe.exchange.map _ = _
          rw [hx, Option.map_some, if_pos hxc]

end Sys2Proof.Machine
end

section
/-! ## ROUTE SET, EXTERNAL TRIP SET and TRIP ACK (R87, R88, R90, R93, R96, R164) -/

namespace Sys2Proof.Machine

-- One declaration after the other, so that the text needs one thread for them and not one each.
set_option Elab.async false

/-! ### ROUTE SET (R90) -/

theorem exec_routeSet_taken {s : State} {f : Frame} {c n r : Byte} (h : Taken s .routeSet f) (hf : f.payload = [c, n, r]) :
    exec .routeSet s = .next ((doRouteSet (c.toNat, n.toNat, r.toNat) s).1.replied f (doRouteSet (c.toNat, n.toNat, r.toNat) s).2) :=
  State.act_handOn s .routeSet f parseRouteSet doRouteSet h _ (by rw [hf]; rfl)

/-- R89: EXPOSURE and SHUTTLE_FAULT are the sources numbered under channel 0. -/
theorem TripSource.channel_of_ofBytes? {c n : Nat} {x : TripSource} (h : TripSource.ofBytes? c n = some x) :
    x.channel = none ↔ c = 0 := by
  unfold TripSource.ofBytes? at h
  split_ifs at h <;> cases h <;> simp [TripSource.channel, *]

/-- R90: an action set of four bits. -/
theorem Route.ofNat?_of_lt {r : Nat} (h : r < 16) :
    Route.ofNat? r = some ⟨r.testBit 0, r.testBit 1, r.testBit 2, r.testBit 3⟩ := if_pos h

theorem doRouteSet_refused {s : State} {c n r : Nat}
    (h : TripSource.ofBytes? c n = none ∨ 16 ≤ r ∨ (c = 0 ∧ r.testBit 1 = true)) : doRouteSet (c, n, r) s = s.refuse .badValue := by
  unfold doRouteSet
  split
  · next x route hx hroute =>
    have hr : r < 16 := by
      by_contra hge
      rw [Route.ofNat?, if_neg hge] at hroute
      nomatch hroute
    have hmark : c = 0 ∧ r.testBit 1 = true := (h.resolve_left (by simp [hx])).resolve_left (Nat.not_le.mpr hr)
    rw [Route.ofNat?_of_lt hr] at hroute
    cases hroute
    exact if_pos ⟨by rw [(TripSource.channel_of_ofBytes? hx).mpr hmark.1]; rfl, hmark.2⟩
  · rfl

/-- R90, R164: ROUTE SET on well-formed fields. -/
theorem doRouteSet_cases {s : State} {c n r : Nat} {x : TripSource} {route : Route} (hx : TripSource.ofBytes? c n = some x)
    (hr : r < 16) (hmark : ¬(c = 0 ∧ r.testBit 1 = true))
    (hroute : route = ⟨r.testBit 0, r.testBit 1, r.testBit 2, r.testBit 3⟩) :
    (CommissionInFlight s → doRouteSet (c, n, r) s = s.refuse .busy) ∧
    (¬CommissionInFlight s → doRouteSet (c, n, r) s = ((s.setRoute x route).edited, .status .ok)) := by
  have hallowed : ¬(x.channel.isNone = true ∧ route.markZone = true) := by
    rw [Option.isNone_iff_eq_none, TripSource.channel_of_ofBytes? hx, hroute]
    exact hmark
  have hof : Route.ofNat? r = some route := by rw [Route.ofNat?_of_lt hr, hroute]
  simp only [doRouteSet, hx, hof, if_neg hallowed]
  exact ⟨fun hbusy => if_pos ((commissioning_iff s).mpr hbusy), fun hfree => if_neg (commissioning_false hfree)⟩

/-- R90: the route of a source that has a record is replaced. -/
theorem State.route_setRoute_self {s : State} {x : TripSource} (h : ∀ k, x.channel = some k → s.probe.channels.get? k ≠ none)
    (r : Route) : (s.setRoute x r).route x = r := by
  cases x with
  | level c l =>
    obtain ⟨ch, hch⟩ := Option.ne_none_iff_exists'.mp (h c rfl)
    simp [State.route, State.setRoute, hch, LevelMap.look_put]
  | stale c =>
    obtain ⟨ch, hch⟩ := Option.ne_none_iff_exists'.mp (h c rfl)
    simp [State.route, State.setRoute, hch]
  | exposure => rfl
  | shuttleFault => rfl

/-- R90: every other route stands. -/
theorem State.route_setRoute_ne (s : State) {x y : TripSource} (r : Route) (h : y ≠ x) : (s.setRoute x r).route y = s.route y := by
  cases x with
  | level c l =>
    cases y with
    | level k m =>
      simp only [State.route, State.setRoute, State.onProbe_probe, Table.get?_modify]
      by_cases hk : k = c
      · have hm : m ≠ l := fun e => h (by rw [hk, e])
        cases s.probe.channels.get? k <;> simp [hk, hm, LevelMap.look_put]
      · simp [hk]
    | stale k =>
      simp only [State.route, State.setRoute, State.onProbe_probe, Table.get?_modify]
      by_cases hk : k = c <;> cases s.probe.channels.get? k <;> simp [hk]
    | exposure => rfl
    | shuttleFault => rfl
  | stale c =>
    cases y with
    | level k m =>
      simp only [State.route, State.setRoute, State.onProbe_probe, Table.get?_modify]
      by_cases hk : k = c <;> cases s.probe.channels.get? k <;> simp [hk]
    | stale k =>
      have hk : k ≠ c := fun e => h (by rw [e])
      simp only [State.route, State.setRoute, State.onProbe_probe, Table.get?_modify, if_neg hk]
    | exposure => rfl
    | shuttleFault => rfl
  | exposure =>
    cases y with
    | exposure => exact absurd rfl h
    | level | stale | shuttleFault => rfl
  | shuttleFault =>
    cases y with
    | shuttleFault => exact absurd rfl h
    | level | stale | exposure => rfl

/-- R90: a route says nothing of latches. -/
theorem State.latch_setRoute (s : State) (x : TripSource) (r : Route) : (s.setRoute x r).latch = s.latch := by
  cases x with
  | level c l => exact s.latch_onChannel c fun _ => ⟨rfl, rfl⟩
  | stale c => exact s.latch_onChannel c fun _ => ⟨rfl, rfl⟩
  | exposure => exact funext fun y => by cases y <;> rfl
  | shuttleFault => exact funext fun y => by cases y <;> rfl

/-- R90: a route says nothing of conditions. -/
theorem State.condition_setRoute (s : State) (x : TripSource) (r : Route) : (s.setRoute x r).condition = s.condition := by
  cases x with
  | level c l => exact s.condition_onChannel c fun _ => ⟨rfl, rfl⟩
  | stale c => exact s.condition_onChannel c fun _ => ⟨rfl, rfl⟩
  | exposure => exact funext fun y => by cases y <;> rfl
  | shuttleFault => exact funext fun y => by cases y <;> rfl

theorem State.condition_congr {s t : State} (h : t.probe = s.probe) (ht : t.transfer = s.transfer) : t.condition = s.condition := by
  funext x
  cases x <;> simp [State.condition, h, ht]

/-- R90, R164: what the command ROUTE SET does, by its fields. -/
theorem exec_routeSet_cases {s : State} {f : Frame} {c n r : Byte} (h : Taken s .routeSet f) (hf : f.payload = [c, n, r]) :
    (TripSource.ofBytes? c.toNat n.toNat = none ∨ 16 ≤ r.toNat ∨ (c = 0 ∧ r.toNat.testBit 1 = true) →
      exec .routeSet s = .next (s.replied f (.status .badValue))) ∧
    ∀ x route, TripSource.ofBytes? c.toNat n.toNat = some x → r.toNat < 16 → ¬(c = 0 ∧ r.toNat.testBit 1 = true) →
      route = ⟨r.toNat.testBit 0, r.toNat.testBit 1, r.toNat.testBit 2, r.toNat.testBit 3⟩ →
      (CommissionInFlight s → exec .routeSet s = .next (s.replied f (.status .busy))) ∧
      (¬CommissionInFlight s → exec .routeSet s = .next ((s.setRoute x route).edited.replied f (.status .ok))) := by
  rw [exec_routeSet_taken h hf, byte_eq_zero_iff]
  refine ⟨fun hbad => ?_, fun x route hx hr hmark hroute => ?_⟩
  · rw [doRouteSet_refused hbad]
    rfl
  · obtain ⟨hbusy, hdone⟩ := doRouteSet_cases (s := s) hx hr hmark hroute
    refine ⟨fun hc => ?_, fun hfree => ?_⟩
    · rw [hbusy hc]
      rfl
    · rw [hdone hfree]

/-! ### EXTERNAL TRIP SET (R88) -/

theorem exec_externalTripSet_taken {s : State} {f : Frame} {i g c l : Byte} (h : Taken s .externalTripSet f)
    (hf : f.payload = [i, g, c, l]) : exec .externalTripSet s =
      .next ((doExternalTripSet ⟨i.toNat, g.toNat, c.toNat, l.toNat⟩ s).1.replied f
        (doExternalTripSet ⟨i.toNat, g.toNat, c.toNat, l.toNat⟩ s).2) :=
  State.act_handOn s .externalTripSet f parseExternalSet doExternalTripSet h _ (by rw [hf]; rfl)

/-- R88: the binding a request asks for. -/
def ExternalSet.asked (d : ExternalSet) : Option (Nat × LevelName) :=
  if d.flag = 1 then some (d.channel, if d.level = 1 then .highCrit else .high) else none

/-- R88: the fields of a binding that are refused. -/
abbrev ExternalSet.Malformed (d : ExternalSet) : Prop :=
  1 < d.flag ∨ (d.flag = 1 ∧ (d.channel < 1 ∨ 16 < d.channel ∨ 1 < d.level))

theorem bindingLevel?_of_le {n : Nat} (h : n ≤ 1) : bindingLevel? n = some (if n = 1 then .highCrit else .high) := by
  interval_cases n <;> rfl

theorem bindingLevel?_of_gt {n : Nat} (h : 1 < n) : bindingLevel? n = none := by
  rw [bindingLevel?, if_neg (by omega), if_neg (by omega)]

/-- R88: which fields give a binding, and which. -/
theorem ExternalSet.binding?_eq (d : ExternalSet) : d.binding? = if d.Malformed then none else some d.asked := by
  have hcases : d.flag = 0 ∨ d.flag = 1 ∨ 1 < d.flag := by omega
  rcases hcases with h0 | h1 | hgt
  · simp [ExternalSet.binding?, optField, ExternalSet.asked, ExternalSet.Malformed, h0]
  · by_cases hl : d.level ≤ 1
    · have hm : d.Malformed ↔ ¬(1 ≤ d.channel ∧ d.channel ≤ 16) := by
        simp only [ExternalSet.Malformed]
        omega
      simp only [hm, ite_not]
      simp [ExternalSet.binding?, optField, bindingLevel?_of_le hl, ExternalSet.asked, h1]
    · have hm : d.Malformed := .inr ⟨h1, .inr (.inr (not_le.mp hl))⟩
      simp [ExternalSet.binding?, optField, bindingLevel?_of_gt (not_le.mp hl), hm, h1]
  · have hnone : optField d.flag (d.channel, d.level) = none := by rw [optField, if_neg (by omega), if_neg (by omega)]
    simp [ExternalSet.binding?, ExternalSet.Malformed, hgt, hnone]

/-- R88, R164: EXTERNAL TRIP SET, in its cases. -/
theorem doExternalTripSet_cases (d : ExternalSet) (s : State) :
    (d.input < 1 ∨ 2 < d.input ∨ d.Malformed → doExternalTripSet d s = s.refuse .badValue) ∧
    (¬(d.input < 1 ∨ 2 < d.input ∨ d.Malformed) → CommissionInFlight s → doExternalTripSet d s = s.refuse .busy) ∧
    (¬(d.input < 1 ∨ 2 < d.input ∨ d.Malformed) → ¬CommissionInFlight s →
      doExternalTripSet d s = ((s.bind d.input d.asked).edited, .status .ok)) := by
  rw [doExternalTripSet, ExternalSet.binding?_eq]
  by_cases hm : d.Malformed
  · rw [if_pos hm]
    exact ⟨fun _ => rfl, fun hok => absurd (.inr (.inr hm)) hok, fun hok => absurd (.inr (.inr hm)) hok⟩
  · rw [if_neg hm]
    have hrange : (d.input < 1 ∨ 2 < d.input ∨ d.Malformed) ↔ ¬(1 ≤ d.input ∧ d.input ≤ 2) := by
      simp only [hm, or_false]
      omega
    rw [hrange]
    refine ⟨fun hbad => if_pos hbad, fun hok hbusy => ?_, fun hok hfree => ?_⟩
    · exact (if_neg hok).trans (if_pos ((commissioning_iff s).mpr hbusy))
    · exact (if_neg hok).trans (if_neg (commissioning_false hfree))

/-- R88: the binding asked for, in the bytes of the request. -/
theorem ExternalSet.asked_bytes (i g c l : Byte) : ExternalSet.asked ⟨i.toNat, g.toNat, c.toNat, l.toNat⟩ =
    if g = 1 then some (c.toNat, if l = 1 then .highCrit else .high) else none := by
  simp only [ExternalSet.asked, byte_eq_one_iff]

/-- R88, R164: what the command EXTERNAL TRIP SET does, by its fields. -/
theorem exec_externalTripSet_cases {s : State} {f : Frame} {i g c l : Byte} (h : Taken s .externalTripSet f)
    (hf : f.payload = [i, g, c, l]) {bad : Prop} (hbad : bad =
      (i.toNat < 1 ∨ 2 < i.toNat ∨ 1 < g.toNat ∨ (g = 1 ∧ (c.toNat < 1 ∨ 16 < c.toNat ∨ 1 < l.toNat)))) :
    (bad → exec .externalTripSet s = .next (s.replied f (.status .badValue))) ∧
    (¬bad → CommissionInFlight s → exec .externalTripSet s = .next (s.replied f (.status .busy))) ∧
    (¬bad → ¬CommissionInFlight s → exec .externalTripSet s = .next ((s.bind i.toNat
      (if g = 1 then some (c.toNat, if l = 1 then .highCrit else .high) else none)).edited.replied f (.status .ok))) := by
  rw [byte_eq_one_iff g] at hbad
  rw [exec_externalTripSet_taken h hf, ← ExternalSet.asked_bytes i g c l, hbad]
  obtain ⟨hrefused, hbusy, hdone⟩ := doExternalTripSet_cases ⟨i.toNat, g.toNat, c.toNat, l.toNat⟩ s
  refine ⟨fun hno => ?_, fun hok hc => ?_, fun hok hfree => ?_⟩
  · rw [hrefused hno]
    rfl
  · rw [hbusy hok hc]
    rfl
  · rw [hdone hok hfree]

/-! ### The conditions of a binding's channel (R87, R88) -/

/-- R88: the channel a binding names. -/
abbrev Bound (b : Option (Nat × LevelName)) (k : Nat) : Prop := (b.map fun p => p.1) = some k

theorem State.reformBound_external (s : State) (time : Nat) (b : Option (Nat × LevelName)) :
    (s.reformBound time b).probe.external = s.probe.external := by
  cases b with
  | none => rfl
  | some p => exact s.reform_external ..

/-- R87: the channel of a binding, formed again. -/
theorem State.reformBound_self {s : State} {b : Option (Nat × LevelName)} {k : Nat} {ch : Channel} (hb : Bound b k)
    (h : s.probe.channels.get? k = some ch) (time : Nat) :
    (s.reformBound time b).probe.channels.get? k = some (ch.reformed (s.formed k ch) ch.conditions) := by
  obtain ⟨⟨c, l⟩, rfl, rfl⟩ := Option.map_eq_some_iff.mp hb
  exact State.reform_self h ..

theorem State.reformBound_ne (s : State) {b : Option (Nat × LevelName)} {k : Nat} (hb : ¬Bound b k) (time : Nat) :
    (s.reformBound time b).probe.channels.get? k = s.probe.channels.get? k := by
  cases b with
  | none => rfl
  | some p => exact s.reform_ne (fun e => hb (by rw [e]; rfl)) ..

/-- R8: at rest the conditions of a binding's channel are formed without a halt. -/
theorem lineView_reformBound_rest {s : State} (h : s.line.state.runs = false) (time : Nat) (b : Option (Nat × LevelName)) :
    (s.reformBound time b).lineView = s.lineView := by
  cases b with
  | none => rfl
  | some p => exact lineView_reform_rest h ..

/-- R89: no latch is cleared by an event. -/
theorem State.latch_setLatch_mono {s : State} {y : TripSource} (h : s.latch y = true) (x : TripSource) :
    (s.setLatch x true).latch y = true := by
  by_cases hy : y = x
  · subst hy
    refine State.latch_setLatch_of_record (fun k hk hnone => ?_) true
    cases y <;> cases hk <;> simp [State.latch, hnone] at h
  · rwa [State.latch_setLatch_ne s true hy]

theorem State.latch_reform_mono {s : State} {y : TripSource} (h : s.latch y = true) (c : Nat) (cause : TripCause) (time : Nat) :
    (s.reform c cause time).latch y = true := by
  cases hc : s.probe.channels.get? c with
  | none => rwa [State.reform_none hc]
  | some ch =>
    have hform : (s.form c (s.formed c ch)).latch = s.latch := s.latch_onChannel c fun _ => ⟨rfl, rfl⟩
    rw [State.reform_some hc]
    refine State.each_induct (fun t => t.latch y = true) _ _ _ (by rwa [hform]) fun l _ t ht => ?_
    unfold State.fireLevel
    split
    · rw [State.latch_congr (State.fire_probe ..)]
      exact State.latch_setLatch_mono ht _
    · exact ht

theorem State.latch_reformBound_mono {s : State} {y : TripSource} (h : s.latch y = true) (time : Nat)
    (b : Option (Nat × LevelName)) : (s.reformBound time b).latch y = true := by
  cases b with
  | none => exact h
  | some p => exact State.latch_reform_mono h ..

/-! ### The new binding (R88) -/

/-- R88: an input with its binding replaced, before any condition is formed. -/
def State.rebound (s : State) (i : Nat) (x : ExternalTrip) (b : Option (Nat × LevelName)) : State :=
  s.onProbe fun u => { u with external := u.external.put i { x with binding := b } }

theorem State.bind_eq {s : State} {i : Nat} {x : ExternalTrip} (h : s.probe.external.get? i = some x)
    (b : Option (Nat × LevelName)) : s.bind i b =
      ((s.rebound i x b).reformBound s.time.lineTime x.binding).reformBound s.time.lineTime b := by
  simp only [State.bind, h]
  rfl

/-- R89: a condition that has been formed does not begin to hold when it is formed again. -/
theorem Channel.reformed_reformed (now before : LevelMap Bool) (ch : Channel) :
    (ch.reformed now before).reformed now (ch.reformed now before).conditions = ch.reformed now before := by
  have hraised : ∀ m : LevelMap Bool, LevelMap.raised now now m LevelName.all = m := fun m =>
    LevelMap.ext_look fun l => by simp [LevelMap.look_raised]
  exact congrArg (fun m => { ch with conditions := now, latches := m }) (hraised _)

section Bind
variable {s : State} {i : Nat} {x : ExternalTrip} (h : s.probe.external.get? i = some x) (b : Option (Nat × LevelName))
include h

theorem State.bind_external : (s.bind i b).probe.external = s.probe.external.put i { x with binding := b } := by
  rw [State.bind_eq h, State.reformBound_external, State.reformBound_external]
  rfl

/-- R87, R88: the conditions of the channels of both bindings are formed again, with the new binding in force. -/
theorem State.bind_self {k : Nat} {ch : Channel} (hk : Bound x.binding k ∨ Bound b k) (hch : s.probe.channels.get? k = some ch) :
    (s.bind i b).probe.channels.get? k = some (ch.reformed ((s.bind i b).formed k ch) ch.conditions) := by
  have hformed : ∀ ch', (s.bind i b).formed k ch' = (s.rebound i x b).formed k ch' := fun ch' => by
    rw [State.formed, State.forced_congr ((State.bind_external h b).trans (by rfl : _ = (s.rebound i x b).probe.external))]
    rfl
  have hformed' : ∀ ch', ((s.rebound i x b).reformBound s.time.lineTime x.binding).formed k ch' = (s.rebound i x b).formed k ch' :=
    fun ch' => by
      rw [State.formed, State.forced_congr (State.reformBound_external ..)]
      rfl
  have hget : (s.rebound i x b).probe.channels.get? k = some ch := hch
  rw [hformed, State.bind_eq h]
  by_cases hold : Bound x.binding k
  · have hone := State.reformBound_self hold hget s.time.lineTime
    by_cases hnew : Bound b k
    · rw [State.reformBound_self hnew hone, hformed']
      exact congrArg some (Channel.reformed_reformed _ _ ch)
    · rw [State.reformBound_ne _ hnew, hone]
  · have hone := (State.reformBound_ne (s.rebound i x b) hold s.time.lineTime).trans hget
    rw [State.reformBound_self (hk.resolve_left hold) hone, hformed']

theorem State.bind_ne {k : Nat} (hold : ¬Bound x.binding k) (hnew : ¬Bound b k) :
    (s.bind i b).probe.channels.get? k = s.probe.channels.get? k := by
  rw [State.bind_eq h, State.reformBound_ne _ hnew, State.reformBound_ne _ hold]
  rfl

theorem State.latch_bind_mono {y : TripSource} (hy : s.latch y = true) : (s.bind i b).latch y = true := by
  have hrebound : (s.rebound i x b).latch = s.latch := funext fun z => by cases z <;> rfl
  rw [State.bind_eq h]
  exact State.latch_reformBound_mono (State.latch_reformBound_mono (by rwa [hrebound]) ..) ..

theorem State.rest_bind : (s.bind i b).link.rest = s.link.rest := by
  rw [State.bind_eq h, rest_reformBound, rest_reformBound]
  rfl

theorem State.lineView_bind_rest (hr : s.line.state.runs = false) : (s.bind i b).lineView = s.lineView := by
  have hone := lineView_reformBound_rest (s := s.rebound i x b) hr s.time.lineTime x.binding
  rw [State.bind_eq h, lineView_reformBound_rest (by rwa [line_of_lineView hone]), hone]
  rfl

end Bind

/-! ### TRIP ACK (R96) -/

theorem exec_tripAck_taken {s : State} {f : Frame} {c n : Byte} (h : AtHand s .tripAck f) (hf : f.payload = [c, n]) :
    exec .tripAck s = .next ((doTripAck (c.toNat, n.toNat) s).1.replied f (doTripAck (c.toNat, n.toNat) s).2) :=
  State.act_handOn s .tripAck f parseSource doTripAck (taken_of_always h fun _ => rfl) _ (by rw [hf]; rfl)

/-- R96: TRIP ACK of a source, by its latch and its condition. -/
theorem doTripAck_cases {s : State} {c n : Nat} {x : TripSource} (hx : TripSource.ofBytes? c n = some x) :
    (s.latch x = false → doTripAck (c, n) s = (s, .tripAck false)) ∧
    (s.latch x = true → s.condition x = true → doTripAck (c, n) s = s.refuse .stillActive) ∧
    (s.latch x = true → s.condition x = false → doTripAck (c, n) s = (s.setLatch x false, .tripAck true)) := by
  simp only [doTripAck, hx]
  refine ⟨fun hl => by simp [hl], fun hl hc => by simp [hl, hc], fun hl hc => by simp [hl, hc]⟩

/-- R96: what the command TRIP ACK does, by its source. -/
theorem exec_tripAck_cases {s : State} {f : Frame} {c n : Byte} (h : AtHand s .tripAck f) (hf : f.payload = [c, n]) :
    (TripSource.ofBytes? c.toNat n.toNat = none → exec .tripAck s = .next (s.replied f (.status .badValue))) ∧
    ∀ x, TripSource.ofBytes? c.toNat n.toNat = some x →
      (s.latch x = false → exec .tripAck s = .next (s.replied f (.tripAck false))) ∧
      (s.latch x = true → s.condition x = true → exec .tripAck s = .next (s.replied f (.status .stillActive))) ∧
      (s.latch x = true → s.condition x = false → exec .tripAck s = .next ((s.setLatch x false).replied f (.tripAck true))) := by
  rw [exec_tripAck_taken h hf]
  refine ⟨fun hnone => ?_, fun x hx => ?_⟩
  · simp only [doTripAck, hnone]
    rfl
  · obtain ⟨hclear, hactive, hset⟩ := doTripAck_cases (s := s) hx
    refine ⟨fun hl => ?_, fun hl hc => ?_, fun hl hc => ?_⟩
    · rw [hclear hl]
    · rw [hactive hl hc]
      rfl
    · rw [hset hl hc]

/-- R89: a source with a latch set has a record. -/
theorem State.record_of_latch {s : State} {x : TripSource} (h : s.latch x = true) :
    ∀ k, x.channel = some k → s.probe.channels.get? k ≠ none := by
  intro k hk hnone
  cases x <;> cases hk <;> simp [State.latch, hnone] at h

/-- Settles O34: the checks of each request, then one route, one binding or one latch, and what is formed from it. -/
theorem tripEditsAndAck : Obligations.TripEditsAndAck := by
  refine ⟨fun s f c n r h hf => ?_, fun s f i g c l h hf bad hbad => ?_, fun s f c n h hf => ?_⟩
  · obtain ⟨hbad, hgood⟩ := exec_routeSet_cases h hf
    obtain ⟨⟨-, -, hold, -⟩, -⟩ := h
    refine ⟨hbad, fun x route hx hr hmark hroute => ?_⟩
    obtain ⟨hbusy, hdone⟩ := hgood x route hx hr hmark hroute
    refine ⟨hbusy, fun hfree hrec => ?_⟩
    have hprobe : ((s.setRoute x route).edited.replied f (.status .ok)).probe = (s.setRoute x route).probe := by simp
    refine ⟨_, hdone hfree, s.edited_probeEdited f _ _, State.replied_probeEdited hold _ _, s.probeEdited_frame f _ _, ?_, fun y hy => ?_,
      fun y => ?_, fun y => ?_⟩
    · rw [State.route_congr hprobe, State.route_setRoute_self hrec]
    · rw [State.route_congr hprobe, State.route_setRoute_ne s route hy]
    · rw [State.latch_congr hprobe, State.latch_setRoute]
    · rw [State.condition_congr hprobe (by simp), State.condition_setRoute]
  · obtain ⟨b, hb⟩ : ∃ b, b = if g = 1 then some (c.toNat, if l = 1 then LevelName.highCrit else .high) else none := ⟨_, rfl⟩
    have hsetup : s.line.state ∈ admittedIn .externalTripSet := (unavailable_none_iff _ _).mp h.2
    have hruns : s.line.state.runs = false := by rw [List.mem_singleton.mp hsetup]; rfl
    have hbound : ∀ k, g = 1 ∧ c.toNat = k ↔ Bound b k := fun k => by
      by_cases hg : g = 1 <;> simp [Bound, hb, hg]
    obtain ⟨hrefused, hbusy, hdone⟩ := exec_externalTripSet_cases h hf hbad
    obtain ⟨⟨-, -, hold, -⟩, -⟩ := h
    rw [← hb] at hdone ⊢
    refine ⟨hrefused, hbusy, fun hok hfree x hx => ?_⟩
    have hprobe : ((s.bind i.toNat b).edited.replied f (.status .ok)).probe = (s.bind i.toNat b).probe := by simp
    refine ⟨_, hdone hok hfree, edited_answered (comm_of_lineView (State.lineView_bind_rest hx b hruns)) f _,
      edited_replied hold (State.rest_bind hx _) _, ?_, fun y hy => ?_, fun k ch hch hk => ?_, fun k hk1 hk2 => ?_⟩
    · rw [hprobe, State.bind_external hx]
    · rw [State.latch_congr hprobe]
      exact State.latch_bind_mono hx _ hy
    · rw [hbound] at hk
      refine ⟨ch.reformed ((s.bind i.toNat b).formed k ch) ch.conditions, by rw [hprobe, State.bind_self hx _ hk hch], rfl,
        fun m => ?_, fun m => Channel.look_reformed ..⟩
      rw [State.forced_congr (congrArg ProbeUnit.external hprobe)]
      exact State.look_formed ..
    · rw [hbound] at hk2
      rw [hprobe, State.bind_ne hx _ hk1 hk2]
  · obtain ⟨hbad, hgood⟩ := exec_tripAck_cases h hf
    refine ⟨hbad, fun x hx => ?_⟩
    obtain ⟨hclear, hactive, hset⟩ := hgood x hx
    refine ⟨hclear, hactive, fun hl hc => ?_⟩
    obtain ⟨-, -, hold, -⟩ := h
    have hprobe : ((s.setLatch x false).replied f (.tripAck true)).probe = (s.setLatch x false).probe := by simp
    have hreset : ((s.setLatch x false).replied f (.tripAck true)).probe.reset = s.probe.reset := by
      rw [hprobe, State.setLatch_reset]
    refine ⟨_, hset hl hc, State.replied_made_of_rest (u := s.setLatch x false) hold rfl _, ?_, ?_, fun y hy => ?_, fun y => ?_,
      fun y => ?_⟩
    · apply State.ext_fields <;> simp
    · rw [State.latch_congr hprobe, State.latch_setLatch_of_record (State.record_of_latch hl)]
    · rw [State.latch_congr hprobe, State.latch_setLatch_ne s false hy]
    · rw [State.route_of_reset hreset]
    · rw [State.condition_of_reset hreset (by simp)]

end Sys2Proof.Machine
end

section
/-! ## The sensor bus: rounds, polls and misses (R78, R79, R83, R111) -/

namespace Sys2Proof.Machine

-- One declaration after the other, so that the text needs one thread for them and not one each.
set_option Elab.async false

/-! ### The next poll (R78, R79) -/

/-- Records numbered in order stand in canonical form. -/
theorem Table.wf_of_numbered {α : Type} {n : Nat} {t : Table α} (h : numbered n t = true) : t.wf = true := by
  rw [numbered, decide_eq_true_iff] at h
  rw [Table.wf_iff, h]
  exact List.Pairwise.map _ (fun _ _ hlt => Nat.succ_lt_succ hlt) List.pairwise_lt_range

theorem ProbeUnit.enabled_of_get? {u : ProbeUnit} {c : Nat} {ch : Channel} (h : u.channels.get? c = some ch) :
    u.enabled c = ch.enabled := by simp [ProbeUnit.enabled, h]

/-- R79: at the end of a round the bus is idle. -/
theorem ProbeUnit.pollNext_nil {u : ProbeUnit} (h : u.remaining = []) (now : Nat) :
    u.pollNext now = { u with remaining := [], exchange := none } := by simp [ProbeUnit.pollNext, h]

/-- R78, R79: the next channel of the round is polled when it is enabled. -/
theorem ProbeUnit.pollNext_cons {u : ProbeUnit} {k : Nat} {rest : List Nat} {ck : Channel} (h : u.remaining = k :: rest)
    (hk : u.channels.get? k = some ck) (hen : ck.enabled = true) (now : Nat) :
    u.pollNext now = { u with remaining := rest, exchange := some ⟨k, ck.address, now, false, []⟩ } := by
  simp [ProbeUnit.pollNext, h, ProbeUnit.enabled_of_get? hk, hen, hk]

/-- R79: a channel is polled only when the round still has it. -/
theorem ProbeUnit.mem_of_pollNext {u : ProbeUnit} {now : Nat} {x : Exchange} (h : (u.pollNext now).exchange = some x) :
    x.channel ∈ u.remaining := by
  unfold ProbeUnit.pollNext at h
  split at h
  · nomatch h
  · next c rest hd =>
    have hmem : c ∈ u.remaining := (List.dropWhile_suffix _).subset (hd ▸ List.mem_cons_self ..)
    split at h
    · cases h
      exact hmem
    · nomatch h

/-! ### A round begins (R79) -/

theorem exec_pollRoundStart_powered {s : State} (h : s.powered = true) :
    exec .pollRoundStart s = .next (if s.roundDue then s.beginRound else s).finish := by
  rw [exec, execPollRoundStart, State.act_powered _ _ h]

/-- R79: what it is for a round to be due. -/
theorem roundDue_iff (s : State) :
    s.roundDue = true ↔ s.probe.exchange = none ∧ s.probe.remaining = [] ∧ s.probe.nextRound ≤ s.time.baseMs := by
  simp [State.roundDue, and_assoc]

/-- R79: a round that has begun, before its first poll. -/
def State.roundBegun (s : State) : ProbeUnit :=
  { s.probe with remaining := s.probe.toPoll, nextRound := s.time.baseMs + s.probe.period, lastRound := s.time.lineTime }

/-- R79: the round polls its first enabled channel. -/
theorem State.beginRound_eq {s : State} (h : s.probe.channels.wf = true) : s.beginRound = { s with probe := { s.probe with
    nextRound := s.time.baseMs + s.probe.period, lastRound := s.time.lineTime
    remaining := (s.probe.channels.filter fun e => e.2.enabled).tail.map fun e => e.1
    exchange := (s.probe.channels.filter fun e => e.2.enabled).head?.map fun e =>
      ⟨e.1, e.2.address, s.time.baseMs, false, []⟩ } } := by
  have hbegin : s.beginRound = { s with probe := s.roundBegun.pollNext s.time.baseMs } := rfl
  have hremaining : s.roundBegun.remaining = (s.probe.channels.filter fun e => e.2.enabled).map fun e => e.1 := rfl
  cases hfilter : s.probe.channels.filter fun e => e.2.enabled with
  | nil =>
    rw [hfilter] at hremaining
    rw [hbegin, ProbeUnit.pollNext_nil hremaining]
    rfl
  | cons e es =>
    obtain ⟨k, ck⟩ := e
    have hmem : (k, ck) ∈ s.probe.channels.filter fun e => e.2.enabled := hfilter ▸ List.mem_cons_self ..
    obtain ⟨hin, hen⟩ := List.mem_filter.mp hmem
    have hget : s.roundBegun.channels.get? k = some ck := Table.get?_of_mem h hin
    rw [hfilter] at hremaining
    rw [hbegin, ProbeUnit.pollNext_cons hremaining hget hen]
    rfl

/-! ### A miss (R83, R111) -/

/-- R83: this miss is the third, of a channel that is still polled for samples. -/
abbrev Channel.TurnsStale (ch : Channel) : Prop := 2 ≤ ch.misses ∧ (ch.state = .waiting ∨ ch.state = .live)

theorem Channel.not_stale_of_turnsStale {ch : Channel} (h : ch.TurnsStale) : ch.state ≠ .stale := by
  obtain ⟨-, hw | hl⟩ := h <;> simp [*]

theorem Channel.miss_state (cause : MissCause) (ch : Channel) :
    (ch.miss cause).state = if ch.TurnsStale then .stale else ch.state := by
  have hthird : min 3 (ch.misses + 1) = 3 ↔ 2 ≤ ch.misses := by omega
  simp only [Channel.miss, hthird]

/-- R83: only the third miss changes the state. -/
theorem Channel.turnsStale_iff (cause : MissCause) (ch : Channel) :
    ch.TurnsStale ↔ (ch.miss cause).state = .stale ∧ ch.state ≠ .stale := by
  rw [Channel.miss_state]
  constructor
  · intro h
    exact ⟨if_pos h, Channel.not_stale_of_turnsStale h⟩
  · rintro ⟨hstale, hne⟩
    by_contra hno
    rw [if_neg hno] at hstale
    exact hne hstale

/-- R83, R89: the record after a miss and its event. -/
def Channel.missed (cause : MissCause) (stale : Bool) (ch : Channel) : Channel :=
  if stale then { ch.miss cause with staleLatch := true } else ch.miss cause

theorem Channel.missed_state (cause : MissCause) (stale : Bool) (ch : Channel) :
    (ch.missed cause stale).state = if ch.TurnsStale then .stale else ch.state := by
  cases stale <;> exact Channel.miss_state cause ch

/-- R83: what a miss counts, and the readings it leaves. -/
theorem Channel.missed_fields (cause : MissCause) (stale : Bool) (ch : Channel) :
    (ch.missed cause stale).misses = min 3 (ch.misses + 1) ∧ (ch.missed cause stale).lastMiss = some cause ∧
      (ch.missed cause stale).lastValue = ch.lastValue ∧ (ch.missed cause stale).lastSample = ch.lastSample ∧
      (ch.missed cause stale).results = ch.results ∧ (ch.missed cause stale).lastFault = ch.lastFault := by
  cases stale <;> exact ⟨rfl, rfl, rfl, rfl, rfl, rfl⟩

section Missed
variable {s : State} {c : Nat} {ch : Channel} (h : s.probe.channels.get? c = some ch) (cause : MissCause)
include h

/-- R83: the third miss fires STALE and is told to the credit unit; any other is counted. -/
theorem State.missed_eq : s.missed c cause = if ch.TurnsStale then
    ((s.onChannel c (Channel.miss cause)).fire (.stale c) .thirdMiss 0 s.time.lineTime).creditStale c
      else s.onChannel c (Channel.miss cause) := by
  simp only [State.missed, h, ← Channel.turnsStale_iff cause ch]

/-- R83: a miss changes one channel record, and nothing else of the probe unit. -/
theorem State.missed_probe : (s.missed c cause).probe =
    { s.probe with channels := s.probe.channels.modify c (Channel.missed cause (decide ch.TurnsStale)) } := by
  by_cases hstale : ch.TurnsStale
  · have hcredit : ∀ u : State, (u.creditStale c).probe = u.probe := fun _ => rfl
    rw [State.missed_eq h, if_pos hstale, decide_eq_true hstale, hcredit, State.fire_probe]
    exact congrArg (fun cs => { s.probe with channels := cs }) (Table.modify_modify ..)
  · rw [State.missed_eq h, if_neg hstale, decide_eq_false hstale]
    rfl

theorem State.missed_self :
    (s.missed c cause).probe.channels.get? c = some (ch.missed cause (decide ch.TurnsStale)) := by
  rw [State.missed_probe h, Table.get?_modify_self, h]
  rfl

theorem State.missed_ne {k : Nat} (hk : k ≠ c) : (s.missed c cause).probe.channels.get? k = s.probe.channels.get? k := by
  rw [State.missed_probe h, Table.get?_modify_ne _ _ hk]

/-- R111: no miss changes a chain. -/
theorem State.missed_credit : (s.missed c cause).credit = s.credit := by
  rw [State.missed_eq h]
  split
  · exact State.fire_credit ..
  · rfl

/-- R83: a miss that does not make the channel STALE changes no parcel. -/
theorem State.missed_parcel (hno : ¬ch.TurnsStale) : (s.missed c cause).parcel = s.parcel := by
  rw [State.missed_eq h, if_neg hno]
  rfl

end Missed

/-! ### The parcels of a channel that becomes STALE (R83, R92, R111) -/

/-- R111: a parcel whose channel has become STALE, where the channel's samples reach it. -/
def Parcel.gapIf (b : Bool) (p : Parcel) : Parcel := if b then p.disarm.addGap else p

@[simp] theorem reached_tripIf (u : TrackUnit) (c : Nat) (b : Bool) (p : Parcel) : u.reached c (p.tripIf b) = u.reached c p := by
  cases b <;> rfl

/-- R83, R92, R111: the marks on one parcel. -/
theorem Parcel.gapIf_tripIf (gap trip : Bool) (p : Parcel) : (p.tripIf trip).gapIf gap =
    { p with
      armed := p.armed && !gap
      deviation := { p.deviation with gap := p.deviation.gap || gap, trip := p.deviation.trip || trip } } := by
  cases gap <;> cases trip <;> simp [Parcel.gapIf, Parcel.tripIf, Parcel.disarm, Parcel.addGap, Parcel.addTrip]

/-- The marks count from any state with the same parcels, zones and routes, up to any state with the same parcels. -/
theorem StaleMarks.congr {s s' t t' : State} {c : Nat} (h : StaleMarks s' t' c) (hp : s'.parcel = s.parcel)
    (ht : s'.track = s.track) (hr : s'.route = s.route) (ht' : t'.parcel = t.parcel) : StaleMarks s t c := by
  unfold StaleMarks at h ⊢
  rwa [hp, ht, hr, ht'] at h

/-- R83, R92, R111: the third miss. -/
theorem State.staleMarks_missed {s : State} {c : Nat} {ch : Channel} (h : s.probe.channels.get? c = some ch) (cause : MissCause)
    (hstale : ch.TurnsStale) : StaleMarks s (s.missed c cause) c := by
  obtain ⟨u, hu⟩ : ∃ u, u = s.onChannel c (Channel.miss cause) := ⟨_, rfl⟩
  have hroute : u.route = s.route := by
    rw [hu]
    exact s.route_onChannel c fun _ => ⟨rfl, rfl⟩
  have hparcels : (s.missed c cause).parcel.parcels = s.parcel.parcels.mapVals fun _ p =>
      (p.tripIf ((s.route (.stale c)).markZone && s.track.inZoneOf c p)).gapIf (s.track.reached c p) := by
    have hfired : (u.fire (.stale c) .thirdMiss 0 s.time.lineTime).parcel.parcels = s.parcel.parcels.mapVals fun _ p =>
        p.tripIf ((s.route (.stale c)).markZone && s.track.inZoneOf c p) := by
      rw [State.fire_channel_parcels u rfl, hroute, hu]
      rfl
    have htrack : (u.fire (.stale c) .thirdMiss 0 s.time.lineTime).track = s.track := by
      rw [State.fire_track, hu]
      rfl
    rw [State.missed_eq h, if_pos hstale, ← hu, State.creditStale, State.markParcels, State.onParcel_parcel, hfired, htrack,
      Table.mapVals_mapVals]
    simp only [reached_tripIf]
    rfl
  intro k p hk
  refine ⟨(p.tripIf ((s.route (.stale c)).markZone && s.track.inZoneOf c p)).gapIf (s.track.reached c p),
    by rw [hparcels, Table.get?_mapVals, hk]; rfl, ?_⟩
  rw [Parcel.gapIf_tripIf]
  exact ⟨rfl, rfl, by simp, by simp⟩

/-! ### The end of an exchange (R78) -/

theorem exec_answerWindowClose_powered {s : State} (h : s.powered = true) :
    exec .answerWindowClose s = .next s.closeWindow.finish := by
  rw [exec, execAnswerWindowClose, State.act_powered _ _ h]

theorem State.closeWindow_eq {s : State} {e : Exchange} (h : s.probe.exchange = some e) : s.closeWindow =
    if s.time.baseMs < e.opened + 25 then s else s.endExchange e (State.missed e.channel .noAnswer) := by
  simp only [State.closeWindow, h, Exchange.isOpen, decide_eq_true_iff]
  rfl

/-- R78: an exchange that is not void ends with its outcome. -/
theorem State.endExchange_live {e : Exchange} (h : e.void = false) (outcome : State → State) (s : State) :
    s.endExchange e outcome = (outcome s).onProbe (ProbeUnit.pollNext s.time.baseMs) := by
  simp [State.endExchange, h]

/-- R81: the outcome of a void one counts for nothing. -/
theorem State.endExchange_void {e : Exchange} (h : e.void = true) (outcome : State → State) (s : State) :
    s.endExchange e outcome = s.onProbe (ProbeUnit.pollNext s.time.baseMs) := by
  simp [State.endExchange, h]

/-- R78, R79: the probe unit after an outcome that changes channel records only: the next poll. -/
theorem polled_channels (u : State) (now : Nat) :
    (u.onProbe (ProbeUnit.pollNext now)).finish.probe.channels = u.probe.channels := by
  rw [State.finish_probe, State.onProbe_probe, ProbeUnit.pollNext_channels]

/-- Settles O35: a round polls its first enabled channel; a window closed unanswered is one miss, and the next poll follows. -/
theorem pollingRoundsAndMisses : Obligations.PollingRoundsAndMisses := by
  refine ⟨fun s hw => ⟨fun hno => ?_, fun hidle hended hdue hnum => ?_⟩, fun s e ch hw he hch => ⟨fun hopen => ?_, fun hclosed hv => ?_⟩⟩
  · have hnot : ¬s.roundDue = true := by
      rw [roundDue_iff]
      rintro ⟨hidle, hended, hdue⟩
      rcases hno with hex | hrem | hearly
      · exact hex hidle
      · exact hrem hended
      · exact absurd hdue (Nat.not_le_of_lt hearly)
    rw [exec_pollRoundStart_powered hw, if_neg hnot]
  · obtain ⟨hchannels, -⟩ := hnum
    rw [exec_pollRoundStart_powered hw, if_pos ((roundDue_iff s).mpr ⟨hidle, hended, hdue⟩),
      State.beginRound_eq (Table.wf_of_numbered hchannels)]
  · rw [exec_answerWindowClose_powered hw, State.closeWindow_eq he, if_pos hopen]
  · rw [exec_answerWindowClose_powered hw, State.closeWindow_eq he, if_neg (Nat.not_lt_of_le hclosed), State.endExchange_live hv]
    obtain ⟨u, hu⟩ : ∃ u, u = s.missed e.channel .noAnswer := ⟨_, rfl⟩
    have hself := State.missed_self hch .noAnswer
    have hremaining : u.probe.remaining = s.probe.remaining := by rw [hu, State.missed_probe hch]
    have hstate := Channel.missed_state .noAnswer (decide ch.TurnsStale) ch
    obtain ⟨hmisses, hcause, hvalue, hsample, hresults, -⟩ := Channel.missed_fields .noAnswer (decide ch.TurnsStale) ch
    rw [← hu] at hself ⊢
    refine ⟨_, ch.missed .noAnswer (decide ch.TurnsStale), rfl, by rw [polled_channels]; exact hself, hmisses, hcause, hvalue,
      hsample, hresults, hstate, fun hs hns => ?_, fun hsame => ?_, ?_, fun hend => ?_, fun k rest ck hk hne hck hen => ?_⟩
    · have hstale : ch.TurnsStale := by
        by_contra hno
        rw [hstate, if_neg hno] at hs
        exact hns hs
      rw [decide_eq_true hstale]
      exact ⟨rfl, (State.staleMarks_missed hch .noAnswer hstale).congr rfl rfl rfl (by rw [hu]; simp)⟩
    · have hstays : ¬ch.TurnsStale := fun hstale => by
        rw [hstate, if_pos hstale] at hsame
        exact Channel.not_stale_of_turnsStale hstale hsame.symm
      rw [State.finish_parcel, State.onProbe_parcel, hu, State.missed_parcel hch _ hstays]
    · rw [State.finish_credit, State.onProbe_credit, hu, State.missed_credit hch]
    · rw [State.finish_probe, State.onProbe_probe, ProbeUnit.pollNext_nil (hremaining.trans hend)]
    · have hget : u.probe.channels.get? k = some ck := by rw [hu, State.missed_ne hch _ hne, hck]
      rw [State.finish_probe, State.onProbe_probe, ProbeUnit.pollNext_cons (hremaining.trans hk) hget hen]
      exact ⟨rfl, rfl⟩

end Sys2Proof.Machine
end

section
/-! ## Sample frames (R78, R81, R82, R83, R86, R87, R92, R111, R190) -/

namespace Sys2Proof.Machine

-- One declaration after the other, so that the text needs one thread for them and not one each.
set_option Elab.async false

/-! ### A whole frame (R190) -/

theorem exec_sampleFrame_powered {s : State} (h : s.powered = true) (bytes : List Byte) :
    exec (.sampleFrame bytes) s = .next (s.sampleBytes bytes).finish := by
  rw [exec, execSampleFrame, State.act_powered _ _ h]

/-- R190: seven bytes from the sync byte on make a whole frame. -/
theorem takeSample_whole (a t0 t1 st k0 k1 : Byte) :
    takeSample [] [0xC3, a, t0, t1, st, k0, k1] = ([0xC3, a, t0, t1, st, k0, k1], true) := by simp [takeSample]

/-- R78, R190: a whole frame inside the window ends the exchange. -/
theorem State.sampleBytes_whole {s : State} {e : Exchange} (he : s.probe.exchange = some e) (hb : e.bytes = [])
    (hopen : s.time.baseMs < e.opened + 25) (a t0 t1 st k0 k1 : Byte) : s.sampleBytes [0xC3, a, t0, t1, st, k0, k1] =
      s.endExchange e (State.judgeFrame e [0xC3, a, t0, t1, st, k0, k1]) := by
  have hwin : e.isOpen s.time.baseMs = true := decide_eq_true hopen
  simp only [State.sampleBytes, he, hwin, hb, takeSample_whole, if_true]

/-- R78: a channel whose last sample frame carried the fault flag. -/
def Channel.faulted (stamp : Nat) (ch : Channel) : Channel := { ch with lastFault := some stamp }

/-- R78, R190: what a whole frame is judged by. -/
theorem State.judgeFrame_eq (s : State) (e : Exchange) (a t0 t1 st k0 k1 : Byte) :
    s.judgeFrame e [0xC3, a, t0, t1, st, k0, k1] =
      if crc [a, t0, t1, st] = k1 ++ k0 ∧ a.toNat = e.address then
        if st.getLsbD 0 then
          (s.onChannel e.channel (Channel.faulted s.time.lineTime)).missed e.channel .sensorFault
        else s.goodSample e.channel (leInt [t0, t1]) s.time.lineTime
      else s.missed e.channel .badFrame := rfl

/-! ### A good sample (R82, R86, R87) -/

/-- R86: the sample result of a high level, by the result held before. -/
theorem judgeHigh_iff (held : Bool) (level : Int) (hysteresis : Nat) (v : Int) :
    judgeHigh held level hysteresis v = true ↔ if held = true then level - hysteresis ≤ v else level ≤ v := by
  cases held <;> simp [judgeHigh]

/-- R86: the sample result of a low level, by the result held before. -/
theorem judgeLow_iff (held : Bool) (level : Int) (hysteresis : Nat) (v : Int) :
    judgeLow held level hysteresis v = true ↔ if held = true then v ≤ level + hysteresis else v ≤ level := by
  cases held <;> simp [judgeLow]

/-- R82: a bound channel is one of a BLANCH zone. -/
theorem watchesBlanch_iff (u : TrackUnit) (c : Nat) :
    u.watchesBlanch c = true ↔ ∃ z ∈ u.zoneMap, z.kind = .blanch ∧ z.channel = some c := by
  simp [TrackUnit.watchesBlanch]

/-- R82, steps 1 to 4: the record written, and STALE CLEARED offered where the channel was STALE. -/
def State.sampled (s : State) (c : Nat) (ch : Channel) (raw : Int) (stamp : Nat) : State :=
  if decide (ch.state = .stale) then
    (s.onChannel c (Channel.sample raw stamp)).notify (.staleCleared c (clamp (raw + ch.offset)) stamp)
  else s.onChannel c (Channel.sample raw stamp)

/-- R82, step 5: the sample judged and the conditions formed. -/
def State.judged (s : State) (c : Nat) (ch : Channel) (raw : Int) (stamp : Nat) : State :=
  (s.sampled c ch raw stamp).reform c .sample stamp

/-- R82, R87: the record of a channel after a good sample. -/
def Channel.judged (s : State) (c : Nat) (raw : Int) (stamp : Nat) (ch : Channel) : Channel :=
  (ch.sample raw stamp).reformed (s.formed c (ch.sample raw stamp)) ch.conditions

/-- R82, step 6: the sample of a channel bound to a BLANCH zone reaches the credit unit. -/
theorem State.goodSample_eq {s : State} {c : Nat} {ch : Channel} (h : s.probe.channels.get? c = some ch) (raw : Int) (stamp : Nat) :
    s.goodSample c raw stamp = if s.track.watchesBlanch c then
      (s.judged c ch raw stamp).creditSample c (clamp (raw + ch.offset)) stamp (decide (ch.state = .stale))
        else s.judged c ch raw stamp := by
  have htrack : (s.judged c ch raw stamp).track = s.track := by
    unfold State.judged State.sampled
    split <;> simp [State.onChannel]
  rw [← htrack]
  simp only [State.goodSample, h]
  rfl

section Sampled
variable (s : State) (c : Nat) (ch : Channel) (raw : Int) (stamp : Nat)

/-- R82: before the conditions are formed a good sample changes one channel record and the notices. -/
theorem State.sampled_frame : s.sampled c ch raw stamp =
    { s.onChannel c (Channel.sample raw stamp) with link := (s.sampled c ch raw stamp).link } := by
  unfold State.sampled
  split
  · exact State.notify_frame ..
  · rfl

theorem State.sampled_probe : (s.sampled c ch raw stamp).probe = (s.onChannel c (Channel.sample raw stamp)).probe := by
  rw [State.sampled_frame]

/-- R82: a good sample reads no route and changes none. -/
theorem State.sampled_route : (s.sampled c ch raw stamp).route = s.route := by
  rw [State.route_congr (s.sampled_probe c ch raw stamp)]
  exact s.route_onChannel c fun _ => ⟨rfl, rfl⟩

theorem State.sampled_formed (ch' : Channel) : (s.sampled c ch raw stamp).formed c ch' = s.formed c ch' := by
  have hexternal : (s.sampled c ch raw stamp).probe.external = s.probe.external := by
    rw [State.sampled_probe]
    rfl
  rw [State.formed, State.forced_congr hexternal]
  rfl

/-- R82, R87: up to the credit unit a good sample leaves every other block but parcels, line and notices. -/
theorem State.judged_keeps : (s.judged c ch raw stamp).credit = s.credit ∧ (s.judged c ch raw stamp).track = s.track ∧
    (s.judged c ch raw stamp).time.baseMs = s.time.baseMs ∧ (s.judged c ch raw stamp).draws = s.draws := by
  have hframe := s.sampled_frame c ch raw stamp
  refine ⟨?_, ?_, ?_, ?_⟩
  · rw [State.judged, State.reform_credit, hframe]
    rfl
  · rw [State.judged, State.reform_track, hframe]
    rfl
  · rw [State.judged, State.reform_time, hframe]
    rfl
  · rw [State.judged, State.reform_draws, hframe]
    rfl

theorem State.judged_probe_frame : (s.judged c ch raw stamp).probe =
    { s.probe with channels := (s.judged c ch raw stamp).probe.channels } := by
  have hprobe := s.sampled_probe c ch raw stamp
  rw [State.judged, State.reform_probe_frame, hprobe]
  rfl

variable {s c ch}

/-- R82: STALE CLEARED is queued where the channel was STALE. -/
theorem State.judged_queued (hs : ch.state = .stale) (hroom : Room s 1) :
    Queued (s.judged c ch raw stamp) (.staleCleared c (clamp (raw + ch.offset)) stamp) := by
  refine Queued.reform ?_ ..
  rw [State.sampled, if_pos (decide_eq_true hs)]
  exact State.notify_queued (s := s.onChannel c _) _ hroom

variable (h : s.probe.channels.get? c = some ch)
include h

theorem State.sampled_self : (s.sampled c ch raw stamp).probe.channels.get? c = some (ch.sample raw stamp) := by
  rw [State.sampled_probe, State.get?_onChannel, if_pos rfl, h]
  rfl

/-- R82, R87: the channel record after a good sample. -/
theorem State.judged_self : (s.judged c ch raw stamp).probe.channels.get? c = some (ch.judged s c raw stamp) := by
  rw [State.judged, State.reform_self (State.sampled_self raw stamp h), State.sampled_formed]
  rfl

/-- R87, R92: the conditions that begin to hold mark the parcels. -/
theorem State.judged_marks : LevelMarks s (s.judged c ch raw stamp) c ch.conditions (ch.judged s c raw stamp).conditions := by
  have hframe := s.sampled_frame c ch raw stamp
  have hmarks := State.levelMarks_reform (State.sampled_self raw stamp h) .sample stamp
  rw [State.sampled_formed] at hmarks
  exact hmarks.since (by rw [hframe]; rfl) (by rw [hframe]; rfl) (s.sampled_route ..)

end Sampled

/-- R82, step 6: the credit unit leaves probe unit and link. -/
theorem State.goodSample_judged {s : State} {c : Nat} {ch : Channel} (h : s.probe.channels.get? c = some ch) (raw : Int)
    (stamp : Nat) : (s.goodSample c raw stamp).probe = (s.judged c ch raw stamp).probe ∧
      (s.goodSample c raw stamp).link = (s.judged c ch raw stamp).link := by
  rw [State.goodSample_eq h]
  split
  · rw [State.creditSample_frame]
    exact ⟨rfl, rfl⟩
  · exact ⟨rfl, rfl⟩

/-- R82, step 6: what a good sample hands to the credit unit, counted up to a state with the same credit, parcels and draws. -/
theorem State.goodSample_credit {s t : State} {c : Nat} {ch : Channel} (h : s.probe.channels.get? c = some ch) {raw : Int}
    {stamp : Nat} (hc : t.credit = (s.goodSample c raw stamp).credit) (hp : t.parcel = (s.goodSample c raw stamp).parcel)
    (hd : t.draws = (s.goodSample c raw stamp).draws) :
    ((∃ z ∈ s.track.zoneMap, z.kind = .blanch ∧ z.channel = some c) →
      ∃ w, w = (s.judged c ch raw stamp).creditSample c (clamp (raw + ch.offset)) stamp (decide (ch.state = .stale)) ∧
        t.credit = w.credit ∧ t.parcel = w.parcel ∧ t.draws = w.draws) ∧
    ((∀ z ∈ s.track.zoneMap, z.kind = .blanch → z.channel ≠ some c) →
      t.credit = s.credit ∧ t.parcel = (s.judged c ch raw stamp).parcel ∧ t.draws = s.draws) := by
  obtain ⟨hcredit, -, -, hdraws⟩ := s.judged_keeps c ch raw stamp
  rw [hc, hp, hd, State.goodSample_eq h]
  refine ⟨fun hblanch => ?_, fun hother => ?_⟩
  · rw [if_pos ((watchesBlanch_iff ..).mpr hblanch)]
    exact ⟨_, rfl, rfl, rfl, rfl⟩
  · have hno : ¬s.track.watchesBlanch c = true := by
      rw [watchesBlanch_iff]
      rintro ⟨z, hz, hkind, hchannel⟩
      exact hother z hz hkind hchannel
    rw [if_neg hno]
    exact ⟨hcredit, rfl, hdraws⟩

/-! ### The end of the exchange (R78) -/

/-- R78, R79: after an outcome that changes channel records only, the next exchange is of a channel the round still has. -/
theorem polled_exchange_ne {s u : State} {e : Exchange} {now : Nat} (hu : u.probe.remaining = s.probe.remaining)
    (hno : e.channel ∉ s.probe.remaining) : (u.onProbe (ProbeUnit.pollNext now)).finish.probe.exchange ≠ some e := by
  intro he
  rw [State.finish_probe, State.onProbe_probe] at he
  exact hno (hu ▸ ProbeUnit.mem_of_pollNext he)

/-- R83, R111: what a miss of channel `c` leaves of credit and parcels, counted from a state it differs from in records only. -/
theorem missed_outcome {s s' t : State} {c : Nat} {ch : Channel} (h : s'.probe.channels.get? c = some ch) (cause : MissCause)
    (hs : s'.credit = s.credit ∧ s'.parcel = s.parcel ∧ s'.track = s.track ∧ s'.route = s.route)
    (htc : t.credit = (s'.missed c cause).credit) (htp : t.parcel = (s'.missed c cause).parcel) :
    t.credit = s.credit ∧
      ((ch.missed cause (decide ch.TurnsStale)).state = ch.state → t.parcel = s.parcel) ∧
      (2 ≤ ch.misses → ch.state = .waiting ∨ ch.state = .live →
        (ch.missed cause (decide ch.TurnsStale)).state = .stale ∧ StaleMarks s t c) := by
  obtain ⟨hcredit, hparcel, htrack, hroute⟩ := hs
  rw [Channel.missed_state]
  refine ⟨by rw [htc, State.missed_credit h, hcredit], fun hsame => ?_, fun htwo hpolled => ?_⟩
  · have hstays : ¬ch.TurnsStale := fun hstale => by
      rw [if_pos hstale] at hsame
      exact Channel.not_stale_of_turnsStale hstale hsame.symm
    rw [htp, State.missed_parcel h _ hstays, hparcel]
  · exact ⟨if_pos ⟨htwo, hpolled⟩, (State.staleMarks_missed h cause ⟨htwo, hpolled⟩).congr hparcel htrack hroute htp.symm⟩

/-- Settles O36: a void exchange counts for nothing; otherwise the frame is a good sample, a sensor fault or a bad frame. -/
theorem sampleFramesAreTaken : Obligations.SampleFramesAreTaken := by
  intro s e ch a t0 t1 st k0 k1 hw he hb hopen hch
  rw [exec_sampleFrame_powered hw, State.sampleBytes_whole he hb hopen]
  refine ⟨fun hv => ?_, fun hv => ?_⟩
  · rw [State.endExchange_void hv]
    exact ⟨_, rfl, by apply State.ext_fields <;> simp, polled_channels s _⟩
  rw [State.endExchange_live hv, State.judgeFrame_eq]
  by_cases hframe : crc [a, t0, t1, st] = k1 ++ k0 ∧ a.toNat = e.address
  · obtain ⟨hcrc, haddr⟩ := hframe
    rw [if_pos ⟨hcrc, haddr⟩]
    cases hst : st.getLsbD 0 with
    | true =>
      have hget : (s.onChannel e.channel (Channel.faulted s.time.lineTime)).probe.channels.get? e.channel =
          some (ch.faulted s.time.lineTime) := by
        rw [State.get?_onChannel, if_pos rfl, hch]
        rfl
      have hroute : (s.onChannel e.channel (Channel.faulted s.time.lineTime)).route = s.route :=
        s.route_onChannel _ fun _ => ⟨rfl, rfl⟩
      have hself := State.missed_self hget .sensorFault
      have hremaining : ((s.onChannel e.channel (Channel.faulted s.time.lineTime)).missed e.channel .sensorFault).probe.remaining =
          s.probe.remaining := by
        rw [State.missed_probe hget]
        rfl
      obtain ⟨hmisses, hcause, hvalue, -, -, hfault⟩ :=
        Channel.missed_fields .sensorFault (decide ch.TurnsStale) (ch.faulted s.time.lineTime)
      rw [if_pos rfl]
      exact ⟨_, _, rfl, by rw [polled_channels]; exact hself, polled_exchange_ne hremaining,
        fun _ _ hno => Bool.noConfusion hno, fun _ _ _ => ⟨hfault, hcause, hmisses, hvalue⟩,
        fun _ => missed_outcome hget .sensorFault ⟨rfl, rfl, rfl, hroute⟩ (by simp) (by simp),
        fun hbad => absurd ⟨hcrc, haddr⟩ hbad⟩
    | false =>
      obtain ⟨hprobe, hlink⟩ := State.goodSample_judged hch (leInt [t0, t1]) s.time.lineTime
      have hself := State.judged_self (leInt [t0, t1]) s.time.lineTime hch
      rw [← hprobe] at hself
      have hremaining : (s.goodSample e.channel (leInt [t0, t1]) s.time.lineTime).probe.remaining = s.probe.remaining := by
        rw [hprobe, State.judged_probe_frame]
      obtain ⟨hcredit, htrack, hms, hdraws⟩ := s.judged_keeps e.channel ch (leInt [t0, t1]) s.time.lineTime
      rw [if_neg (by simp)]
      refine ⟨_, _, rfl, by rw [polled_channels]; exact hself, polled_exchange_ne hremaining, fun _ _ _ v hv => ?_,
        fun _ _ hno => Bool.noConfusion hno, fun hno => absurd ⟨hcrc, haddr, rfl⟩ hno, fun hbad => absurd ⟨hcrc, haddr⟩ hbad⟩
      obtain rfl : v = clamp (leInt [t0, t1] + ch.offset) := hv
      refine ⟨rfl, rfl, rfl, rfl, decide_eq_true_iff, judgeHigh_iff .., judgeHigh_iff .., judgeLow_iff .., judgeLow_iff ..,
        fun l => State.look_formed .., fun l => Channel.look_reformed .., fun hs hroom => ?_, _,
        State.judged_marks _ _ hch, hcredit, htrack, hms, hdraws, State.goodSample_credit hch (by simp) (by simp) (by simp)⟩
      rw [queued_finish]
      exact (queued_congr (congrArg LinkUnit.notices hlink)).mpr (State.judged_queued _ _ hs hroom)
  · have hself := State.missed_self hch .badFrame
    have hremaining : (s.missed e.channel .badFrame).probe.remaining = s.probe.remaining := by rw [State.missed_probe hch]
    obtain ⟨hmisses, hcause, hvalue, -, -, hfault⟩ := Channel.missed_fields .badFrame (decide ch.TurnsStale) ch
    rw [if_neg hframe]
    exact ⟨_, _, rfl, by rw [polled_channels]; exact hself, polled_exchange_ne hremaining,
      fun hcrc haddr => absurd ⟨hcrc, haddr⟩ hframe, fun hcrc haddr => absurd ⟨hcrc, haddr⟩ hframe,
      fun _ => missed_outcome hch .badFrame ⟨rfl, rfl, rfl, rfl⟩ (by simp) (by simp), fun _ => ⟨hcause, hmisses, hvalue, hfault⟩⟩

end Sys2Proof.Machine
end

section
/-! ## Edges of the external trip inputs and of the commission key (R87, R89, R91, R171) -/

namespace Sys2Proof.Machine

-- One declaration after the other, so that the text needs one thread for them and not one each.
set_option Elab.async false

/-- R29: the oldest edge taken is delivered when it is of the input. -/
theorem State.deliver_head {s : State} {e : Edge} {rest : List Edge} (h : s.time.edges = e :: rest) (owner : Edge → State → State) :
    s.deliver e.input owner = owner e (s.onTime fun u => { u with edges := rest }) :=
  State.deliver_some s e.input owner e rest (by simp [h, takeEdgeFrom])

theorem exec_commissionKeyEdge_head {s : State} {e : Edge} {rest : List Edge} (hw : s.powered = true)
    (h : s.time.edges = e :: rest) (hi : e.input = .commissionKey) : exec .commissionKeyEdge s =
      .next ((s.onTime fun u => { u with edges := rest }).onComm fun u => { u with key := e.rising }).finish := by
  rw [exec, execCommissionKeyEdge, State.act_powered _ _ hw, ← hi, State.deliver_head h]

/-- R87: an input with the level of an edge, before any condition is formed. -/
def State.levelTaken (s : State) (i : Nat) (x : ExternalTrip) (rising : Bool) : State :=
  s.onProbe fun u => { u with external := u.external.put i { x with level := rising } }

/-- R87: the level is taken, and the conditions of the bound channel are formed again. -/
theorem State.externalEdge_eq {s : State} {i : Nat} {x : ExternalTrip} (h : s.probe.external.get? i = some x) (rising : Bool)
    (stamp : Nat) : s.externalEdge i rising stamp = (s.levelTaken i x rising).reformBound stamp x.binding := by
  simp only [State.externalEdge, h]
  rfl

theorem exec_externalTripEdge_head {s : State} {i : Nat} {e : Edge} {rest : List Edge} {x : ExternalTrip} (hw : s.powered = true)
    (h1 : 1 ≤ i) (h2 : i ≤ 2) (h : s.time.edges = e :: rest) (hi : e.input = .externalTrip i)
    (hx : s.probe.external.get? i = some x) : exec (.externalTripEdge i) s =
      .next (((s.onTime fun u => { u with edges := rest }).levelTaken i x e.rising).reformBound e.stamp x.binding).finish := by
  have hedge := State.externalEdge_eq (s := s.onTime fun u => { u with edges := rest }) hx e.rising e.stamp
  rw [exec, execExternalTripEdge, if_pos (by simp [Instr.wellFormed, h1, h2]), State.act_powered _ _ hw, ← hi, State.deliver_head h,
    hedge]

/-- R87: an asserted input forces the condition it is bound to. -/
theorem State.forced_levelTaken (s : State) (i : Nat) {x : ExternalTrip} {c : Nat} {l : LevelName} (h : x.binding = some (c, l)) :
    (s.levelTaken i x true).forced c l = true := by
  have hmem : (i, { x with level := true }) ∈ (s.levelTaken i x true).probe.external := Table.mem_of_get? (Table.get?_put_self ..)
  exact List.any_eq_true.mpr ⟨_, hmem, by simp [h]⟩

/-- R91: what TRIP says of a channel before its conditions are replaced. -/
theorem State.tripChannel_form (s : State) {c : Nat} {ch : Channel} (h : s.probe.channels.get? c = some ch) (now : LevelMap Bool)
    (l : LevelName) : (s.form c now).tripChannel (.level c l) = some ⟨ch.lastValue, ch.overRange, ch.state, none⟩ := by
  simp [State.tripChannel, State.form, h]

/-- R91, R185: with room for the notices of the channel's events a level that begins to hold queues its TRIP. -/
theorem State.reform_queued {s : State} {c : Nat} {ch : Channel} (h : s.probe.channels.get? c = some ch) (cause : TripCause)
    (time : Nat) {l : LevelName} (hnow : (s.formed c ch).look l = true) (hbefore : ch.conditions.look l = false)
    (hn : (ch.routes.look l).notify = true) (hroom : Room s 7) : Queued (s.reform c cause time)
      (.trip (.level c l) cause (some ⟨ch.lastValue, ch.overRange, ch.state, none⟩) 0 (ch.routes.look l) time) := by
  have hall : l ∈ LevelName.all := by cases l <;> decide
  have hroute : s.route (.level c l) = ch.routes.look l := by simp [State.route, h]
  have hfour : LevelName.all.length = 4 := rfl
  have hhalt := State.haltRoom_le (s.form c (s.formed c ch))
  have hroom' : Room (s.form c (s.formed c ch)) 7 := hroom
  have hqueued := fireLevels_queued (s := s.form c (s.formed c ch)) c cause time hnow hbefore hall
    (by rwa [State.route_form, hroute]) (hroom'.mono (by omega))
  rwa [State.tripChannel_form s h, State.route_form, hroute, ← State.reform_some h] at hqueued

/-- Settles O38: the level is taken, then the bound channel is formed again; the key edge is one field. -/
theorem tripAndKeyEdges : Obligations.TripAndKeyEdges := by
  refine ⟨fun s i e rest x hw h1 h2 hedges hi hx => ?_, fun s e rest hw hedges hi => exec_commissionKeyEdge_head hw hedges hi⟩
  rw [exec_externalTripEdge_head hw h1 h2 hedges hi hx]
  refine ⟨fun hb => ?_, fun c l ch hb hch => ?_⟩
  · have hnone : ∀ u : State, u.reformBound e.stamp x.binding = u := fun u => by rw [hb]; rfl
    rw [hnone]
    rfl
  obtain ⟨u, hu⟩ : ∃ u, u = (s.onTime fun v => { v with edges := rest }).levelTaken i x e.rising := ⟨_, rfl⟩
  have hget : u.probe.channels.get? c = some ch := by rw [hu]; exact hch
  have hexternal : u.probe.external = s.probe.external.put i { x with level := e.rising } := by rw [hu]; rfl
  have hedges' : u.time.edges = rest := by rw [hu]; rfl
  have hforced : e.rising = true → u.forced c l = true := fun hr => by
    rw [hu, hr]
    exact State.forced_levelTaken _ i hb
  have hbound : u.reformBound e.stamp x.binding = u.reform c .external e.stamp := by rw [hb]; rfl
  have hrising : e.rising = true → (u.formed c ch).look l = true := fun hr => by
    rw [State.look_formed, hforced hr, Bool.or_true]
  have hself := State.reform_self hget .external e.stamp
  rw [← hu, hbound]
  refine ⟨_, ch.reformed (u.formed c ch) ch.conditions, rfl, ?_, ?_, ?_, rfl, rfl, fun m => ?_, fun m => Channel.look_reformed ..,
    hrising, fun hr hbefore hn hroom => ?_⟩
  · rw [State.finish_probe, State.reform_external, hexternal]
  · rw [State.finish_time, State.reform_time]
    exact hedges'
  · rw [State.finish_probe]
    exact hself
  · rw [State.forced_congr ((congrArg ProbeUnit.external (State.finish_probe _)).trans (u.reform_external ..))]
    exact State.look_formed ..
  · have hroom' : Room u 7 := (room_congr (by rw [hu]; rfl)).mpr (Room.mono hroom (by omega))
    rw [queued_finish]
    exact State.reform_queued hget .external e.stamp (hrising hr) hbefore hn hroom'

end Sys2Proof.Machine
end

section
/-! ## RATE TABLE SET, RECIPE THERMAL SET and RECIPE PACKING SET (R101 to R104, R164) -/

namespace Sys2Proof.Machine

-- One declaration after the other, so that the text needs one thread for them and not one each.
set_option Elab.async false

/-! ### An accepted edit of the credit unit (R163, R164) -/

/-- R163, R164: the state after an accepted edit of the credit unit has been answered. -/
def State.creditEdited (s : State) (f : Frame) (b : ReplyBody) (g : CreditUnit → CreditUnit) : State :=
  (s.onCredit g).edited.replied f b

theorem State.creditEdited_frame (s : State) (f : Frame) (b : ReplyBody) (g : CreditUnit → CreditUnit) :
    s.creditEdited f b g = { s with
      credit := g s.credit, comm := (s.creditEdited f b g).comm, link := (s.creditEdited f b g).link
      pins := (s.creditEdited f b g).pins } := by
  apply State.ext_fields <;> simp [State.creditEdited]

/-- R163, R164: an accepted edit of the credit unit is an edit, is answered, and changes no other settings. -/
theorem State.creditEdited_made {s : State} {f : Frame} (h : s.link.oldest = some f) (b : ReplyBody) (g : CreditUnit → CreditUnit) :
    Edited s (s.creditEdited f b g) ∧ Replied (s.creditEdited f b g) f b ∧ s.creditEdited f b g = { s with
      credit := g s.credit, comm := (s.creditEdited f b g).comm, link := (s.creditEdited f b g).link
      pins := (s.creditEdited f b g).pins } :=
  ⟨edited_answered rfl f b, edited_replied (u := s.onCredit g) h rfl b, s.creditEdited_frame f b g⟩

/-! ### RATE TABLE SET (R100, R101) -/

/-- R100: the floors rise strictly and the weights never fall, between any two bands. -/
abbrev RisingBands (bands : List Band) : Prop := bands.Pairwise fun b b' => b.floor < b'.floor ∧ b.weight ≤ b'.weight

/-- R101: what is asked of neighbouring bands holds between any two. -/
theorem bandsRise_iff (bands : List Band) : bandsRise bands = true ↔ RisingBands bands := by
  induction bands with
  | nil => simp [bandsRise]
  | cons b bs ih =>
    cases bs with
    | nil => simp [bandsRise]
    | cons b' bs =>
      simp only [bandsRise, Bool.and_eq_true, decide_eq_true_eq, ih, RisingBands, List.pairwise_cons (a := b)]
      refine and_congr_left fun hrest => ⟨fun ⟨hfloor, hweight⟩ x hx => ?_, fun h => h b' List.mem_cons_self⟩
      rcases List.mem_cons.mp hx with rfl | hx
      · exact ⟨hfloor, hweight⟩
      · obtain ⟨hfloor', hweight'⟩ := List.rel_of_pairwise_cons hrest hx
        exact ⟨hfloor.trans hfloor', hweight.trans hweight'⟩

theorem ratesOk_iff (bands : List Band) : ratesOk bands = true ↔
    1 ≤ bands.length ∧ bands.length ≤ 24 ∧ (∀ b ∈ bands, -500 ≤ b.floor ∧ b.floor ≤ 1500) ∧ RisingBands bands := by
  simp only [ratesOk, Bool.and_eq_true, decide_eq_true_eq, List.all_eq_true, bandsRise_iff, and_assoc]

theorem exec_rateTableSet_taken {s : State} {f : Frame} {k : Byte} {rest : List Byte} (h : Taken s .rateTableSet f)
    (hf : f.payload = k :: rest) (hlen : rest.length = 4 * k.toNat) :
    exec .rateTableSet s = .next ((doRateTableSet (bandEntries rest) s).1.replied f (doRateTableSet (bandEntries rest) s).2) :=
  State.act_handOn s .rateTableSet f parseRateTable doRateTableSet h _ (by rw [hf]; exact if_pos hlen)

/-- R101, R164: RATE TABLE SET, in its cases. -/
theorem doRateTableSet_cases (bands : List Band) (s : State) :
    (¬ratesOk bands = true → doRateTableSet bands s = s.refuse .badValue) ∧
    (ratesOk bands = true → CommissionInFlight s → doRateTableSet bands s = s.refuse .busy) ∧
    (ratesOk bands = true → ¬CommissionInFlight s →
      doRateTableSet bands s = ((s.onCredit fun u => { u with rates := bands }).edited, .rateTable bands)) := by
  unfold doRateTableSet
  refine ⟨fun hbad => if_pos (by simpa using hbad), fun hok hbusy => ?_, fun hok hfree => ?_⟩
  · rw [if_neg (by simpa using hok), if_pos ((commissioning_iff s).mpr hbusy)]
  · rw [if_neg (by simpa using hok), if_neg (commissioning_false hfree)]

/-! ### The recipes (R102 to R104) -/

theorem CreditUnit.recipe_of_get? {u : CreditUnit} {n : Nat} {r : Recipe} (h : u.recipes.get? n = some r) : u.recipe n = r := by
  rw [CreditUnit.recipe, h, Option.getD_some]

theorem ThermalSet.ok_iff (d : ThermalSet) : d.ok = true ↔
    d.recipe ≤ 15 ∧ 1 ≤ d.requiredCredit ∧ d.requiredCredit ≤ 16000000 ∧ 1 ≤ d.minDwell ∧ d.minDwell ≤ 14400 ∧
      -500 ≤ d.maxExit ∧ d.maxExit ≤ 1500 ∧ 60 ≤ d.exposureLimit ∧ d.exposureLimit ≤ 7200 := by
  simp only [ThermalSet.ok, Bool.and_eq_true, decide_eq_true_eq, and_assoc]

theorem PackingSet.ok_iff (d : PackingSet) : d.ok = true ↔
    d.recipe ≤ 15 ∧ 1 ≤ d.bagsPerPallet ∧ d.bagsPerPallet ≤ 120 ∧ d.bagMin ≤ d.bagMax := by
  simp only [PackingSet.ok, Bool.and_eq_true, decide_eq_true_eq, and_assoc]

theorem exec_recipeThermalSet_taken {s : State} {f : Frame} {r c0 c1 c2 d0 d1 e0 e1 x0 x1 : Byte}
    (h : Taken s .recipeThermalSet f) (hf : f.payload = [r, c0, c1, c2, d0, d1, e0, e1, x0, x1]) {d : ThermalSet}
    (hd : d = ⟨r.toNat, leNat [c0, c1, c2], leNat [d0, d1], leInt [e0, e1], leNat [x0, x1]⟩) :
    exec .recipeThermalSet s = .next ((doRecipeThermalSet d s).1.replied f (doRecipeThermalSet d s).2) :=
  State.act_handOn s .recipeThermalSet f parseThermal doRecipeThermalSet h _ (by rw [hf, hd]; rfl)

theorem exec_recipePackingSet_taken {s : State} {f : Frame} {r a0 a1 b0 b1 n : Byte} (h : Taken s .recipePackingSet f)
    (hf : f.payload = [r, a0, a1, b0, b1, n]) {d : PackingSet} (hd : d = ⟨r.toNat, leNat [a0, a1], leNat [b0, b1], n.toNat⟩) :
    exec .recipePackingSet s = .next ((doRecipePackingSet d s).1.replied f (doRecipePackingSet d s).2) :=
  State.act_handOn s .recipePackingSet f parsePacking doRecipePackingSet h _ (by rw [hf, hd]; rfl)

/-- R103, R164: RECIPE THERMAL SET, in its cases. -/
theorem doRecipeThermalSet_cases (d : ThermalSet) (s : State) :
    (¬d.ok = true → doRecipeThermalSet d s = s.refuse .badValue) ∧
    (d.ok = true → CommissionInFlight s → doRecipeThermalSet d s = s.refuse .busy) ∧
    ∀ old, d.ok = true → ¬CommissionInFlight s → s.credit.recipes.get? d.recipe = some old → doRecipeThermalSet d s =
      ((s.onCredit fun u => { u with recipes := u.recipes.put d.recipe (old.withThermal d) }).edited, .recipe (old.withThermal d)) := by
  unfold doRecipeThermalSet
  refine ⟨fun hbad => if_pos (by simpa using hbad), fun hok hbusy => ?_, fun old hok hfree hold => ?_⟩
  · rw [if_neg (by simpa using hok), if_pos ((commissioning_iff s).mpr hbusy)]
  · rw [if_neg (by simpa using hok), if_neg (commissioning_false hfree), CreditUnit.recipe_of_get? hold]

/-- R104: a recipe with its packing part replaced. -/
def Recipe.withPacking (r : Recipe) (d : PackingSet) : Recipe :=
  { r with bagMin := d.bagMin, bagMax := d.bagMax, bagsPerPallet := d.bagsPerPallet }

/-- R104: RECIPE PACKING SET, in its cases. -/
theorem doRecipePackingSet_cases (d : PackingSet) (s : State) :
    (¬d.ok = true → doRecipePackingSet d s = s.refuse .badValue) ∧
    ∀ old, d.ok = true → s.credit.recipes.get? d.recipe = some old → doRecipePackingSet d s =
      (s.onCredit fun u => { u with recipes := u.recipes.put d.recipe (old.withPacking d) }, .recipe (old.withPacking d)) := by
  unfold doRecipePackingSet
  refine ⟨fun hbad => if_pos (by simpa using hbad), fun old hok hold => ?_⟩
  rw [if_neg (by simpa using hok), CreditUnit.recipe_of_get? hold]
  rfl

/-- Settles O39: the checks of each request in their order, then one field of the credit unit written and answered. -/
theorem ratesAndRecipesAreSet : Obligations.RatesAndRecipesAreSet := by
  refine ⟨fun s f k rest bands h hf hlen hbands ok hok => ?_, fun s f r c0 c1 c2 d0 d1 e0 e1 x0 x1 h hf ok hok => ?_,
    fun s f r a0 a1 b0 b1 n h hf ok hok => ?_⟩
  · have hexec := exec_rateTableSet_taken h hf hlen
    obtain ⟨⟨-, -, holdest, -⟩, -⟩ := h
    obtain ⟨hbad, hbusy, hdone⟩ := doRateTableSet_cases bands s
    rw [hexec, ← hbands, hok, ← ratesOk_iff]
    refine ⟨fun hr => ?_, fun hr hc => ?_, fun hr hfree => ?_⟩
    · rw [hbad hr]
      rfl
    · rw [hbusy hr hc]
      rfl
    · rw [hdone hr hfree]
      exact ⟨_, rfl, State.creditEdited_made holdest _ _⟩
  · obtain ⟨d, hd⟩ : ∃ d : ThermalSet,
        d = ⟨r.toNat, leNat [c0, c1, c2], leNat [d0, d1], leInt [e0, e1], leNat [x0, x1]⟩ := ⟨_, rfl⟩
    have hexec := exec_recipeThermalSet_taken h hf hd
    obtain ⟨⟨-, -, holdest, -⟩, -⟩ := h
    have hok' : ok ↔ d.ok = true := by rw [d.ok_iff, hok, hd]
    obtain ⟨hbad, hbusy, hdone⟩ := doRecipeThermalSet_cases d s
    rw [hexec, hok']
    refine ⟨fun hr => ?_, fun hr hc => ?_, fun old new hr hfree hget hnew => ?_⟩
    · rw [hbad hr]
      rfl
    · rw [hbusy hr hc]
      rfl
    · have hrecipe : r.toNat = d.recipe := by rw [hd]
      have hnew' : new = old.withThermal d := by rw [hnew, hd]; rfl
      rw [hrecipe] at hget ⊢
      rw [hdone old hr hfree hget, hnew']
      exact ⟨_, rfl, State.creditEdited_made holdest _ _⟩
  · obtain ⟨d, hd⟩ : ∃ d : PackingSet, d = ⟨r.toNat, leNat [a0, a1], leNat [b0, b1], n.toNat⟩ := ⟨_, rfl⟩
    have hok' : ok ↔ d.ok = true := by rw [d.ok_iff, hok, hd]
    obtain ⟨hbad, hdone⟩ := doRecipePackingSet_cases d s
    rw [exec_recipePackingSet_taken h hf hd, hok']
    refine ⟨fun hr => ?_, fun old new hr hget hnew => ?_⟩
    · rw [hbad hr]
      rfl
    · have hrecipe : r.toNat = d.recipe := by rw [hd]
      have hnew' : new = old.withPacking d := by rw [hnew, hd]; rfl
      rw [hrecipe] at hget ⊢
      rw [hdone old hr hget, hnew']
      rfl

end Sys2Proof.Machine
end

section
/-! ## The weight of a temperature, and a sample at the credit unit (R100, R105, R107 to R110) -/

namespace Sys2Proof.Machine

-- One declaration after the other, so that the text needs one thread for them and not one each.
set_option Elab.async false

/-! ### The weight of a temperature (R100) -/

/-- R100: no band is found exactly below every floor. -/
theorem bandFor_eq_none_iff (bands : List Band) (v : Int) : bandFor bands v = none ↔ ∀ b ∈ bands, v < b.floor := by
  induction bands with
  | nil => simp [bandFor]
  | cons b bs ih =>
    rw [bandFor, List.forall_mem_cons, ← ih]
    cases bandFor bs v with
    | none => simp
    | some b' => simp only [reduceCtorEq, and_false, iff_false]; split <;> simp

/-- R100: the band found is one of the table at or below the temperature, and none such has a greater floor. -/
theorem bandFor_spec {bands : List Band} {v : Int} {b : Band} (h : bandFor bands v = some b) :
    b ∈ bands ∧ b.floor ≤ v ∧ ∀ b' ∈ bands, b'.floor ≤ v → b'.floor ≤ b.floor := by
  induction bands generalizing b with
  | nil => nomatch h
  | cons a bs ih =>
    rw [bandFor] at h
    split at h
    · next b' hb' =>
      obtain ⟨hmem, hle, hmax⟩ := ih hb'
      split at h <;> cases h
      · next hhead => exact ⟨List.mem_cons_self, hhead.1, List.forall_mem_cons.mpr ⟨fun _ => le_rfl, fun x hx hv =>
          (hmax x hx hv).trans hhead.2.le⟩⟩
      · next hhead => exact ⟨List.mem_cons_of_mem _ hmem, hle, List.forall_mem_cons.mpr ⟨fun hv =>
          not_lt.mp fun hlt => hhead ⟨hv, hlt⟩, hmax⟩⟩
    · next hnone =>
      split at h <;> cases h
      next hle =>
      exact ⟨List.mem_cons_self, hle, List.forall_mem_cons.mpr ⟨fun _ => le_rfl, fun x hx hv =>
        absurd hv (not_le.mpr ((bandFor_eq_none_iff bs v).mp hnone x hx))⟩⟩

theorem weightOf_of_bandFor {bands : List Band} {v : Int} {b : Band} (h : bandFor bands v = some b) : weightOf bands v = b.weight := by
  rw [weightOf, h]

/-- R100: below the first floor the weight is 0. -/
theorem weightOf_below {bands : List Band} {v : Int} (h : ∀ b ∈ bands, v < b.floor) : weightOf bands v = 0 := by
  rw [weightOf, (bandFor_eq_none_iff bands v).mpr h]

/-- R100: a band whose floor is not the greater has not the greater weight. -/
theorem RisingBands.weight_le {bands : List Band} (h : RisingBands bands) {b b' : Band} (hb : b ∈ bands) (hb' : b' ∈ bands)
    (hle : b.floor ≤ b'.floor) : b.weight ≤ b'.weight := by
  have hforward : bands.Pairwise fun x y => x.floor ≤ y.floor → x.weight ≤ y.weight := h.imp fun hxy _ => hxy.2
  have hbackward : bands.Pairwise fun x y => y.floor ≤ x.floor → y.weight ≤ x.weight :=
    h.imp fun hxy hle => absurd hxy.1 (not_lt.mpr hle)
  exact List.Pairwise.forall_of_forall_of_flip (fun _ _ _ => le_rfl) hforward hbackward hb hb' hle

/-- R100: the weight is that of the band with the greatest floor at or below the temperature. -/
theorem RisingBands.weightOf_eq {bands : List Band} (h : RisingBands bands) {v : Int} {b : Band} (hb : b ∈ bands) (hv : b.floor ≤ v)
    (hmax : ∀ b' ∈ bands, b'.floor ≤ v → b'.floor ≤ b.floor) : weightOf bands v = b.weight := by
  cases hfound : bandFor bands v with
  | none => exact absurd hv (not_le.mpr ((bandFor_eq_none_iff bands v).mp hfound b hb))
  | some b' =>
    obtain ⟨hmem, hle, hmax'⟩ := bandFor_spec hfound
    rw [weightOf_of_bandFor hfound]
    exact le_antisymm (h.weight_le hmem hb (hmax b' hmem hle)) (h.weight_le hb hmem (hmax' b hb hv))

/-- R100: the weight never falls as the temperature rises. -/
theorem RisingBands.weightOf_mono {bands : List Band} (h : RisingBands bands) {v w : Int} (hvw : v ≤ w) :
    weightOf bands v ≤ weightOf bands w := by
  cases hv : bandFor bands v with
  | none =>
    rw [weightOf_below ((bandFor_eq_none_iff bands v).mp hv)]
    exact Nat.zero_le _
  | some b =>
    obtain ⟨hb, hbv, -⟩ := bandFor_spec hv
    cases hw : bandFor bands w with
    | none => exact absurd (hbv.trans hvw) (not_le.mpr ((bandFor_eq_none_iff bands w).mp hw b hb))
    | some b' =>
      obtain ⟨hb', -, hmax⟩ := bandFor_spec hw
      rw [weightOf_of_bandFor hv, weightOf_of_bandFor hw]
      exact h.weight_le hb hb' (hmax b hb (hbv.trans hvw))

/-! ### The parcels a sample reaches (R105) -/

theorem TrackUnit.reached_iff (u : TrackUnit) (c : Nat) (p : Parcel) : u.reached c p = true ↔
    ∃ z ∈ u.zoneMap, z.kind = .blanch ∧ p.zone = some z.id ∧ z.channel = some c := by
  cases hzone : p.zone with
  | none => simp [TrackUnit.reached, hzone]
  | some i =>
    simp only [TrackUnit.reached, hzone, List.any_eq_true, Bool.and_eq_true, decide_eq_true_eq, Option.some_inj]
    exact exists_congr fun z => and_congr_right fun _ => by rw [eq_comm (a := i), and_assoc, and_left_comm]

/-! ### The four cases of a sample (R107 to R110) -/

/-- R107 to R110: the chain record a sample leaves and what it does to a parcel it reaches, in the four cases. -/
def SampleOutcome (rates : List Band) (ch : Chain) (v : Int) (now : Nat) (wasStale : Bool) (chain : Chain)
    (effect : Parcel → Parcel) : Prop :=
  (ch.previous = none ∧ chain = ⟨some (v, now), ch.residue⟩ ∧ effect = fun p => { p with armed := true }) ∨
  (∃ v' t', ch.previous = some (v', t') ∧ 6000 + t' < now ∧ chain = ⟨some (v, now), 0⟩ ∧
    effect = fun p => { p with armed := false, deviation := { p.deviation with gap := true } }) ∨
  (∃ v' t', ch.previous = some (v', t') ∧ now ≤ 6000 + t' ∧ wasStale = true ∧ chain = ⟨some (v, now), 0⟩ ∧
    effect = fun p => { p with armed := false }) ∨
  (∃ v' t' product, ch.previous = some (v', t') ∧ now ≤ 6000 + t' ∧ wasStale = false ∧
    product = min (weightOf rates v') (weightOf rates v) * (now - t') + ch.residue ∧
    chain = ⟨some (v, now), product % 1000⟩ ∧
    effect = fun p => if p.armed = true then { p with credit := min (p.credit + product / 1000) 16000000 }
      else { p with armed := true })

/-- R107: one of the four cases applies to every sample. -/
theorem exists_sampleOutcome (rates : List Band) (ch : Chain) (v : Int) (now : Nat) (wasStale : Bool) :
    ∃ chain effect, SampleOutcome rates ch v now wasStale chain effect := by
  cases hprevious : ch.previous with
  | none => exact ⟨_, _, .inl ⟨hprevious, rfl, rfl⟩⟩
  | some previous =>
    obtain ⟨v', t'⟩ := previous
    rcases lt_or_ge (6000 + t') now with hlate | hintime
    · exact ⟨_, _, .inr (.inl ⟨v', t', hprevious, hlate, rfl, rfl⟩)⟩
    · cases wasStale with
      | true => exact ⟨_, _, .inr (.inr (.inl ⟨v', t', hprevious, hintime, rfl, rfl, rfl⟩))⟩
      | false => exact ⟨_, _, .inr (.inr (.inr ⟨v', t', _, hprevious, hintime, rfl, rfl, rfl, rfl⟩))⟩

/-- R107 to R110: a sample replaces the chain record by that of its case and has the case's effect at the parcels. -/
theorem State.creditSample_of_outcome {s : State} {c : Nat} {ch chain : Chain} {v : Int} {now : Nat} {wasStale : Bool}
    {effect : Parcel → Parcel} (hch : s.credit.chains.get? c = some ch)
    (h : SampleOutcome s.credit.rates ch v now wasStale chain effect) :
    s.creditSample c v now wasStale = (s.setChain c chain).sampleParcels c wasStale effect := by
  have hlimit {t' : Nat} (h : now ≤ 6000 + t') : ¬t' + Config.chainLimit < now := by rw [Config.chainLimit]; omega
  rw [State.creditSample, hch, Option.getD_some]
  rcases h with ⟨hprevious, rfl, rfl⟩ | ⟨v', t', hprevious, hlate, rfl, rfl⟩ | ⟨v', t', hprevious, hintime, rfl, rfl, rfl⟩ |
    ⟨v', t', product, hprevious, hintime, rfl, rfl, rfl, rfl⟩
  · have hcase : ch.judge now wasStale = .fresh := by rw [Chain.judge, hprevious]
    rw [hcase]
    rfl
  · have hcase : ch.judge now wasStale = .gapBreak := by
      rw [Chain.judge, hprevious]
      exact if_pos (by rw [Config.chainLimit]; omega)
    rw [hcase]
    rfl
  · have hcase : ch.judge now true = .quietBreak := by
      rw [Chain.judge, hprevious]
      exact if_neg (hlimit hintime)
    rw [hcase]
    rfl
  · have hcase : ch.judge now false = .increment v' t' := by
      rw [Chain.judge, hprevious]
      exact if_neg (hlimit hintime)
    rw [hcase]
    rfl

/-- What never lowers a credit, and keeps it at the ceiling of R105. -/
def CreditGrows (effect : Parcel → Parcel) : Prop :=
  ∀ p : Parcel, p.credit ≤ 16000000 → p.credit ≤ (effect p).credit ∧ (effect p).credit ≤ 16000000

/-- R108, R110: no case of a sample lowers a credit. -/
theorem SampleOutcome.creditGrows {rates : List Band} {ch chain : Chain} {v : Int} {now : Nat} {wasStale : Bool}
    {effect : Parcel → Parcel} (h : SampleOutcome rates ch v now wasStale chain effect) : CreditGrows effect := by
  intro p hp
  rcases h with ⟨-, -, rfl⟩ | ⟨_, _, -, -, -, rfl⟩ | ⟨_, _, -, -, -, -, rfl⟩ | ⟨_, _, product, -, -, -, -, -, rfl⟩
  · exact ⟨le_rfl, hp⟩
  · exact ⟨le_rfl, hp⟩
  · exact ⟨le_rfl, hp⟩
  · dsimp only
    split
    · exact ⟨le_min (Nat.le_add_right ..) hp, Nat.min_le_right ..⟩
    · exact ⟨le_rfl, hp⟩

/-! ### The sample at the parcels (R105, R110) -/

theorem CreditGrows.sampled {effect : Parcel → Parcel} (h : CreditGrows effect) (reached : Parcel → Bool) :
    CreditGrows (Parcel.sampled reached effect) := by
  intro p hp
  unfold Parcel.sampled
  split
  · exact h p hp
  · exact ⟨le_rfl, hp⟩

/-- R110: in every order of a sample and the zone entries of its moment the credit of a parcel does not fall. -/
theorem CreditGrows.meet {effect : Parcel → Parcel} (h : CreditGrows effect) (now code : Nat) (reached : Parcel → Bool) :
    CreditGrows (Parcel.meet now code reached effect) := by
  intro p hp
  by_cases hviews : p.views now = []
  · rw [Parcel.meet_still _ _ _ _ _ hviews]
    exact h.sampled reached p hp
  · rcases Parcel.meet_cases now code reached effect p hviews with hmeet | ⟨_, view, _, -, hmeet⟩
    · rw [hmeet]
      exact h.sampled reached p hp
    · rw [hmeet]
      exact h.sampled reached (p.asOf view) hp

theorem Parcel.views_eq_nil {now : Nat} {p : Parcel} (h : p.movedAt ≠ now ∨ p.past = []) : p.views now = [] := by
  rw [Parcel.views]
  split
  · next hmoved => exact h.resolve_left (not_not.mpr hmoved)
  · rfl

theorem Parcel.views_of_moved {now : Nat} {p : Parcel} (h : p.movedAt = now) : p.views now = p.past := if_pos h

/-- R110: a sample of a channel that was not STALE meets each parcel by itself. -/
theorem State.parcels_sampleParcels_live (s : State) (c : Nat) (effect : Parcel → Parcel) :
    (s.sampleParcels c false effect).parcel.parcels = s.parcel.parcels.mapVals fun k =>
      Parcel.meet s.time.baseMs (Config.sampleOrder s.draws k) (s.track.reached c) effect := by
  simp only [State.sampleParcels, State.meetParcels, Bool.false_eq_true, if_false]
  split <;> rfl

/-- R110: a sample that ends STALE, or one in a moment without zone entries, meets the parcels as they stand. -/
theorem State.sampleParcels_still {s : State} {wasStale : Bool}
    (h : wasStale = true ∨ ∀ e ∈ s.parcel.parcels, e.2.movedAt ≠ s.time.baseMs ∨ e.2.past = []) (c : Nat)
    (effect : Parcel → Parcel) : s.sampleParcels c wasStale effect = s.markParcels (s.track.reached c) effect := by
  cases wasStale with
  | true => rfl
  | false =>
    have hmoment := h.resolve_left Bool.false_ne_true
    exact s.meetParcels_still c effect fun e he => Parcel.views_eq_nil (hmoment e he)

/-- R107 to R110: every parcel after a sample is what an effect that does not lower its credit has made of it. -/
theorem State.get?_sampleParcels_grows (s : State) (c : Nat) (wasStale : Bool) {effect : Parcel → Parcel}
    (h : CreditGrows effect) (k : Nat) : ∃ g, CreditGrows g ∧ (s.sampleParcels c wasStale effect).parcel.parcels.get? k = (s.parcel.parcels.get? k).map g := by
  cases wasStale with
  | true => exact ⟨_, h.sampled (s.track.reached c), Table.get?_mapVals ..⟩
  | false =>
    rw [State.parcels_sampleParcels_live, Table.get?_mapVals]
    exact ⟨_, h.meet _ _ _, rfl⟩

/-- R110: a parcel with zone entries in the moment meets the sample after them all, or as one of its views shows it. -/
theorem State.get?_sampleParcels_moved {s : State} {k : Nat} {p : Parcel} (h : s.parcel.parcels.get? k = some p)
    (hmoved : p.movedAt = s.time.baseMs) (hpast : p.past ≠ []) (c : Nat) (effect : Parcel → Parcel) :
    (s.sampleParcels c false effect).parcel.parcels.get? k =
        some { (if s.track.reached c p then effect p else p) with past := [] } ∨
      ∃ before view after q, p.past = before ++ view :: after ∧ q = { p with zone := view.zone, armed := view.armed } ∧
        (s.sampleParcels c false effect).parcel.parcels.get? k = some { (if s.track.reached c q then effect q else q) with
          zone := p.zone, armed := p.armed, past := view :: after } := by
  have hviews := Parcel.views_of_moved hmoved
  rw [State.parcels_sampleParcels_live, Table.get?_mapVals, h, Option.map_some]
  rcases Parcel.meet_cases s.time.baseMs (Config.sampleOrder s.draws k) (s.track.reached c) effect p (by rwa [hviews]) with
    hmeet | ⟨before, view, after, hsplit, hmeet⟩
  · exact .inl (congrArg some hmeet)
  · exact .inr ⟨before, view, after, p.asOf view, hviews ▸ hsplit, rfl, congrArg some hmeet⟩

/-- Settles O40: the weight by the band found; a sample by the outcome of its case, at each parcel by itself. -/
theorem creditOfASample : Obligations.CreditOfASample := by
  refine ⟨fun bands v h => ⟨weightOf_below, fun b hb => RisingBands.weightOf_eq h hb, fun w => RisingBands.weightOf_mono h⟩,
    TrackUnit.reached_iff, ?_⟩
  rintro s t c v now wasStale rfl ch hch
  have hcredit : ∀ (chain : Chain) (effect : Parcel → Parcel), SampleOutcome s.credit.rates ch v now wasStale chain effect →
      (s.creditSample c v now wasStale).credit.chains = s.credit.chains.put c chain := fun chain effect h => by
    rw [State.creditSample_of_outcome hch h, State.sampleParcels_frame]
    rfl
  obtain ⟨chain₀, effect₀, houtcome⟩ := exists_sampleOutcome s.credit.rates ch v now wasStale
  refine ⟨State.creditSample_frame .., fun k hk => ?_, fun chain effect h => ?_, fun k p p' hp hle hp' => ?_⟩
  · rw [hcredit chain₀ effect₀ houtcome, Table.get?_put_ne _ _ hk]
  · refine ⟨by rw [hcredit chain effect h, Table.get?_put_self], ?_⟩
    obtain ⟨u, hu⟩ : ∃ u, u = s.setChain c chain := ⟨_, rfl⟩
    have hparcels : u.parcel = s.parcel := by rw [hu]; rfl
    have htime : u.time = s.time := by rw [hu]; rfl
    have htrack : u.track = s.track := by rw [hu]; rfl
    have hdraws : u.draws = s.draws := by rw [hu]; rfl
    rw [State.creditSample_of_outcome hch h, ← hu, ← hparcels, ← htime, ← htrack, ← hdraws]
    refine ⟨fun hstill => ?_, fun k p hp hlive hstill => ?_, fun k hnone => ?_, fun k p hp hlive hmoved hpast => ?_⟩
    · rw [State.sampleParcels_still hstill]
      exact ⟨rfl, rfl⟩
    · rw [hlive, State.parcels_sampleParcels_live, Table.get?_mapVals, hp, Option.map_some,
        Parcel.meet_still _ _ _ _ _ (Parcel.views_eq_nil hstill)]
      rfl
    · obtain ⟨g, -, hget⟩ := u.get?_sampleParcels_grows c wasStale (SampleOutcome.creditGrows h) k
      rw [hget, hnone]
      rfl
    · rw [hlive]
      exact State.get?_sampleParcels_moved hp hmoved hpast c effect
  · rw [State.creditSample_of_outcome hch houtcome] at hp'
    obtain ⟨g, hgrows, hget⟩ := (s.setChain c chain₀).get?_sampleParcels_grows c wasStale houtcome.creditGrows k
    rw [hget, show (s.setChain c chain₀).parcel.parcels.get? k = some p from hp, Option.map_some, Option.some_inj] at hp'
    rw [← hp']
    exact hgrows p hle

end Sys2Proof.Machine
end

section
/-! ## The release verdict (R113, R114) -/

namespace Sys2Proof.Machine

-- One declaration after the other, so that the text needs one thread for them and not one each.
set_option Elab.async false

/-- R113: an absent freezer-entry time, or too short a dwell since it. -/
theorem State.reasons_dwellShort {s : State} {p : Parcel} {r : Recipe} (h : s.credit.recipes.get? p.recipe = some r) (now : Nat) :
    (s.reasons p now).dwellShort = true ↔
      p.freezerEntry = none ∨ ∃ e, p.freezerEntry = some e ∧ now - e < r.minDwell * 1000 := by
  cases hentry : p.freezerEntry <;> simp [State.reasons, Parcel.dwell, CreditUnit.recipe_of_get? h, hentry]

/-- R114: no EXIT channel, or one that is not LIVE. -/
theorem State.reasons_exitUnknown (s : State) (p : Parcel) (now : Nat) : (s.reasons p now).exitUnknown = true ↔
    ¬∃ ch, s.probe.exitChannel = some ch ∧ ch.state = .live := by
  cases hexit : s.probe.exitChannel <;> simp [State.reasons, hexit]

/-- R114: a LIVE EXIT channel whose last value is above the recipe's maximum. -/
theorem State.reasons_exitWarm {s : State} {p : Parcel} {r : Recipe} (h : s.credit.recipes.get? p.recipe = some r) (now : Nat) :
    (s.reasons p now).exitWarm = true ↔
      ∃ ch v, s.probe.exitChannel = some ch ∧ ch.state = .live ∧ ch.lastValue = some v ∧ r.maxExit < v := by
  cases hexit : s.probe.exitChannel with
  | none => simp [State.reasons, hexit]
  | some ch => cases hvalue : ch.lastValue <;> simp [State.reasons, CreditUnit.recipe_of_get? h, hexit, hvalue]

/-- R113: credit below what the recipe requires. -/
theorem State.reasons_creditShort {s : State} {p : Parcel} {r : Recipe} (h : s.credit.recipes.get? p.recipe = some r) (now : Nat) :
    (s.reasons p now).creditShort = true ↔ p.credit < r.requiredCredit := by
  simp [State.reasons, CreditUnit.recipe_of_get? h]

/-- Settles O41: the deviation set is taken over; each further reason by its own lemma. -/
theorem verdictHasExactlyItsReasons : Obligations.VerdictHasExactlyItsReasons := fun s p now _ h =>
  ⟨rfl, rfl, rfl, rfl, rfl, State.reasons_creditShort h now, State.reasons_dwellShort h now, s.reasons_exitUnknown p now,
    State.reasons_exitWarm h now⟩

end Sys2Proof.Machine
end

section
/-! ## The gate rule and the gate timer (R130, R131) -/

namespace Sys2Proof.Machine

-- One declaration after the other, so that the text needs one thread for them and not one each.
set_option Elab.async false

/-- R130: the gates closed at the start of the dead time, with a lane's gate pending or none. -/
def State.deadTimeBegun (pending : Option Nat) (s : State) : State := { s with
  dist := { s.dist with openGate := none, pendingGate := pending }
  time := { s.time with timers := s.time.timers.put 5 (min (s.time.lineTime + s.dist.deadTime) 281474976710655) } }

theorem State.closeGate_eq (s : State) (pending : Option Nat) : s.closeGate pending = s.deadTimeBegun pending := rfl

/-- R130: the gate asked for is open. -/
theorem State.requestGate_open {s : State} {b : Nat} (h : s.dist.openGate = some b) : s.requestGate b = s := by
  simp only [State.requestGate, h, if_true]

/-- R130: another gate is open. -/
theorem State.requestGate_other {s : State} {a b : Nat} (h : s.dist.openGate = some a) (hab : a ≠ b) :
    s.requestGate b = s.deadTimeBegun (some b) := by
  simp only [State.requestGate, h, if_neg hab, State.closeGate_eq]

/-- R130: no gate is open and the dead time runs. -/
theorem State.requestGate_running {s : State} (h : s.dist.openGate = none) (hr : s.time.gateRunning = true) (b : Nat) :
    s.requestGate b = { s with dist := { s.dist with pendingGate := some b } } := by
  unfold State.requestGate
  rw [h]
  exact if_pos hr

/-- R130: no gate is open and no dead time runs. -/
theorem State.requestGate_ended {s : State} (h : s.dist.openGate = none) (hr : ¬s.time.gateRunning = true) (b : Nat) :
    s.requestGate b = { s with dist := { s.dist with openGate := some b } } := by
  unfold State.requestGate
  rw [h]
  exact if_neg hr

theorem State.requestLaneZero_open {s : State} {a : Nat} (h : s.dist.openGate = some a) :
    s.requestLaneZero = s.deadTimeBegun none := by
  simp only [State.requestLaneZero, h, State.closeGate_eq]

theorem State.requestLaneZero_closed {s : State} (h : s.dist.openGate = none) : s.requestLaneZero = s := by
  simp only [State.requestLaneZero, h]

/-- R130, R131: the dead time has ended once the gate timer's expiry has been delivered (log 6). -/
theorem TimeUnit.gateRunning_iff (u : TimeUnit) : u.gateRunning = true ↔ ¬(u.timers.get? 5 = none ∧ TimerId.gate ∉ u.expired) := by
  simp only [TimeUnit.gateRunning, TimerId.index, Bool.or_eq_true, Option.isSome_iff_ne_none, List.contains_iff_mem]
  tauto

/-- R131: the expiry of the gate timer opens the pending gate. -/
theorem exec_gateTimerExpiry_due {s : State} (hw : s.powered = true) (hp : s.pin = false) (h : TimerId.gate ∈ s.time.expired) :
    exec .gateTimerExpiry s =
      .next (s.onTime fun u => { u with expired := u.expired.erase .gate }).openPending.finish := by
  rw [exec, execGateTimerExpiry, State.act_powered _ _ hw, State.expire_some _ _ _ (List.contains_iff_mem.mpr h) hp]

theorem State.openPending_some {s : State} {b : Nat} (h : s.dist.pendingGate = some b) :
    s.openPending = { s with dist := { s.dist with openGate := some b, pendingGate := none } } := by
  simp only [State.openPending, State.onDist, h]

theorem State.openPending_none {s : State} (h : s.dist.pendingGate = none) : s.openPending = s := by
  simp only [State.openPending, State.onDist, h]

/-- R130: of the four gate outputs at most that of the open gate is asserted. -/
theorem State.drivenPins_gates (s : State) : (s.drivenPins.gates.filter fun g => g).length ≤ 1 := by
  by_cases h : s.pin = true ∨ s.powered = false
  · rw [State.drivenPins_withdrawn h]
    decide
  · have hdriven : s.drivenPins.gates = [1, 2, 3, 4].map fun n => decide (s.dist.openGate = some n) := by
      obtain ⟨hp, hw⟩ := not_or.mp h
      simp [State.drivenPins, hp, hw]
    rw [hdriven]
    cases hopen : s.dist.openGate with
    | none => decide
    | some a =>
      have hcount : (([1, 2, 3, 4].map fun n => decide (some a = some n)).filter fun g => g).length = [1, 2, 3, 4].count a := by
        rw [List.filter_map, List.length_map, ← List.countP_eq_length_filter]
        exact List.countP_congr fun n _ => decide_eq_true_iff.trans (by rw [Option.some_inj, beq_iff_eq, eq_comm])
      rw [hcount]
      exact List.nodup_iff_count_le_one.mp (by decide) a

/-- Settles O43: each row of the gate table by its lemma; the open gate is one lane's. -/
theorem gateRule : Obligations.GateRule := by
  refine ⟨fun s a b hopen => ⟨fun hab => State.requestGate_open (hab ▸ hopen), State.requestGate_other hopen,
    State.requestLaneZero_open hopen⟩, fun s b hopen => ⟨fun harmed => ?_, fun hidle hexp => ?_,
    State.requestLaneZero_closed hopen⟩, fun s hw hp hexp => ?_, fun s => ?_⟩
  · exact State.requestGate_running hopen ((TimeUnit.gateRunning_iff _).mpr fun h => harmed h.1) b
  · exact State.requestGate_ended hopen (fun h => (TimeUnit.gateRunning_iff _).mp h ⟨hidle, hexp⟩) b
  · rw [exec_gateTimerExpiry_due hw hp hexp]
    cases hpending : s.dist.pendingGate with
    | none => rw [State.openPending_none (s := s.onTime _) hpending]; rfl
    | some b => rw [State.openPending_some (s := s.onTime _) hpending]; rfl
  · rw [State.finish_pins]
    exact s.drivenPins_gates

end Sys2Proof.Machine
end

section
/-! ## The class map, staged and live (R119 to R121) -/

namespace Sys2Proof.Machine

-- One declaration after the other, so that the text needs one thread for them and not one each.
set_option Elab.async false

/-! ### CLASS MAP SET (R120) -/

/-- R119, R189: the class entry that a byte of lanes and a run length spell. -/
def ClassEntry.spelled (e : Nat × Nat) : ClassEntry := ⟨[1, 2, 3, 4].filter fun lane => e.1.testBit (lane - 1), e.2⟩

theorem classEntry?_some {e : Nat × Nat} (h : e.1 < 16 ∧ 1 ≤ e.2 ∧ e.2 ≤ 16) : classEntry? e = some (.spelled e) := by
  obtain ⟨hlanes, hrun⟩ := h
  simp only [classEntry?, laneSet?, if_pos hlanes, if_pos hrun]
  rfl

theorem classEntry?_none {e : Nat × Nat} (h : 16 ≤ e.1 ∨ e.2 < 1 ∨ 16 < e.2) : classEntry? e = none := by
  by_cases hlanes : e.1 < 16
  · have hrun : ¬(1 ≤ e.2 ∧ e.2 ≤ 16) := by omega
    simp only [classEntry?, laneSet?, if_pos hlanes, if_neg hrun]
  · simp only [classEntry?, laneSet?, if_neg hlanes]

/-- R120: one malformed entry spoils the map. -/
theorem classMap?_none {es : List (Nat × Nat)} {e : Nat × Nat} (he : e ∈ es) (h : classEntry? e = none) (k : Nat) :
    classMap? k es = none := by
  induction es generalizing k with
  | nil => nomatch he
  | cons x es ih =>
    rcases List.mem_cons.mp he with rfl | he
    · simp only [classMap?, h]
    · simp only [classMap?, ih he]
      cases classEntry? x <;> rfl

/-- R120: a map whose entries are well formed, class by class. -/
theorem classMap?_some {es : List (Nat × Nat)} (h : ∀ e ∈ es, e.1 < 16 ∧ 1 ≤ e.2 ∧ e.2 ≤ 16) (k : Nat) :
    classMap? k es = some ((List.range es.length).map fun i => (k + i, .spelled (es.getD i (0, 0)))) := by
  induction es generalizing k with
  | nil => rfl
  | cons e es ih =>
    have hhead := classEntry?_some (h e List.mem_cons_self)
    have htail := ih (fun x hx => h x (List.mem_cons_of_mem e hx)) (k + 1)
    simp only [classMap?, hhead, htail, List.length_cons, List.range_succ_eq_map, List.map_cons, List.map_map]
    simp [Function.comp_def, Nat.add_assoc, Nat.add_comm 1]

theorem classEntries_length {k : Nat} {bs : List Byte} (h : bs.length = 2 * k) : (classEntries bs).length = k := by
  induction k generalizing bs with
  | zero => rw [List.length_eq_zero_iff.mp h]; rfl
  | succ k ih =>
    obtain ⟨a, b, rest, rfl⟩ : ∃ a b rest, bs = a :: b :: rest := by
      match bs, h with
      | a :: b :: rest, _ => exact ⟨a, b, rest, rfl⟩
      | [], h => simp at h
      | [_], h => simp at h; omega
    simp only [List.length_cons] at h
    rw [classEntries, List.length_cons, ih (by omega)]

theorem exec_classMapSet_taken {s : State} {f : Frame} {rest : List Byte} (h : Taken s .classMapSet f) (hf : f.payload = 7 :: rest)
    (hlen : rest.length = 14) : exec .classMapSet s =
      .next ((doClassMapSet (classEntries rest) s).1.replied f (doClassMapSet (classEntries rest) s).2) :=
  State.act_handOn s .classMapSet f parseClassMap doClassMapSet h _ (by rw [hf]; exact if_pos ⟨rfl, hlen⟩)

/-- R120: CLASS MAP SET, in its cases. -/
theorem doClassMapSet_cases (es : List (Nat × Nat)) (s : State) :
    ((∃ e ∈ es, 16 ≤ e.1 ∨ e.2 < 1 ∨ 16 < e.2) → doClassMapSet es s = s.refuse .badValue) ∧
    ((∀ e ∈ es, e.1 < 16 ∧ 1 ≤ e.2 ∧ e.2 ≤ 16) → doClassMapSet es s = (s.onDist fun u => { u with
      staged := some ((List.range es.length).map fun i => (1 + i, .spelled (es.getD i (0, 0)))) }, .status .ok)) := by
  unfold doClassMapSet
  refine ⟨?_, fun hok => ?_⟩
  · rintro ⟨e, he, hbad⟩
    rw [classMap?_none he (classEntry?_none hbad)]
  · rw [classMap?_some hok]

/-! ### The staged map becomes live (R121) -/

theorem State.applyClassMap_some {s : State} {m : Table ClassEntry} (h : s.dist.staged = some m) :
    s.applyClassMap = { s with dist := { s.dist with
      live := m, staged := none
      pointers := s.dist.pointers.mapVals fun k r => if m.get? k = s.dist.live.get? k then r else ⟨none, 0⟩ } } := by
  simp only [State.applyClassMap, State.onDist, h]
  rfl

theorem State.applyClassMap_none {s : State} (h : s.dist.staged = none) : s.applyClassMap = s := by
  simp only [State.applyClassMap, State.onDist, h]

theorem State.applyClassMap_dist_congr {s t : State} (h : t.dist = s.dist) : t.applyClassMap.dist = s.applyClassMap.dist := by
  unfold State.applyClassMap
  rw [State.onDist_dist, State.onDist_dist, h]

/-! ### The distribution unit at an index (R43 to R47) -/

/-- The distribution unit, and the plan of the tracks. -/
def State.distPlan (s : State) : DistributionUnit × Table Track := (s.dist, s.track.plan)

theorem State.distPlan_eq_iff {s t : State} : t.distPlan = s.distPlan ↔ t.dist = s.dist ∧ t.track.plan = s.track.plan := by
  simp [State.distPlan]

/-- R33, R36: the track count is read off the plan. -/
theorem TrackUnit.count_of_plan {u v : TrackUnit} (h : u.plan = v.plan) : u.count = v.count := by
  have hlen := congrArg List.length h
  rwa [TrackUnit.plan, TrackUnit.plan, Table.length_mapVals, Table.length_mapVals] at hlen

theorem State.distPlan_onTrackRec (s : State) (n : Nat) {f : Track → Track} (hf : ∀ t, (f t).bare = t.bare) :
    (s.onTrackRec n f).distPlan = s.distPlan := State.distPlan_eq_iff.mpr ⟨rfl, plan_modify s.track n hf⟩

theorem State.distPlan_place (k n stamp : Nat) (s : State) : (s.place k n stamp).distPlan = s.distPlan := by
  unfold State.place
  split <;> rfl

theorem State.distPlan_recover (n : Nat) (s : State) : (s.recover n).distPlan = s.distPlan := by
  unfold State.recover
  split
  · split
    · exact s.distPlan_onTrackRec n (f := fun t => { t with backedUp := false }) fun _ => rfl
    · rfl
  · rfl

theorem State.distPlan_fill (n : Nat) (presence : Bool) (stamp : Nat) (s : State) :
    (s.fill n presence stamp).distPlan = s.distPlan := by
  unfold State.fill
  split
  · split
    · exact State.distPlan_place ..
    · rfl
  · unfold State.takeQueue
    split
    · next k rest _ =>
      rw [State.distPlan_recover, State.distPlan_place]
      exact s.distPlan_onTrackRec (n - 1) (f := fun t => { t with queue := rest }) fun _ => rfl
    · rfl

theorem State.distPlan_advance (n stamp : Nat) (s : State) : (s.advance n stamp).distPlan = s.distPlan :=
  s.distPlan_onTrackRec n (f := fun t => { t with head := (t.head + 1) % t.segments }) fun _ => rfl

theorem State.applyDeclaration_dist (stamp : Nat) (s : State) : (s.applyDeclaration stamp).dist = s.dist := by
  unfold State.applyDeclaration State.tableFull
  (repeat' split) <;> simp [State.revive]

/-- R46, R121: of the staged edits the class map alone is the distribution unit's. -/
theorem State.applyStaged_dist (n stamp : Nat) (s : State) :
    (s.applyStaged n stamp).dist = if n = s.track.count then s.applyClassMap.dist else s.dist := by
  have hdeclared : (if n = 1 then s.applyDeclaration stamp else s).dist = s.dist ∧
      (if n = 1 then s.applyDeclaration stamp else s).track = s.track := by
    split
    · exact ⟨s.applyDeclaration_dist stamp, (s.applyDeclaration_keeps stamp).1⟩
    · exact ⟨rfl, rfl⟩
  unfold State.applyStaged
  dsimp only
  generalize (if n = 1 then s.applyDeclaration stamp else s) = u at hdeclared
  obtain ⟨hdist, htrack⟩ := hdeclared
  rw [htrack]
  split
  · exact State.applyClassMap_dist_congr hdist
  · exact hdist

theorem State.completeProving_dist (s : State) : s.completeProving.dist = s.dist := by
  rcases s.completeProving_cases with h | ⟨record, h⟩
  · rw [h]
  · rw [h]
    simp [State.endProvingLine]

/-- R121: an index leaves the distribution unit as the departure does, but for the class map of the last track. -/
theorem State.index_dist (n : Nat) (t : Track) (presence : Bool) (stamp : Nat) (s : State) :
    (s.index n t presence stamp).dist =
      if n = s.track.count then (s.depart n t stamp).applyClassMap.dist else (s.depart n t stamp).dist := by
  obtain ⟨hdist, hplan⟩ := State.distPlan_eq_iff.mp ((State.distPlan_fill n presence stamp _).trans
    ((s.depart n t stamp).distPlan_advance n stamp))
  have hcount := TrackUnit.count_of_plan (hplan.trans (Departed.depart n t stamp s).plan)
  rw [State.index_eq, State.completeProving_dist, State.indexNotice_frame, State.indexed, State.applyStaged_dist, hcount,
    State.applyClassMap_dist_congr hdist, hdist]
  rfl

theorem State.backpressure_dist (k n : Nat) (p : Parcel) (stamp : Nat) (s : State) :
    (s.backpressure k n p stamp).dist = s.dist := by
  unfold State.backpressure State.takeEntry
  dsimp only
  split <;> simp [State.onTrackRec, State.retireParcel]

/-- R43: a departure into a queue, or from an empty cell, is no business of the distribution unit. -/
theorem State.depart_dist {n : Nat} {t : Track} {s : State}
    (h : n ≠ s.track.count ∨ s.track.cells.get? (s.track.cellOf n t (t.segments - 1)) = none) (stamp : Nat) :
    (s.depart n t stamp).dist = s.dist := by
  rcases h with hn | hcell
  · unfold State.depart
    dsimp only
    split
    · rfl
    · split
      · rfl
      · rw [if_neg hn]
        split
        · rfl
        · exact State.backpressure_dist ..
  · rw [State.depart_empty hcell]

/-- Settles O44: the map of a request is staged entry by entry; at an index the departure leaves the unit, and the staged edits
make the map live. -/
theorem classMapIsStagedThenLive : Obligations.ClassMapIsStagedThenLive := by
  refine ⟨fun s f rest es h hf hlen hes => ?_, fun s m hm => State.applyClassMap_some hm,
    fun s input n presence tr hw hp h1 h4 hone hget hruns hpulses hlast => ?_⟩
  · have hseven : es.length = 7 := by rw [hes, classEntries_length (k := 7) hlen]
    obtain ⟨hbad, hok⟩ := doClassMapSet_cases es s
    rw [exec_classMapSet_taken h hf hlen, ← hes]
    refine ⟨fun he => ?_, fun he => ?_⟩
    · rw [hbad he]
      rfl
    · rw [hok he, hseven]
      simp only [Nat.add_comm 1]
      rfl
  · have hcount : (s.segmentEnded n tr).track.count = s.track.tracks.length :=
      TrackUnit.count_of_plan (s.segmentEnded_plan n tr)
    refine ⟨_, exec_indexes ⟨hw, hp, h1, h4, hone, hget, hruns, hpulses⟩ presence, ?_⟩
    have hdepart : ((s.segmentEnded n tr).depart n { tr with counter := 0 } s.time.lineTime).dist = s.dist :=
      State.depart_dist (by rwa [hcount, s.segmentEnded_cell n tr]) s.time.lineTime
    rw [State.finish_dist, State.index_dist, hcount, hdepart, State.applyClassMap_dist_congr hdepart]

end Sys2Proof.Machine
end

section
/-! ## LANE OPEN, LANE CLOSE and the edges of a bagger (R123, R124, R135, R142) -/

namespace Sys2Proof.Machine

-- One declaration after the other, so that the text needs one thread for them and not one each.
set_option Elab.async false

/-! ### A lane record changed -/

theorem State.onLane_self {s : State} {n : Nat} {l : Lane} (h : s.dist.lanes.get? n = some l) (g : Lane → Lane) :
    (s.onLane n g).dist.lanes.get? n = some (g l) := by
  show (s.dist.lanes.modify n g).get? n = _
  rw [Table.get?_modify_self, h]
  rfl

theorem State.onLane_ne (s : State) {n k : Nat} (h : k ≠ n) (g : Lane → Lane) :
    (s.onLane n g).dist.lanes.get? k = s.dist.lanes.get? k := Table.get?_modify_ne s.dist.lanes g h

/-- From `s` to `t` lane `n` becomes `l'`; apart from it link and outputs alone may change. -/
structure LaneMoved (s : State) (n : Nat) (l' : Lane) (t : State) : Prop where
  frame : t = { s with dist := { s.dist with lanes := t.dist.lanes }, link := t.link, pins := t.pins }
  lane : t.dist.lanes.get? n = some l'
  others : ∀ k, k ≠ n → t.dist.lanes.get? k = s.dist.lanes.get? k

theorem LaneMoved.finish {s : State} {n : Nat} {l : Lane} (h : s.dist.lanes.get? n = some l) (g : Lane → Lane) :
    LaneMoved s n (g l) (s.onLane n g).finish where
  frame := by apply State.ext_fields <;> simp [State.onLane]
  lane := by rw [State.finish_dist]; exact State.onLane_self h g
  others k hk := by rw [State.finish_dist]; exact s.onLane_ne hk g

theorem LaneMoved.replied {s : State} {n : Nat} {l : Lane} (h : s.dist.lanes.get? n = some l) (g : Lane → Lane) (f : Frame)
    (b : ReplyBody) : LaneMoved s n (g l) ((s.onLane n g).replied f b) where
  frame := by apply State.ext_fields <;> simp [State.onLane]
  lane := by rw [State.replied_dist]; exact State.onLane_self h g
  others k hk := by rw [State.replied_dist]; exact s.onLane_ne hk g

/-! ### LANE OPEN and LANE CLOSE (R123, R124) -/

theorem exec_laneOpen_taken {s : State} {f : Frame} {n : Byte} (h : Taken s .laneOpen f) (hf : f.payload = [n]) :
    exec .laneOpen s = .next ((doLaneOpen n.toNat s).1.replied f (doLaneOpen n.toNat s).2) :=
  State.act_handOn s .laneOpen f parseByte doLaneOpen h _ (by rw [hf]; rfl)

theorem exec_laneClose_taken {s : State} {f : Frame} {n : Byte} (h : Taken s .laneClose f) (hf : f.payload = [n]) :
    exec .laneClose s = .next ((doLaneClose n.toNat s).1.replied f (doLaneClose n.toNat s).2) :=
  State.act_handOn s .laneClose f parseByte doLaneClose h _ (by rw [hf]; rfl)

/-- R133: a bag record is free. -/
theorem DistributionUnit.hasFreeBag_iff (u : DistributionUnit) : u.hasFreeBag = true ↔ ∃ k, k < 32 ∧ u.bags.get? k = none := by
  constructor
  · intro h
    obtain ⟨k, hk⟩ := Option.isSome_iff_exists.mp h
    obtain ⟨-, hlt, hfree⟩ := Table.freeKey_spec hk
    exact ⟨k, Nat.zero_add 32 ▸ hlt, hfree⟩
  · rintro ⟨k, hlt, hfree⟩
    refine Option.isSome_iff_ne_none.mpr fun hnone => ?_
    have hsome := Table.freeKey_none hnone k (Nat.zero_le k) ((Nat.zero_add 32).symm ▸ hlt)
    rw [hfree] at hsome
    nomatch hsome

theorem Lane.reopen_byReady {l : Lane} {free : Bool} (h : l.state = .closed ∨ (l.state = .blocked ∧ free = true)) :
    l.reopen free = l.byReady := by
  rcases h with h | ⟨h, rfl⟩ <;> simp [Lane.reopen, h]

theorem Lane.reopen_sealing {l : Lane} (h : l.state = .sealing) (free : Bool) : l.reopen free = { l with closeAfter := false } := by
  simp only [Lane.reopen, h]

theorem Lane.reopen_same {l : Lane} {free : Bool} (h : l.state = .pending ∨ l.state = .accepting ∨ (l.state = .blocked ∧ free = false)) :
    l.reopen free = l := by
  rcases h with h | h | ⟨h, rfl⟩ <;> simp [Lane.reopen, h]

/-- R124: LANE CLOSE, by the lane's state and bag. -/
theorem Lane.shut_cases (l : Lane) :
    (l.state = .sealing → l.shut = { l with closeAfter := true }) ∧
    (l.state ≠ .sealing → l.bag = none → l.shut = { l with state := .closed }) ∧
    (l.state ≠ .sealing → l.bag ≠ none → l.shut = { l with state := .sealing, closeAfter := true }) := by
  unfold Lane.shut
  refine ⟨fun h => if_pos h, fun h hb => ?_, fun h hb => ?_⟩
  · rw [if_neg h, hb]
    rfl
  · rw [if_neg h, if_pos (Option.isSome_iff_ne_none.mpr hb)]

/-! ### READY edges (R123, R142) -/

/-- R123, R142: what a READY edge makes of a lane, with the line reset pin asserted or not. -/
def Lane.readyTaken (pin rising : Bool) (l : Lane) : Lane := if pin then { l with ready := rising } else l.readyEdge rising

theorem exec_readyEdge_head {s : State} {n : Nat} {e : Edge} {rest : List Edge} (hw : s.powered = true) (h1 : 1 ≤ n) (h4 : n ≤ 4)
    (h : s.time.edges = e :: rest) (hi : e.input = .readyIn n) : exec (.readyEdge n) s =
      .next ((s.onTime fun u => { u with edges := rest }).onLane n (Lane.readyTaken s.pin e.rising)).finish := by
  rw [exec, execReadyEdge, if_pos (by simp [Instr.wellFormed, h1, h4]), State.act_powered _ _ hw, ← hi, State.deliver_head h]
  rfl

theorem Lane.readyTaken_eq (pin rising : Bool) (l : Lane) : l.readyTaken pin rising = { l with
    ready := rising
    state := if pin = false ∧ l.state = .pending ∧ rising = true then .accepting
      else if pin = false ∧ l.state = .accepting ∧ rising = false then .pending else l.state } := by
  obtain ⟨state, bag, closeAfter, ready⟩ := l
  cases pin
  · cases state <;> cases rising <;> rfl
  · rfl

/-! ### SEAL edges (R135, R142) -/

theorem exec_sealEdge_head {s : State} {n : Nat} {e : Edge} {rest : List Edge} (hw : s.powered = true) (h1 : 1 ≤ n) (h4 : n ≤ 4)
    (h : s.time.edges = e :: rest) (hi : e.input = .sealIn n) : exec (.sealEdge n) s =
      .next (if e.rising = true ∧ s.pin = false then (s.onTime fun u => { u with edges := rest }).sealLane n e.stamp
        else s.onTime fun u => { u with edges := rest }).finish := by
  rw [exec, execSealEdge, if_pos (by simp [Instr.wellFormed, h1, h4]), State.act_powered _ _ hw, ← hi, State.deliver_head h]
  simp

/-- R135: without an open bag the edge is reported. -/
theorem State.sealLane_untracked {s : State} {n : Nat} {l : Lane} (h : s.dist.lanes.get? n = some l) (hb : l.bag = none)
    (stamp : Nat) : s.sealLane n stamp = s.notify (.sealUntracked n stamp) := by
  simp [State.sealLane, h, hb]

/-- R135: the bag of this number sealed. -/
def Bag.sealedAs (number stamp : Nat) (b : Bag) : Bag :=
  if b.number = number then { b with state := .sealed, sealTime := some stamp } else b

theorem State.sealLane_bag {s : State} {n : Nat} {l : Lane} (h : s.dist.lanes.get? n = some l) {number : Nat}
    (hb : l.bag = some number) (stamp : Nat) : s.sealLane n stamp =
      (s.onDist fun u => { u with bags := u.bags.mapVals fun _ => Bag.sealedAs number stamp }).onLane n Lane.sealed := by
  simp only [State.sealLane, h, Option.bind_some, hb]
  rfl

/-- R135: a lane whose bag has been sealed, by its state. -/
theorem Lane.sealed_cases (l : Lane) :
    (l.state ≠ .sealing → l.sealed = { l with bag := none }) ∧
    (l.state = .sealing → l.closeAfter = true → l.sealed = { l with bag := none, state := .closed, closeAfter := false }) ∧
    (l.state = .sealing → l.closeAfter = false →
      l.sealed = { l with bag := none, state := if l.ready then .accepting else .pending }) := by
  unfold Lane.sealed
  refine ⟨fun h => if_neg h, fun h hc => ?_, fun h hc => ?_⟩
  · simp only [if_pos h, hc, if_true]
  · simp only [if_pos h, hc]
    rfl

/-- Settles O45: a request moves its lane by the lane's cases; an edge is the oldest one taken, and moves one lane. -/
theorem lanesAreMoved : Obligations.LanesAreMoved := by
  refine ⟨⟨fun s f n l hf hl h1 h4 => ⟨fun h => ?_, fun h => ?_⟩, fun s f n hf hn => ⟨fun h => ?_, fun h => ?_⟩⟩,
    fun s n e rest l hw h1 h4 hedges hl => ⟨fun hi => ?_, fun hi hquiet => ?_, fun hi hr hp hb => ?_, fun number hi hr hp hb => ?_⟩⟩
  · have hdo : doLaneOpen n.toNat s = (s.onLane n.toNat (Lane.reopen s.dist.hasFreeBag), .status .ok) := if_pos ⟨h1, h4⟩
    have hmoved := LaneMoved.replied hl (Lane.reopen s.dist.hasFreeBag) f (.status .ok)
    have hexec := exec_laneOpen_taken h hf
    obtain ⟨⟨-, -, holdest, -⟩, -⟩ := h
    rw [hdo] at hexec
    refine ⟨_, l.reopen s.dist.hasFreeBag, hexec, State.replied_made_of_rest (u := s.onLane n.toNat _) holdest rfl _, hmoved.frame, hmoved.lane,
      hmoved.others, fun hs => ?_, fun hs => Lane.reopen_sealing hs _, fun hs => ?_⟩
    · rw [← s.dist.hasFreeBag_iff] at hs
      exact Lane.reopen_byReady hs
    · refine Lane.reopen_same (hs.imp_right (Or.imp_right (And.imp_right fun hfull => ?_)))
      rw [← Bool.not_eq_true, s.dist.hasFreeBag_iff]
      rintro ⟨k, hk, hfree⟩
      exact hfull k hk hfree
  · have hdo : doLaneClose n.toNat s = (s.onLane n.toNat Lane.shut, .status .ok) := if_pos ⟨h1, h4⟩
    have hmoved := LaneMoved.replied hl Lane.shut f (.status .ok)
    have hexec := exec_laneClose_taken h hf
    obtain ⟨⟨-, -, holdest, -⟩, -⟩ := h
    rw [hdo] at hexec
    exact ⟨_, l.shut, hexec, State.replied_made_of_rest (u := s.onLane n.toNat _) holdest rfl _, hmoved.frame, hmoved.lane, hmoved.others, l.shut_cases⟩
  · have hdo : doLaneOpen n.toNat s = s.refuse .badValue := if_neg (by omega)
    rw [exec_laneOpen_taken h hf, hdo]
    rfl
  · have hdo : doLaneClose n.toNat s = s.refuse .badValue := if_neg (by omega)
    rw [exec_laneClose_taken h hf, hdo]
    rfl
  · have hmoved := LaneMoved.finish (s := s.onTime fun u => { u with edges := rest }) hl (Lane.readyTaken s.pin e.rising)
    exact ⟨_, _, exec_readyEdge_head hw h1 h4 hedges hi, hmoved.frame, hmoved.lane, hmoved.others, Lane.readyTaken_eq ..⟩
  · rw [exec_sealEdge_head hw h1 h4 hedges hi, if_neg (by rcases hquiet with hq | hq <;> simp [hq])]
    rfl
  · rw [exec_sealEdge_head hw h1 h4 hedges hi, if_pos ⟨hr, hp⟩,
      State.sealLane_untracked (s := s.onTime fun u => { u with edges := rest }) hl hb]
    rfl
  · obtain ⟨u, hu⟩ : ∃ u : State, u = (s.onTime fun u => { u with edges := rest }).onDist fun u =>
      { u with bags := u.bags.mapVals fun _ => Bag.sealedAs number e.stamp } := ⟨_, rfl⟩
    have hlanes : u.dist.lanes = s.dist.lanes := by rw [hu]; rfl
    have hbags : (u.onLane n Lane.sealed).finish.dist.bags = s.dist.bags.mapVals fun _ => Bag.sealedAs number e.stamp := by
      rw [State.finish_dist, hu]
      rfl
    have hmoved := LaneMoved.finish (s := u) (hlanes ▸ hl) Lane.sealed
    have hexec := exec_sealEdge_head hw h1 h4 hedges hi
    rw [if_pos ⟨hr, hp⟩, State.sealLane_bag (s := s.onTime fun u => { u with edges := rest }) hl hb, ← hu] at hexec
    refine ⟨_, _, hexec, ?_, hbags, hmoved.lane, fun k hk => (hmoved.others k hk).trans (by rw [hlanes]), l.sealed_cases⟩
    rw [hbags]
    exact hmoved.frame.trans (by rw [hu]; rfl)

end Sys2Proof.Machine
end

section
/-! ## The lane picked for a parcel, and the number of a new bag (R119, R126, R127, R133, R144) -/

namespace Sys2Proof.Machine

-- One declaration after the other, so that the text needs one thread for them and not one each.
set_option Elab.async false

/-! ### Numbers not in use (R133, R144) -/

theorem nextNumber_range {max : Nat} (hmax : 1 ≤ max) (n : Nat) : 1 ≤ nextNumber max n ∧ nextNumber max n ≤ max := by
  unfold nextNumber
  split <;> omega

/-- R144: the numbers counted on from `n` run through 1 up to the last, and around. -/
theorem nextNumber_iterate {max n : Nat} (h1 : 1 ≤ n) (hn : n ≤ max) (i : Nat) :
    (nextNumber max)^[i] n = (n - 1 + i) % max + 1 := by
  induction i with
  | zero =>
    rw [Function.iterate_zero_apply, Nat.add_zero, Nat.mod_eq_of_lt (by omega)]
    omega
  | succ i ih =>
    have hlt := Nat.mod_lt (n - 1 + i) (show max > 0 by omega)
    have hstep : (n - 1 + (i + 1)) % max = ((n - 1 + i) % max + 1) % max := by rw [Nat.mod_add_mod, Nat.add_assoc]
    rw [Function.iterate_succ_apply', ih, hstep, nextNumber]
    split
    · next hle =>
      have heq : (n - 1 + i) % max + 1 = max := by omega
      rw [heq, Nat.mod_self]
    · next hgt =>
      have hsmall : ((n - 1 + i) % max + 1) % max = (n - 1 + i) % max + 1 := Nat.mod_eq_of_lt (by omega)
      rw [hsmall]

/-- R144: a search that ends at a number in use has met numbers in use alone. -/
theorem used_of_unusedNumber {max : Nat} {used : List Nat} {fuel n : Nat} (h : unusedNumber max used fuel n ∈ used) :
    ∀ i, i < fuel → (nextNumber max)^[i] n ∈ used := by
  induction fuel generalizing n with
  | zero => intro i hi; omega
  | succ fuel ih =>
    rw [unusedNumber] at h
    split at h
    · next hn =>
      intro i hi
      cases i with
      | zero => exact hn
      | succ i => exact ih h i (by omega)
    · next hn => exact absurd h hn

/-- R133, R144: more steps than numbers in use find one that is not. -/
theorem unusedNumber_unused {max : Nat} {used : List Nat} {fuel n : Nat} (h1 : 1 ≤ n) (hn : n ≤ max) (hfuel : fuel ≤ max)
    (hused : used.length < fuel) : unusedNumber max used fuel n ∉ used := by
  intro hmem
  have hrun := used_of_unusedNumber hmem
  have hinj : ∀ i ∈ List.range fuel, ∀ j ∈ List.range fuel, (nextNumber max)^[i] n = (nextNumber max)^[j] n → i = j := by
    intro i hi j hj heq
    have hi := List.mem_range.mp hi
    have hj := List.mem_range.mp hj
    rw [nextNumber_iterate h1 hn, nextNumber_iterate h1 hn, Nat.add_right_cancel_iff] at heq
    have hmod : i ≡ j [MOD max] := Nat.ModEq.add_left_cancel' (n - 1) heq
    exact hmod.eq_of_lt_of_lt (by omega) (by omega)
  have hsubset : ((List.range fuel).map fun i => (nextNumber max)^[i] n) ⊆ used := by
    intro x hx
    obtain ⟨i, hi, rfl⟩ := List.mem_map.mp hx
    exact hrun i (List.mem_range.mp hi)
  have hle := ((List.Nodup.map_on hinj List.nodup_range).subperm hsubset).length_le
  rw [List.length_map, List.length_range] at hle
  omega

/-- R144: a number that is not in use is taken at once. -/
theorem unusedNumber_of_notMem {max : Nat} {used : List Nat} {n : Nat} (h : n ∉ used) (fuel : Nat) :
    unusedNumber max used fuel n = n := by
  cases fuel with
  | zero => rfl
  | succ fuel => rw [unusedNumber, if_neg h]

/-! ### Lanes and candidates (R122, R126) -/

/-- Each number of a numbered table lies in its range. -/
theorem numbered_get?_range {α : Type} {n : Nat} {t : Table α} (h : numbered n t = true) {k : Nat} {v : α}
    (hk : t.get? k = some v) : 1 ≤ k ∧ k ≤ n := by
  have hmem : k ∈ t.map fun e => e.1 := List.mem_map.mpr ⟨(k, v), Table.mem_of_get? hk, rfl⟩
  rw [of_decide_eq_true h] at hmem
  obtain ⟨i, hi, rfl⟩ := List.mem_map.mp hmem
  have := List.mem_range.mp hi
  omega

/-- R126: the lane's open bag is of the parcel's lot, or it has none. -/
def DistributionUnit.FitsLot (u : DistributionUnit) (slot : Nat) (l : Lane) : Prop :=
  ∀ number k b, l.bag = some number → u.findBag number = some (k, b) → b.slot = slot

theorem DistributionUnit.otherLot_iff (u : DistributionUnit) (slot : Nat) (l : Lane) :
    u.otherLot slot l = false ↔ u.FitsLot slot l := by
  unfold DistributionUnit.otherLot DistributionUnit.FitsLot
  cases hbag : l.bag with
  | none => simp
  | some number =>
    have hfits : (∀ number' k b, some number = some number' → u.findBag number' = some (k, b) → b.slot = slot) ↔
        ∀ k b, u.findBag number = some (k, b) → b.slot = slot :=
      ⟨fun h k b => h number k b rfl, fun h number' k b heq => Option.some.inj heq ▸ h k b⟩
    rw [hfits]
    cases hfind : u.findBag number with
    | none => simp [hfind]
    | some e =>
      obtain ⟨k, b⟩ := e
      simp [hfind]

/-- R126: a candidate lane of a set for a parcel of a lot slot. -/
def DistributionUnit.Candidate (u : DistributionUnit) (lanes : List Nat) (slot n : Nat) : Prop :=
  n ∈ lanes ∧ ∃ l, u.lanes.get? n = some l ∧ l.state = .accepting ∧ u.FitsLot slot l

theorem DistributionUnit.mem_candidates_iff {u : DistributionUnit} (h : u.lanes.wf = true) (lanes : List Nat) (slot n : Nat) :
    n ∈ u.candidates lanes slot ↔ u.Candidate lanes slot n := by
  have hfilter : ∀ e : Nat × Lane, (decide (e.1 ∈ lanes) && decide (e.2.state = .accepting) && !u.otherLot slot e.2) = true ↔
      e.1 ∈ lanes ∧ e.2.state = .accepting ∧ u.FitsLot slot e.2 := fun e => by
    rw [Bool.and_eq_true, Bool.and_eq_true, decide_eq_true_iff, decide_eq_true_iff, Bool.not_eq_true', u.otherLot_iff, and_assoc]
  unfold DistributionUnit.candidates DistributionUnit.Candidate
  constructor
  · intro hn
    obtain ⟨⟨k, l⟩, hmem, rfl⟩ := List.mem_map.mp hn
    obtain ⟨hmem, hl⟩ := List.mem_filter.mp hmem
    obtain ⟨hlanes, hstate, hfits⟩ := (hfilter _).mp hl
    exact ⟨hlanes, l, Table.get?_of_mem h hmem, hstate, hfits⟩
  · rintro ⟨hlanes, l, hget, hstate, hfits⟩
    exact List.mem_map.mpr ⟨(n, l), List.mem_filter.mpr ⟨Table.mem_of_get? hget, (hfilter _).mpr ⟨hlanes, hstate, hfits⟩⟩, rfl⟩

/-- R126: candidates come in rising order. -/
theorem DistributionUnit.candidates_rising {u : DistributionUnit} (h : u.lanes.wf = true) (lanes : List Nat) (slot : Nat) :
    (u.candidates lanes slot).Pairwise (· < ·) :=
  ((Table.wf_iff _).mp h).sublist (List.filter_sublist.map _)

/-! ### The pick (R127) -/

/-- R127: the run pointer keeps its lane below the run length, or moves to the next candidate in the cyclic order. -/
def Picked (candidate : Nat → Prop) (x : RunPointer) (run n : Nat) (y : RunPointer) : Prop :=
  (x.last = some n ∧ x.counter < run ∧ y = x) ∨
    (¬(∃ m, x.last = some m ∧ candidate m ∧ x.counter < run) ∧ y = ⟨some n, 0⟩ ∧ (x.last = none → ∀ d, candidate d → n ≤ d) ∧
      ∀ m d, x.last = some m → candidate d → ((n : Int) - m - 1) % 4 ≤ ((d : Int) - m - 1) % 4)

section Pick
variable {cs : List Nat} (hr : ∀ m ∈ cs, 1 ≤ m ∧ m ≤ 4) (x : RunPointer) (run : Nat)
include hr

/-- R127: the first candidate after lane `m` in the cyclic order. -/
theorem find?_cyclicAfter {m n : Nat} (hn : n ∈ cs) (hmin : ∀ d ∈ cs, ((n : Int) - m - 1) % 4 ≤ ((d : Int) - m - 1) % 4) :
    (cyclicAfter m).find? (fun d => decide (d ∈ cs)) = some n := by
  obtain ⟨h1, h4⟩ := hr n hn
  have hskip : ∀ i : Nat, i < 4 → (i : Int) < ((n : Int) - m - 1) % 4 → (m + i) % 4 + 1 ∉ cs := by
    intro i hi hlt hmem
    have := hmin _ hmem
    push_cast at this
    omega
  have hskip0 : ((0 : Nat) : Int) < ((n : Int) - m - 1) % 4 → m % 4 + 1 ∉ cs := hskip 0 (by omega)
  have hskip1 := hskip 1 (by omega)
  have hskip2 := hskip 2 (by omega)
  have hcases : n = m % 4 + 1 ∨ n = (m + 1) % 4 + 1 ∨ n = (m + 2) % 4 + 1 ∨ n = (m + 3) % 4 + 1 := by omega
  rcases hcases with rfl | rfl | rfl | rfl
  · simp [cyclicAfter, hn]
  · simp [cyclicAfter, hn, hskip0 (by push_cast; omega)]
  · simp [cyclicAfter, hn, hskip0 (by push_cast; omega), hskip1 (by push_cast; omega)]
  · simp [cyclicAfter, hn, hskip0 (by push_cast; omega), hskip1 (by push_cast; omega), hskip2 (by push_cast; omega)]

theorem pickLane_picked (hs : cs.Pairwise (· < ·)) {n : Nat} {y : RunPointer} (hn : n ∈ cs) (h : Picked (· ∈ cs) x run n y) :
    pickLane x run cs = some (n, y) := by
  unfold pickLane
  rcases h with ⟨hlast, hrun, rfl⟩ | ⟨hmove, rfl, hfirst, hnext⟩
  · simp only [hlast, hn, hrun, and_self, if_true]
  · cases hlast : x.last with
    | none =>
      obtain ⟨c, rest, rfl⟩ := List.exists_cons_of_ne_nil (List.ne_nil_of_mem hn)
      have hle := hfirst hlast c List.mem_cons_self
      have heq : c = n := by
        rcases List.mem_cons.mp hn with heq | hrest
        · exact heq.symm
        · have := List.rel_of_pairwise_cons hs hrest
          omega
      rw [heq]
      rfl
    | some m =>
      have hkeep : ¬(m ∈ cs ∧ x.counter < run) := fun hm => hmove ⟨m, hlast, hm⟩
      simp only [if_neg hkeep, find?_cyclicAfter hr hn fun d hd => hnext m d hlast hd, Option.map_some]

/-- R126: without a pick there is no candidate. -/
theorem pickLane_none (h : pickLane x run cs = none) : cs = [] := by
  refine List.eq_nil_iff_forall_not_mem.mpr fun d hd => ?_
  obtain ⟨h1, h4⟩ := hr d hd
  unfold pickLane at h
  cases hlast : x.last with
  | none =>
    simp only [hlast, Option.map_eq_none_iff, List.head?_eq_none_iff] at h
    rw [h] at hd
    nomatch hd
  | some m =>
    simp only [hlast] at h
    split at h
    · nomatch h
    · have hnot := List.find?_eq_none.mp (Option.map_eq_none_iff.mp h)
      have hcases : d = m % 4 + 1 ∨ d = (m + 1) % 4 + 1 ∨ d = (m + 2) % 4 + 1 ∨ d = (m + 3) % 4 + 1 := by omega
      have hmem : d ∈ cyclicAfter m := by simpa [cyclicAfter] using hcases
      exact hnot d hmem (decide_eq_true hd)

omit hr in
theorem pickLane_mem {n : Nat} {y : RunPointer} (h : pickLane x run cs = some (n, y)) : n ∈ cs := by
  unfold pickLane at h
  split at h
  · split at h
    · next hm =>
      cases h
      exact hm.1
    · obtain ⟨d, hd, heq⟩ := Option.map_eq_some_iff.mp h
      cases heq
      exact of_decide_eq_true (List.find?_some (p := fun d => decide (d ∈ cs)) hd)
  · obtain ⟨d, hd, heq⟩ := Option.map_eq_some_iff.mp h
    cases heq
    exact List.mem_of_mem_head? hd

end Pick

end Sys2Proof.Machine
end

section
/-! ## The parts of the lane choice (R125 to R130, R133, R134) -/

namespace Sys2Proof.Machine

-- One declaration after the other, so that the text needs one thread for them and not one each.
set_option Elab.async false

/-! ### The gate of a lane and of lane 0 (R122, R130) -/

/-- R130: a parcel for lane `n` goes through: its gate is open, or no gate is open and no dead time runs (log 6). -/
def State.Passable (s : State) (n : Nat) : Prop :=
  s.dist.openGate = some n ∨ (s.dist.openGate = none ∧ s.time.timers.get? 5 = none ∧ TimerId.gate ∉ s.time.expired)

theorem State.requestGate_passable {s : State} {n : Nat} (h : s.Passable n) :
    (s.requestGate n).dist = { s.dist with openGate := some n } := by
  rcases h with hopen | ⟨hopen, hidle, hexp⟩
  · rw [State.requestGate_open hopen, ← hopen]
  · rw [State.requestGate_ended hopen fun hr => (TimeUnit.gateRunning_iff _).mp hr ⟨hidle, hexp⟩]

theorem State.requestGate_busy {s : State} {n : Nat} (h : ¬s.Passable n) :
    (s.requestGate n).dist = { s.dist with openGate := none, pendingGate := some n } := by
  obtain ⟨hn, hended⟩ := not_or.mp h
  cases hopen : s.dist.openGate with
  | none =>
    have hr : s.time.gateRunning = true := (TimeUnit.gateRunning_iff _).mpr fun hidle => hended ⟨hopen, hidle⟩
    rw [State.requestGate_running hopen hr, ← hopen]
  | some a =>
    rw [State.requestGate_other hopen fun hab => hn (hopen.trans (congrArg some hab))]
    rfl

theorem State.requestGate_parcel (s : State) (n : Nat) : (s.requestGate n).parcel = s.parcel := by
  unfold State.requestGate
  (repeat' split) <;> rfl

/-- R122, R130: a parcel sent to lane 0 is counted, and closes an open gate. -/
theorem State.toLaneZero_dist (s : State) (c : LaneZeroCause) : (s.toLaneZero c).1.dist = { s.dist with
    lane0 := s.dist.lane0.add c, openGate := none
    pendingGate := if s.dist.openGate = none then s.dist.pendingGate else none } := by
  unfold State.toLaneZero
  dsimp only
  cases hopen : s.dist.openGate with
  | none =>
    rw [State.requestLaneZero_closed (s := s.countLaneZero c) hopen, if_pos rfl, ← hopen]
    rfl
  | some a =>
    rw [State.requestLaneZero_open (s := s.countLaneZero c) hopen, if_neg (Option.some_ne_none a)]
    rfl

/-- An entry of a table whose record has been changed. -/
theorem Table.mem_modify_self {α : Type} {t : Table α} {k : Nat} {v : α} (h : (k, v) ∈ t) (f : α → α) :
    (k, f v) ∈ t.modify k f := by
  unfold Table.modify
  induction t with
  | nil => nomatch h
  | cons e t ih =>
    rcases List.mem_cons.mp h with heq | h
    · rw [← heq, Table.mapVals, if_pos rfl]
      exact List.mem_cons_self
    · exact List.mem_cons_of_mem _ (ih h)

/-! ### A parcel diverted into a lane (R133, R134) -/

/-- R126, R134: a lane sent to SEALING, close after seal clear. -/
def Lane.sentOff (l : Lane) : Lane := { l with state := .sealing, closeAfter := false }

/-- From `s` to `t` of the distribution unit lane `n`, the bags and the last bag number alone may change. -/
structure BagTaken (s : State) (n : Nat) (t : State) : Prop where
  frame : t.dist = { s.dist with lanes := t.dist.lanes, bags := t.dist.bags, lastBag := t.dist.lastBag }
  others : ∀ k, k ≠ n → t.dist.lanes.get? k = s.dist.lanes.get? k

/-- R134: the bag of this number is of the parcel's lot and holds the parcel as its last. -/
def State.HoldsParcel (t : State) (p : Parcel) (number : Nat) : Prop :=
  ∃ k b, (k, b) ∈ t.dist.bags ∧ b.number = number ∧ b.slot = p.slot ∧ b.lastSeq = p.seq ∧ b.minCredit ≤ p.credit

section Divert
variable (s : State) (n stamp : Nat) (p : Parcel)

theorem State.joinBag_cases (k : Nat) :
    s.joinBag k n p = (s.onDist fun u => { u with bags := u.bags.modify k (Bag.join p) }).onLane n Lane.sentOff ∨
      s.joinBag k n p = s.onDist fun u => { u with bags := u.bags.modify k (Bag.join p) } := by
  unfold State.joinBag
  dsimp only
  split
  · split
    · exact Or.inl rfl
    · exact Or.inr rfl
  · exact Or.inr rfl

/-- R134: the bag that has taken its 255th parcel sends the lane to SEALING. -/
theorem State.joinBag_of_get? {s : State} {k : Nat} {b : Bag} (h : s.dist.bags.get? k = some b) : s.joinBag k n p =
    if 255 ≤ b.parcels + 1 then (s.onDist fun u => { u with bags := u.bags.modify k (Bag.join p) }).onLane n Lane.sentOff
    else s.onDist fun u => { u with bags := u.bags.modify k (Bag.join p) } := by
  have hjoined : (s.onDist fun u => { u with bags := u.bags.modify k (Bag.join p) }).dist.bags.get? k = some (b.join p) := by
    show (s.dist.bags.modify k _).get? k = _
    rw [Table.get?_modify_self, h]
    rfl
  unfold State.joinBag
  dsimp only
  rw [hjoined]
  rfl

theorem BagTaken.joinBag (k : Nat) : BagTaken s n (s.joinBag k n p) := by
  rcases s.joinBag_cases n p k with h | h
  · rw [h]
    exact ⟨rfl, fun _ hj => State.onLane_ne _ hj _⟩
  · rw [h]
    exact ⟨rfl, fun _ _ => rfl⟩

theorem State.joinBag_bags (k : Nat) : (s.joinBag k n p).dist.bags = s.dist.bags.modify k (Bag.join p) := by
  rcases s.joinBag_cases n p k with h | h <;> rw [h] <;> rfl

theorem State.joinBag_keeps (k : Nat) : (s.joinBag k n p).parcel = s.parcel ∧ (s.joinBag k n p).dist.lastBag = s.dist.lastBag := by
  rcases s.joinBag_cases n p k with h | h <;> rw [h] <;> exact ⟨rfl, rfl⟩

theorem BagTaken.openBag (k : Nat) : BagTaken s n (s.openBag k n stamp p).1 :=
  ⟨rfl, fun _ hj => State.onLane_ne (s.onDist _) hj _⟩

theorem BagTaken.divert : BagTaken s n (s.divert n stamp p).1 := by
  unfold State.divert
  split
  · exact .joinBag s n p _
  · split
    · exact .openBag s n stamp p _
    · exact ⟨rfl, fun _ _ => rfl⟩

variable {s n} {l : Lane} (hl : s.dist.lanes.get? n = some l)
include hl

theorem State.divert_joins {number k : Nat} {b : Bag} (hb : l.bag = some number) (hf : s.dist.findBag number = some (k, b)) :
    s.divert n stamp p = (s.joinBag k n p, some number) := by
  obtain ⟨-, hnumber⟩ := Table.first?_some hf
  simp only [State.divert, hl, Option.bind_some, hb, hf]
  rw [of_decide_eq_true hnumber]

theorem State.divert_opens {k : Nat} (hb : l.bag = none) (hfree : s.dist.bags.freeKey 0 32 = some k) :
    s.divert n stamp p = ((s.openBag k n stamp p).1, some s.dist.nextBag) := by
  have hfree : s.dist.bags.freeKey 0 Config.bagCount = some k := hfree
  simp only [State.divert, hl, Option.bind_some, hb, Option.bind_none, hfree]
  rfl

/-- R134: the bag a diverted parcel joins or opens is of its lot, and holds it as its last. -/
theorem State.divert_bag (hfits : s.dist.FitsLot p.slot l) {number : Nat} (h : (s.divert n stamp p).2 = some number) :
    (s.divert n stamp p).1.HoldsParcel p number := by
  unfold State.divert at h ⊢
  split at h
  · next k b hfound =>
    simp only [hl, Option.bind_some] at hfound
    obtain ⟨number', hb, hf⟩ := Option.bind_eq_some_iff.mp hfound
    obtain ⟨hmem, -⟩ := Table.first?_some hf
    refine ⟨k, b.join p, ?_, Option.some.inj h, hfits number' k b hb hf, rfl, Nat.min_le_right _ _⟩
    show _ ∈ (s.joinBag k n p).dist.bags
    rw [s.joinBag_bags n p k]
    exact Table.mem_modify_self hmem _
  · split at h
    · next k _ =>
      exact ⟨k, _, Table.mem_of_get? (Table.get?_put_self ..), Option.some.inj h, rfl, rfl, Nat.le_refl _⟩
    · nomatch h

end Divert

/-! ### The chosen lane (R128 to R130) -/

section UseLane
variable {s : State} {n : Nat} {l : Lane} (hl : s.dist.lanes.get? n = some l) (p : Parcel) (stamp : Nat)
include hl

theorem State.useLane_noBag (hb : l.bag = none) (hfull : ¬s.dist.hasFreeBag = true) :
    s.useLane n p stamp = (s.onLane n fun l => { l with state := .blocked }).toLaneZero .noBag := by
  simp [State.useLane, hl, hb, hfull]

theorem State.useLane_room (h : l.bag ≠ none ∨ s.dist.hasFreeBag = true) : s.useLane n p stamp = s.passGate n p stamp := by
  simp only [State.useLane, hl, Option.bind_some, Option.isNone_iff_eq_none]
  refine if_neg ?_
  rintro ⟨hb, hfull⟩
  rcases h with h | h
  · exact h hb
  · rw [hfull] at h
    nomatch h

omit hl in
theorem State.passGate_passable (h : s.Passable n) : s.passGate n p stamp =
    (((s.requestGate n).divert n stamp p).1.countRun p.cls, ⟨n, none, ((s.requestGate n).divert n stamp p).2⟩) := by
  unfold State.passGate
  dsimp only
  rw [if_pos (by rw [State.requestGate_passable h])]

omit hl in
theorem State.passGate_busy (h : ¬s.Passable n) : s.passGate n p stamp =
    ((s.requestGate n).countLaneZero .gateBusy, ⟨0, some .gateBusy, none⟩) := by
  unfold State.passGate
  dsimp only
  rw [if_neg (by rw [State.requestGate_busy h]; exact (Option.some_ne_none n).symm)]

end UseLane

/-- What the choice of lane `n` may leave of `s`: a parcel in the lane's bag, or one at lane 0. -/
structure LaneUsed (s : State) (n : Nat) (p : Parcel) (t : State) (r : LaneResult) : Prop where
  lanes : ∀ k, k ≠ n → t.dist.lanes.get? k = s.dist.lanes.get? k
  pointers : ∀ k, k ≠ p.cls → t.dist.pointers.get? k = s.dist.pointers.get? k
  result : (r.lane = n ∧ r.cause = none ∧ t.dist.openGate = some n) ∨ (r.lane = 0 ∧ r.cause ≠ none ∧ r.bag = none)
  bag : ∀ number, r.bag = some number → t.HoldsParcel p number

theorem LaneUsed.useLane {s : State} {n : Nat} {l : Lane} (hl : s.dist.lanes.get? n = some l) {p : Parcel}
    (hfits : s.dist.FitsLot p.slot l) (stamp : Nat) :
    LaneUsed s n p (s.useLane n p stamp).1 (s.useLane n p stamp).2 := by
  by_cases hroom : l.bag ≠ none ∨ s.dist.hasFreeBag = true
  · rw [State.useLane_room hl p stamp hroom]
    by_cases hpass : s.Passable n
    · have hgate := State.requestGate_passable hpass
      have htaken := BagTaken.divert (s.requestGate n) n stamp p
      have hlane : (s.requestGate n).dist.lanes.get? n = some l := by rw [hgate]; exact hl
      have hfits' : (s.requestGate n).dist.FitsLot p.slot l := by rw [hgate]; exact hfits
      rw [State.passGate_passable p stamp hpass]
      constructor
      case lanes => exact fun k hk => (htaken.others k hk).trans (by rw [hgate])
      case pointers =>
        intro k hk
        refine (Table.get?_modify_ne _ _ hk).trans ?_
        rw [htaken.frame, hgate]
      case result =>
        refine Or.inl ⟨rfl, rfl, ?_⟩
        show ((s.requestGate n).divert n stamp p).1.dist.openGate = _
        rw [htaken.frame, hgate]
      case bag => exact fun number hnumber => State.divert_bag stamp p hlane hfits' hnumber
    · rw [State.passGate_busy p stamp hpass]
      have hdist : ((s.requestGate n).countLaneZero .gateBusy).dist.lanes = s.dist.lanes ∧
          ((s.requestGate n).countLaneZero .gateBusy).dist.pointers = s.dist.pointers := by
        rw [State.countLaneZero, State.onDist_dist, State.requestGate_busy hpass]
        exact ⟨rfl, rfl⟩
      exact ⟨fun k _ => by rw [hdist.1], fun k _ => by rw [hdist.2], Or.inr ⟨rfl, nofun, rfl⟩, nofun⟩
  · obtain ⟨hb, hfull⟩ := not_or.mp hroom
    rw [State.useLane_noBag hl p stamp (not_not.mp hb) hfull]
    refine ⟨fun k hk => ?_, fun k _ => ?_, Or.inr ⟨rfl, nofun, rfl⟩, nofun⟩
    · rw [State.toLaneZero_dist]
      exact s.onLane_ne hk _
    · rw [State.toLaneZero_dist]
      rfl

/-! ### Lot breaks and the pick (R126, R127) -/

/-- R126, R127: the lot breaks made, and the run pointer of the parcel's class as the pick leaves it. -/
def State.pointed (e : ClassEntry) (p : Parcel) (y : RunPointer) (s : State) : State :=
  (s.lotBreak e.lanes p.slot).onDist fun u => { u with pointers := u.pointers.put p.cls y }

section LotBreak
variable {s : State} {lanes : List Nat} {slot n : Nat} {l : Lane} (hl : s.dist.lanes.get? n = some l)
include hl

theorem State.lotBreak_lane : (s.lotBreak lanes slot).dist.lanes.get? n =
    some (if n ∈ lanes ∧ l.state = .accepting ∧ s.dist.otherLot slot l = true then l.sentOff else l) := by
  show (s.dist.lanes.mapVals _).get? n = _
  rw [Table.get?_mapVals, hl]
  rfl

/-- R126: a lane that is not of the set, does not accept, or fits the lot, stays. -/
theorem State.lotBreak_kept (h : n ∉ lanes ∨ l.state ≠ .accepting ∨ s.dist.FitsLot slot l) :
    (s.lotBreak lanes slot).dist.lanes.get? n = some l := by
  rw [State.lotBreak_lane hl, if_neg]
  rintro ⟨hmem, hstate, hother⟩
  rcases h with h | h | h
  · exact h hmem
  · exact h hstate
  · rw [(s.dist.otherLot_iff slot l).mpr h] at hother
    nomatch hother

theorem State.lotBreak_broken (hmem : n ∈ lanes) (hstate : l.state = .accepting) (h : ¬s.dist.FitsLot slot l) :
    (s.lotBreak lanes slot).dist.lanes.get? n = some l.sentOff := by
  rw [State.lotBreak_lane hl, if_pos]
  refine ⟨hmem, hstate, ?_⟩
  rwa [← s.dist.otherLot_iff, Bool.not_eq_false] at h

end LotBreak

/-- R126: the lot breaks leave the candidates as they are. -/
theorem State.lotBreak_candidate (s : State) (lanes : List Nat) (slot n : Nat) :
    (s.lotBreak lanes slot).dist.Candidate lanes slot n ↔ s.dist.Candidate lanes slot n := by
  refine and_congr_right fun hmem => ⟨?_, ?_⟩
  · rintro ⟨l, hget, hstate, hfits⟩
    have hget' := hget
    obtain ⟨l', hl', -⟩ := Option.map_eq_some_iff.mp ((Table.get?_mapVals _ s.dist.lanes n).symm.trans hget')
    rw [State.lotBreak_lane hl'] at hget
    cases hget
    split at hstate
    · nomatch hstate
    · next hkept =>
      rw [if_neg hkept] at hfits
      exact ⟨l', hl', hstate, hfits⟩
  · rintro ⟨l, hget, hstate, hfits⟩
    exact ⟨l, State.lotBreak_kept hget (Or.inr (Or.inr hfits)), hstate, hfits⟩

section Choose
variable {s : State} (hlanes : numbered 4 s.dist.lanes = true) (e : ClassEntry) (p : Parcel) (stamp : Nat)
include hlanes

theorem State.mem_candidates (n : Nat) : n ∈ (s.lotBreak e.lanes p.slot).dist.candidates e.lanes p.slot ↔
    s.dist.Candidate e.lanes p.slot n := by
  have hwf : (s.lotBreak e.lanes p.slot).dist.lanes.wf = true := (Table.wf_mapVals ..).trans (Table.wf_of_numbered hlanes)
  rw [DistributionUnit.mem_candidates_iff hwf, s.lotBreak_candidate]

theorem State.candidates_range : ∀ m ∈ (s.lotBreak e.lanes p.slot).dist.candidates e.lanes p.slot, 1 ≤ m ∧ m ≤ 4 := by
  intro m hm
  obtain ⟨-, l, hl, -⟩ := (State.mem_candidates hlanes e p m).mp hm
  exact numbered_get?_range hlanes hl

theorem State.chooseLane_picked {x y : RunPointer} (hx : s.dist.pointers.get? p.cls = some x) {n : Nat}
    (hn : s.dist.Candidate e.lanes p.slot n) (h : Picked (s.dist.Candidate e.lanes p.slot) x e.run n y) :
    s.chooseLane e p stamp = (s.pointed e p y).useLane n p stamp := by
  have hwf : (s.lotBreak e.lanes p.slot).dist.lanes.wf = true := (Table.wf_mapVals ..).trans (Table.wf_of_numbered hlanes)
  have hsame : s.dist.Candidate e.lanes p.slot = (· ∈ (s.lotBreak e.lanes p.slot).dist.candidates e.lanes p.slot) :=
    funext fun m => propext (State.mem_candidates hlanes e p m).symm
  rw [hsame] at hn h
  have hpick := pickLane_picked (State.candidates_range hlanes e p) x e.run (DistributionUnit.candidates_rising hwf e.lanes p.slot) hn h
  unfold State.chooseLane
  dsimp only
  rw [hx, Option.getD_some, hpick]
  rfl

/-- R126, R127: the choice sends the parcel on to a candidate, or to lane 0 where there is none. -/
theorem State.chooseLane_cases :
    ((∀ n, ¬s.dist.Candidate e.lanes p.slot n) ∧ s.chooseLane e p stamp = (s.lotBreak e.lanes p.slot).toLaneZero .noLane) ∨
    ∃ n y, s.dist.Candidate e.lanes p.slot n ∧ s.chooseLane e p stamp = (s.pointed e p y).useLane n p stamp := by
  unfold State.chooseLane
  dsimp only
  split
  · next n y hpick =>
    exact Or.inr ⟨n, y, (State.mem_candidates hlanes e p n).mp (pickLane_mem _ _ hpick), rfl⟩
  · next hpick =>
    refine Or.inl ⟨fun n hn => ?_, rfl⟩
    have hmem := (State.mem_candidates hlanes e p n).mpr hn
    rw [pickLane_none (State.candidates_range hlanes e p) _ _ hpick] at hmem
    nomatch hmem

end Choose

end Sys2Proof.Machine
end

section
/-! ## What the lane choice leaves (R119, R122, R125 to R130, R133, R134) -/

namespace Sys2Proof.Machine

-- One declaration after the other, so that the text needs one thread for them and not one each.
set_option Elab.async false

/-! ### Which parcels are diverted (R125) -/

theorem State.distribute_proving {p : Parcel} (h : p.proving = true) (v : VerdictRecord) (s : State) :
    s.distribute p v = s.toLaneZero .proving := if_pos h

theorem State.distribute_held {p : Parcel} {v : VerdictRecord} (hp : p.proving = false) (h : v.reasons.isHeld = true) (s : State) :
    s.distribute p v = s.toLaneZero .held := by
  unfold State.distribute
  rw [if_neg (Bool.not_eq_true _ ▸ hp), if_pos h]

section Released
variable {p : Parcel} {v : VerdictRecord} (hp : p.proving = false) (hv : v.reasons.isHeld = false)
include hp hv

theorem State.distribute_classless (h : p.cls = 0) (s : State) : s.distribute p v = s.toLaneZero .class0 := by
  unfold State.distribute
  rw [if_neg (Bool.not_eq_true _ ▸ hp), if_neg (Bool.not_eq_true _ ▸ hv), if_pos h]

theorem State.distribute_mapped (hc : p.cls ≠ 0) {s : State} {e : ClassEntry} (he : s.dist.live.get? p.cls = some e) :
    s.distribute p v = s.chooseLane e p v.time := by
  unfold State.distribute
  rw [if_neg (Bool.not_eq_true _ ▸ hp), if_neg (Bool.not_eq_true _ ▸ hv), if_neg hc, he]

theorem State.distribute_unmapped (hc : p.cls ≠ 0) {s : State} (he : s.dist.live.get? p.cls = none) :
    s.distribute p v = s.toLaneZero .noLane := by
  unfold State.distribute
  rw [if_neg (Bool.not_eq_true _ ▸ hp), if_neg (Bool.not_eq_true _ ▸ hv), if_neg hc, he]

end Released

/-- R125: a parcel goes to lane 0, or its class is mapped and it is sent on through a lane of the class's set. -/
theorem State.distribute_cases {s : State} (hlanes : numbered 4 s.dist.lanes = true) (p : Parcel) (v : VerdictRecord) :
    (∃ (u : State) (c : LaneZeroCause), s.distribute p v = u.toLaneZero c) ∨
    (p.proving = false ∧ v.reasons.isHeld = false ∧ p.cls ≠ 0 ∧ ∃ e n y, s.dist.live.get? p.cls = some e ∧
      s.dist.Candidate e.lanes p.slot n ∧ s.distribute p v = (s.pointed e p y).useLane n p v.time) := by
  cases hp : p.proving with
  | true => exact Or.inl ⟨s, _, State.distribute_proving hp v s⟩
  | false =>
  cases hv : v.reasons.isHeld with
  | true => exact Or.inl ⟨s, _, State.distribute_held hp hv s⟩
  | false =>
  by_cases hc : p.cls = 0
  · exact Or.inl ⟨s, _, State.distribute_classless hp hv hc s⟩
  · cases he : s.dist.live.get? p.cls with
    | none => exact Or.inl ⟨s, _, State.distribute_unmapped hp hv hc he⟩
    | some e =>
      rw [State.distribute_mapped hp hv hc he]
      rcases State.chooseLane_cases hlanes e p v.time with ⟨-, h⟩ | ⟨n, y, hn, h⟩
      · exact Or.inl ⟨_, _, h⟩
      · exact Or.inr ⟨rfl, rfl, hc, e, n, y, rfl, hn, h⟩

/-! ### The lanes and pointers a choice leaves (R126, R127) -/

section Keeps
variable {s : State} {n : Nat} {l : Lane} (e : ClassEntry) {p : Parcel} (y : RunPointer)

/-- R126: a candidate is untouched by the lot breaks. -/
theorem State.pointed_candidate (hl : s.dist.lanes.get? n = some l) (hn : s.dist.Candidate e.lanes p.slot n) :
    (s.pointed e p y).dist.lanes.get? n = some l ∧ s.dist.FitsLot p.slot l := by
  obtain ⟨-, l', hl', -, hfits⟩ := hn
  cases hl.symm.trans hl'
  exact ⟨State.lotBreak_kept hl (Or.inr (Or.inr hfits)), hfits⟩

theorem State.pointed_pointer (x : RunPointer) : (s.pointed e p x).dist.pointers.get? p.cls = some x := Table.get?_put_self ..

end Keeps

/-- R126, R127: apart from a chosen candidate the lanes are as the lot breaks leave them; pointers of other classes stay. -/
structure Chosen (s : State) (e : ClassEntry) (p : Parcel) (t : State) (r : LaneResult) : Prop where
  pointers : ∀ k, k ≠ p.cls → t.dist.pointers.get? k = s.dist.pointers.get? k
  lanes : ∀ n, ¬s.dist.Candidate e.lanes p.slot n → t.dist.lanes.get? n = (s.lotBreak e.lanes p.slot).dist.lanes.get? n
  lane : r.lane = 0 ∨ s.dist.Candidate e.lanes p.slot r.lane

theorem Chosen.chooseLane {s : State} (hlanes : numbered 4 s.dist.lanes = true) (e : ClassEntry) (p : Parcel) (stamp : Nat) :
    Chosen s e p (s.chooseLane e p stamp).1 (s.chooseLane e p stamp).2 := by
  rcases State.chooseLane_cases hlanes e p stamp with ⟨-, h⟩ | ⟨n, y, hn, h⟩
  · rw [h]
    have hdist := (s.lotBreak e.lanes p.slot).toLaneZero_dist .noLane
    exact ⟨fun k _ => by rw [hdist]; rfl, fun m _ => by rw [hdist], Or.inl rfl⟩
  · obtain ⟨-, l, hl, -⟩ := id hn
    obtain ⟨hlane, hfits⟩ := State.pointed_candidate e y hl hn
    have hused := LaneUsed.useLane hlane (p := p) hfits stamp
    rw [h]
    refine ⟨fun k hk => (hused.pointers k hk).trans (Table.get?_put_ne _ _ hk), fun m hm => ?_, ?_⟩
    · exact hused.lanes m fun hmn => hm (hmn ▸ hn)
    · rcases hused.result with ⟨hr, -⟩ | ⟨hr, -⟩
      · rw [hr]
        exact Or.inr hn
      · exact Or.inl hr

/-- R122: SEAL DEMAND of a SEALING lane. -/
theorem State.finish_sealDemand {t : State} (hw : t.powered = true) (hp : t.pin = false) {n : Nat} (h1 : 1 ≤ n) (h4 : n ≤ 4)
    {l : Lane} (hl : t.dist.lanes.get? n = some l) (hs : l.state = .sealing) :
    t.finish.pins.sealDemand[n - 1]? = some true := by
  have hdemand : t.sealDemand n = true := by simp [State.sealDemand, hl, hs]
  have hpins : t.drivenPins.sealDemand = [1, 2, 3, 4].map t.sealDemand := by simp [State.drivenPins, hp, hw]
  rw [State.finish_pins, hpins, ← hdemand]
  interval_cases n <;> rfl

/-! ### A candidate used (R128 to R130, R133, R134) -/

section Use
variable {s : State} {n stamp : Nat} {l : Lane} {p : Parcel} (hl : s.dist.lanes.get? n = some l)
include hl

/-- R128: the lane is BLOCKED for want of a bag record. -/
theorem State.useLane_blocked (hb : l.bag = none) (hfull : ∀ k, k < 32 → s.dist.bags.get? k ≠ none) :
    (s.useLane n p stamp).2 = ⟨0, some .noBag, none⟩ ∧ (s.useLane n p stamp).1.dist = { s.dist with
      lanes := s.dist.lanes.modify n fun l => { l with state := .blocked }
      lane0 := { s.dist.lane0 with noBag := s.dist.lane0.noBag + 1 }, openGate := none
      pendingGate := if s.dist.openGate = none then s.dist.pendingGate else none } := by
  have hnone : ¬s.dist.hasFreeBag = true := fun h => by
    obtain ⟨k, hk, hfree⟩ := (s.dist.hasFreeBag_iff).mp h
    exact hfull k hk hfree
  rw [State.useLane_noBag hl p stamp hb hnone]
  exact ⟨rfl, State.toLaneZero_dist ..⟩

variable (hroom : l.bag ≠ none ∨ ∃ k, k < 32 ∧ s.dist.bags.get? k = none)
include hroom

/-- R129, R130: the gate of the lane cannot be opened yet. -/
theorem State.useLane_busy (h : ¬s.Passable n) :
    (s.useLane n p stamp).2 = ⟨0, some .gateBusy, none⟩ ∧ (s.useLane n p stamp).1.dist = { s.dist with
      openGate := none, pendingGate := some n
      lane0 := { s.dist.lane0 with gateBusy := s.dist.lane0.gateBusy + 1 } } := by
  rw [← s.dist.hasFreeBag_iff] at hroom
  rw [State.useLane_room hl p stamp hroom, State.passGate_busy p stamp h]
  refine ⟨rfl, ?_⟩
  rw [State.countLaneZero, State.onDist_dist, State.requestGate_busy h]
  rfl

theorem State.useLane_diverts (h : s.Passable n) : s.useLane n p stamp =
    (((s.requestGate n).divert n stamp p).1.countRun p.cls, ⟨n, none, ((s.requestGate n).divert n stamp p).2⟩) := by
  rw [← s.dist.hasFreeBag_iff] at hroom
  rw [State.useLane_room hl p stamp hroom, State.passGate_passable p stamp h]

/-- R129, R130: the parcel goes through the gate, and its class's run grows. -/
theorem State.useLane_passes {y : RunPointer} (hy : s.dist.pointers.get? p.cls = some y) (h : s.Passable n) :
    (s.useLane n p stamp).2.lane = n ∧ (s.useLane n p stamp).2.cause = none ∧
    (s.useLane n p stamp).1.dist.openGate = some n ∧ (s.useLane n p stamp).1.dist.lane0 = s.dist.lane0 ∧
    (s.useLane n p stamp).1.dist.pointers.get? p.cls = some { y with counter := y.counter + 1 } := by
  have hgate := State.requestGate_passable h
  have htaken := BagTaken.divert (s.requestGate n) n stamp p
  rw [State.useLane_diverts hl hroom h]
  refine ⟨rfl, rfl, ?_, ?_, ?_⟩
  · show ((s.requestGate n).divert n stamp p).1.dist.openGate = _
    rw [htaken.frame, hgate]
  · show ((s.requestGate n).divert n stamp p).1.dist.lane0 = _
    rw [htaken.frame, hgate]
  · show (((s.requestGate n).divert n stamp p).1.dist.pointers.modify p.cls _).get? p.cls = _
    rw [Table.get?_modify_self, htaken.frame, hgate, hy]
    rfl

/-- R134: the parcel joins the lane's open bag. -/
theorem State.useLane_joins (h : s.Passable n) {number k : Nat} {b : Bag} (hb : l.bag = some number)
    (hf : s.dist.findBag number = some (k, b)) {t : State} (ht : t = (s.useLane n p stamp).1) :
    (s.useLane n p stamp).2.bag = some number ∧ t.parcel.lots = s.parcel.lots ∧ t.dist.lastBag = s.dist.lastBag ∧
    (s.dist.bags.get? k = some b → t.dist.bags.get? k = some (b.join p) ∧
      (b.parcels + 1 < 255 → t.dist.lanes.get? n = some l) ∧ (255 ≤ b.parcels + 1 → t.dist.lanes.get? n = some l.sentOff)) ∧
    ∀ j, j ≠ k → t.dist.bags.get? j = s.dist.bags.get? j := by
  have hgate := State.requestGate_passable h
  have hlane : (s.requestGate n).dist.lanes.get? n = some l := by rw [hgate]; exact hl
  have hfound : (s.requestGate n).dist.findBag number = some (k, b) := by rw [hgate]; exact hf
  have hbags : (s.requestGate n).dist.bags = s.dist.bags := by rw [hgate]
  obtain ⟨hparcel, hlast⟩ := (s.requestGate n).joinBag_keeps n p k
  have hjoined := (s.requestGate n).joinBag_bags n p k
  rw [hbags] at hjoined
  have huse : s.useLane n p stamp = (((s.requestGate n).joinBag k n p).countRun p.cls, ⟨n, none, some number⟩) := by
    rw [State.useLane_diverts hl hroom h, State.divert_joins stamp p hlane hb hfound]
  rw [ht, huse]
  refine ⟨rfl, ?_, ?_, fun hget => ⟨?_, fun hlt => ?_, fun hle => ?_⟩, fun j hj => ?_⟩
  · show ((s.requestGate n).joinBag k n p).parcel.lots = _
    rw [hparcel, State.requestGate_parcel]
  · show ((s.requestGate n).joinBag k n p).dist.lastBag = _
    rw [hlast, hgate]
  · show ((s.requestGate n).joinBag k n p).dist.bags.get? k = _
    rw [hjoined, Table.get?_modify_self, hget]
    rfl
  · show ((s.requestGate n).joinBag k n p).dist.lanes.get? n = _
    rw [State.joinBag_of_get? n p (hbags ▸ hget), if_neg (Nat.not_le.mpr hlt)]
    exact hlane
  · show ((s.requestGate n).joinBag k n p).dist.lanes.get? n = _
    rw [State.joinBag_of_get? n p (hbags ▸ hget), if_pos hle]
    exact State.onLane_self (s := (s.requestGate n).onDist fun u => { u with bags := u.bags.modify k (Bag.join p) }) hlane _
  · show ((s.requestGate n).joinBag k n p).dist.bags.get? j = _
    rw [hjoined, Table.get?_modify_ne _ _ hj]

/-- R133, R134: the parcel opens a bag in the lowest free record. -/
theorem State.useLane_opens (h : s.Passable n) {j : Nat} (hb : l.bag = none) (hfree : s.dist.bags.freeKey 0 32 = some j)
    {t : State} (ht : t = (s.useLane n p stamp).1) :
    (s.useLane n p stamp).2.bag = some s.dist.nextBag ∧
    t.dist.bags.get? j = some (Bag.openFor s.dist.nextBag n stamp p) ∧
    (∀ i, i ≠ j → t.dist.bags.get? i = s.dist.bags.get? i) ∧ t.dist.lastBag = s.dist.nextBag ∧
    t.dist.lanes.get? n = some { l with bag := some s.dist.nextBag } ∧
    t.parcel.lots = s.parcel.lots.modify p.slot Lot.addBag := by
  have hgate := State.requestGate_passable h
  have hlane : (s.requestGate n).dist.lanes.get? n = some l := by rw [hgate]; exact hl
  have hbags : (s.requestGate n).dist.bags = s.dist.bags := by rw [hgate]
  have hnext : (s.requestGate n).dist.nextBag = s.dist.nextBag := by rw [hgate]; rfl
  have huse : s.useLane n p stamp =
      (((s.requestGate n).openBag j n stamp p).1.countRun p.cls, ⟨n, none, some s.dist.nextBag⟩) := by
    rw [State.useLane_diverts hl hroom h, State.divert_opens stamp p hlane hb (hbags ▸ hfree), hnext]
  have hput : ((s.requestGate n).openBag j n stamp p).1.dist.bags = s.dist.bags.put j (Bag.openFor s.dist.nextBag n stamp p) := by
    show (s.requestGate n).dist.bags.put j (Bag.openFor (s.requestGate n).dist.nextBag n stamp p) = _
    rw [hbags, hnext]
  rw [ht, huse]
  refine ⟨rfl, ?_, fun i hi => ?_, hnext, ?_, ?_⟩
  · exact (congrArg (Table.get? · j) hput).trans (Table.get?_put_self ..)
  · exact (congrArg (Table.get? · i) hput).trans (Table.get?_put_ne _ _ hi)
  · rw [← hnext]
    exact State.onLane_self (s := (s.requestGate n).onDist fun u =>
      { u with bags := u.bags.put j (Bag.openFor (s.requestGate n).dist.nextBag n stamp p)
               lastBag := (s.requestGate n).dist.nextBag }) hlane _
  · show (s.requestGate n).parcel.lots.modify p.slot Lot.addBag = _
    rw [State.requestGate_parcel]

end Use

/-- R133: with at most 32 bags in use a new bag's number is not in use, and it is the next one where that is free. -/
theorem DistributionUnit.nextBag_fresh (u : DistributionUnit) :
    (u.bags.length ≤ 32 → ∀ b ∈ u.bags, b.2.number ≠ u.nextBag) ∧
    ∀ next, next = (if 16777215 ≤ u.lastBag then 1 else u.lastBag + 1) → (∀ b ∈ u.bags, b.2.number ≠ next) → u.nextBag = next := by
  have hmem : ∀ number, number ∈ (u.bags.vals.map fun b => b.number) ↔ ∃ b ∈ u.bags, b.2.number = number := fun number => by
    simp [Table.vals]
  refine ⟨fun hlen b hb heq => ?_, fun next hnext hfree => ?_⟩
  · obtain ⟨h1, hmax⟩ := nextNumber_range (max := Config.bagNumberMax) (by decide) u.lastBag
    have hused : (u.bags.vals.map fun b => b.number).length < Config.bagCount + 1 := by
      rw [List.length_map, Table.vals, List.length_map]
      exact Nat.lt_succ_of_le hlen
    exact unusedNumber_unused h1 hmax (by decide) hused ((hmem _).mpr ⟨b, hb, heq⟩)
  · have hnumber : nextNumber Config.bagNumberMax u.lastBag = next := hnext.symm
    have hnot : next ∉ (u.bags.vals.map fun b => b.number) := fun h => by
      obtain ⟨b, hb, heq⟩ := (hmem _).mp h
      exact hfree b hb heq
    rw [DistributionUnit.nextBag, hnumber]
    exact unusedNumber_of_notMem hnot _

end Sys2Proof.Machine
end

section
/-! ## The lane of a parcel (R119, R122, R125 to R130, R133, R134) -/

namespace Sys2Proof.Machine

-- One declaration after the other, so that the text needs one thread for them and not one each.
set_option Elab.async false

theorem UnitsNumbered.lanes {s : State} (h : UnitsNumbered s) : numbered 4 s.dist.lanes = true := by
  obtain ⟨-, hlanes, -⟩ := h
  exact hlanes

/-! ### Which parcels are diverted (R125, R133, R134) -/

/-- R125: a parcel at lane 0 has a cause, and a diverted one is released and of a class mapped to its lane. -/
structure Diverted (s : State) (p : Parcel) (v : VerdictRecord) (t : State) (r : LaneResult) : Prop where
  cause : r.lane ≠ 0 ↔ r.cause = none
  released : r.lane ≠ 0 → p.proving = false ∧ v.reasons.isHeld = false ∧ p.cls ≠ 0 ∧ t.dist.openGate = some r.lane ∧
    ∃ e, s.dist.live.get? p.cls = some e ∧ r.lane ∈ e.lanes
  bag : ∀ number, r.bag = some number → t.HoldsParcel p number

theorem Diverted.distribute {s : State} (hlanes : numbered 4 s.dist.lanes = true) (p : Parcel) (v : VerdictRecord) :
    Diverted s p v (s.distribute p v).1 (s.distribute p v).2 := by
  rcases State.distribute_cases hlanes p v with ⟨u, c, h⟩ | ⟨hp, hv, hc, e, n, y, he, hn, h⟩
  · rw [h]
    exact ⟨⟨fun hne => absurd rfl hne, nofun⟩, fun hne => absurd rfl hne, nofun⟩
  · obtain ⟨hmem, l, hl, -⟩ := id hn
    obtain ⟨hlane, hfits⟩ := State.pointed_candidate e y hl hn
    obtain ⟨h1, -⟩ := numbered_get?_range hlanes hl
    have hused := LaneUsed.useLane hlane (p := p) hfits v.time
    rw [h]
    refine ⟨?_, fun hne => ?_, hused.bag⟩
    · rcases hused.result with ⟨hr, hcause, -⟩ | ⟨hr, hcause, -⟩
      · exact ⟨fun _ => hcause, fun _ => by omega⟩
      · exact ⟨fun hne => absurd hr hne, fun hnone => absurd hnone hcause⟩
    · rcases hused.result with ⟨hr, -, hopen⟩ | ⟨hr, -⟩
      · rw [hr]
        exact ⟨hp, hv, hc, hopen, e, he, hmem⟩
      · exact absurd hr hne

theorem State.toLaneZero_keeps (s : State) (c : LaneZeroCause) : (s.toLaneZero c).2 = ⟨0, some c, none⟩ ∧
    (s.toLaneZero c).1.dist.lane0 = s.dist.lane0.add c ∧ (s.toLaneZero c).1.dist.lanes = s.dist.lanes ∧
    (s.toLaneZero c).1.dist.bags = s.dist.bags ∧ (s.toLaneZero c).1.dist.pointers = s.dist.pointers := by
  rw [State.toLaneZero_dist]
  exact ⟨rfl, rfl, rfl, rfl, rfl⟩

/-- R125: a parcel that is not released, or of no class, goes to lane 0. -/
theorem State.distribute_unreleased {p : Parcel} {v : VerdictRecord} (h : p.proving = true ∨ v.reasons.isHeld = true ∨ p.cls = 0)
    (s : State) : ∃ c, s.distribute p v = s.toLaneZero c := by
  cases hp : p.proving with
  | true => exact ⟨_, State.distribute_proving hp v s⟩
  | false =>
  cases hv : v.reasons.isHeld with
  | true => exact ⟨_, State.distribute_held hp hv s⟩
  | false =>
    rw [hp, hv] at h
    have hc : p.cls = 0 := by simpa using h
    exact ⟨_, State.distribute_classless hp hv hc s⟩

/-! ### Lanes that are not chosen, and the choice without a candidate (R122, R126) -/

/-- R126: a lane out of the class's set, or one that does not accept, stays. -/
theorem Chosen.kept {s t : State} {e : ClassEntry} {p : Parcel} {r : LaneResult} (h : Chosen s e p t r) {n : Nat} {l : Lane}
    (hl : s.dist.lanes.get? n = some l) (hn : n ∉ e.lanes ∨ l.state ≠ .accepting) : t.dist.lanes.get? n = some l := by
  refine (h.lanes n ?_).trans (State.lotBreak_kept hl (hn.imp_right Or.inl))
  rintro ⟨hmem, l', hl', hs, -⟩
  cases hl.symm.trans hl'
  rcases hn with hn | hn
  · exact hn hmem
  · exact hn hs

/-- R126: an accepting lane of the set whose open bag is of another lot is sent to SEALING. -/
theorem Chosen.broken {s t : State} {e : ClassEntry} {p : Parcel} {r : LaneResult} (h : Chosen s e p t r)
    (hlanes : numbered 4 s.dist.lanes = true) {n : Nat} {l : Lane} (hl : s.dist.lanes.get? n = some l) (hmem : n ∈ e.lanes)
    (hs : l.state = .accepting) (hother : ¬s.dist.FitsLot p.slot l) :
    r.lane ≠ n ∧ t.dist.lanes.get? n = some l.sentOff := by
  have hout : ¬s.dist.Candidate e.lanes p.slot n := by
    rintro ⟨-, l', hl', -, hfits⟩
    cases hl.symm.trans hl'
    exact hother hfits
  refine ⟨fun hr => ?_, (h.lanes n hout).trans (State.lotBreak_broken hl hmem hs hother)⟩
  rcases h.lane with h0 | hcand
  · obtain ⟨h1, -⟩ := numbered_get?_range hlanes hl
    omega
  · exact hout (hr ▸ hcand)

/-- R126: without a candidate the parcel goes to lane 0. -/
theorem State.chooseLane_noLane {s : State} (hlanes : numbered 4 s.dist.lanes = true) {e : ClassEntry} {p : Parcel}
    (h : ∀ n, ¬s.dist.Candidate e.lanes p.slot n) (stamp : Nat) :
    s.chooseLane e p stamp = (s.lotBreak e.lanes p.slot).toLaneZero .noLane := by
  rcases State.chooseLane_cases hlanes e p stamp with ⟨-, hzero⟩ | ⟨n, -, hn, -⟩
  · exact hzero
  · exact absurd hn (h n)

/-- R122: SEAL DEMAND of a lane that a lane choice has sent to SEALING. -/
theorem State.distribute_sealDemand {s t : State} {p : Parcel} {v : VerdictRecord} {r : LaneResult} (h : s.distribute p v = (t, r))
    (hlanes : numbered 4 s.dist.lanes = true) {n : Nat} {l m : Lane} (hl : s.dist.lanes.get? n = some l)
    (hm : t.dist.lanes.get? n = some m) (hs : m.state = .sealing) (hw : s.powered = true) (hp : s.pin = false) :
    t.finish.pins.sealDemand[n - 1]? = some true := by
  obtain ⟨h1, h4⟩ := numbered_get?_range hlanes hl
  obtain ⟨hpowered, hpin, -⟩ := State.stance_eq_iff.mp (s.distribute_stance p v)
  rw [h] at hpowered hpin
  exact State.finish_sealDemand (hpowered.trans hw) (hpin.trans hp) h1 h4 hm hs

end Sys2Proof.Machine
end

section
/-! ## The index of the last track (R43, R46, R68, R116) -/

namespace Sys2Proof.Machine

-- One declaration after the other, so that the text needs one thread for them and not one each.
set_option Elab.async false

/-! ### The lane choice leaves the notice settings -/

section Credit
variable (s : State)

@[simp] theorem State.requestGate_credit (n : Nat) : (s.requestGate n).credit = s.credit := by
  unfold State.requestGate
  (repeat' split) <;> rfl

@[simp] theorem State.toLaneZero_credit (c : LaneZeroCause) : (s.toLaneZero c).1.credit = s.credit := by
  unfold State.toLaneZero State.requestLaneZero
  dsimp only
  split <;> rfl

@[simp] theorem State.divert_credit (n stamp : Nat) (p : Parcel) : (s.divert n stamp p).1.credit = s.credit := by
  unfold State.divert
  split
  · next k _ _ => rcases s.joinBag_cases n p k with h | h <;> rw [h] <;> rfl
  · split <;> rfl

@[simp] theorem State.useLane_credit (n : Nat) (p : Parcel) (stamp : Nat) : (s.useLane n p stamp).1.credit = s.credit := by
  unfold State.useLane State.passGate
  dsimp only
  split
  · exact State.toLaneZero_credit (s.onLane n _) _
  · split
    · exact (State.divert_credit ..).trans (State.requestGate_credit ..)
    · exact State.requestGate_credit ..

@[simp] theorem State.chooseLane_credit (e : ClassEntry) (p : Parcel) (stamp : Nat) : (s.chooseLane e p stamp).1.credit = s.credit := by
  unfold State.chooseLane
  dsimp only
  split
  · exact State.useLane_credit ..
  · exact State.toLaneZero_credit ..

theorem State.distribute_credit (p : Parcel) (v : VerdictRecord) : (s.distribute p v).1.credit = s.credit := by
  unfold State.distribute
  (repeat' split) <;> simp

end Credit

/-! ### What the outfeed leaves (R68, R73, R115, R116) -/

/-- R5, R68, R73: behind the lane choice the outfeed is no business of the distribution unit. -/
theorem State.outfeed_dist (s : State) (k : Nat) (p : Parcel) (stamp : Nat) :
    (s.outfeed k p stamp).dist = (s.distribute p (s.verdict p stamp)).1.dist := by
  unfold State.outfeed State.takeEntry
  dsimp only
  (repeat' split) <;> simp [State.retireParcel]

/-- R68, R73: the current lot takes the outcome into its account and stays. -/
theorem State.outfeed_lot {s s2 : State} {r : LaneResult} {p : Parcel} {stamp : Nat} {l : Lot}
    (h : s.distribute p (s.verdict p stamp) = (s2, r)) (hl : s2.parcel.lots.get? p.slot = some l)
    (hcur : s.parcel.current = some p.slot) (k : Nat) :
    (s.outfeed k p stamp).parcel.lots.get? p.slot = some (l.outcome r) := by
  have hview := indexView_distribute s p (s.verdict p stamp)
  rw [h] at hview
  obtain ⟨-, -, -, -, -, -, -, hcurrent, -⟩ := IndexView.mk.inj hview
  have hkept : s2.parcel.current = some p.slot := hcurrent.trans hcur
  have hretired : ∀ (u : State) entry, u.parcel = s2.parcel →
      ((u.takeEntry p entry).retireParcel k p.slot (Lot.outcome r)).parcel.lots.get? p.slot = some (l.outcome r) := by
    intro u entry hu
    obtain ⟨-, -, -, htake⟩ := u.takeEntry_keeps p entry
    rw [State.retireParcel, State.retireTest_keep]
    · rw [State.onLot_lots, Table.get?_modify_self, State.onParcel_parcel, htake, hu, hl]
      rfl
    · intro l' _
      simp [ParcelUnit.mayRetire, htake, hu, hkept]
  unfold State.outfeed
  dsimp only
  rw [State.emptyTest_parcel, h]
  split
  · exact hretired _ _ (State.notify_parcel ..)
  · exact hretired _ _ rfl

/-- R115, R116: the outfeed notice. -/
theorem State.outfeed_queued {s s2 : State} {r : LaneResult} {p : Parcel} {stamp : Nat}
    (h : s.distribute p (s.verdict p stamp) = (s2, r)) (hon : s.credit.outfeedNotices = true) (hroom : Room s 1) (k : Nat) :
    Queued (s.outfeed k p stamp) (.outfeed (s.verdict p stamp) r.lane r.cause r.bag) := by
  have hlink := s.distribute_link p (s.verdict p stamp)
  have hcredit := s.distribute_credit p (s.verdict p stamp)
  rw [h] at hlink hcredit
  unfold State.outfeed
  dsimp only
  rw [h, hcredit, if_pos hon]
  refine Queued.emptyTest (Queued.retireTest ((queued_congr ?_).mpr
    (State.notify_queued (s := s2) _ ((room_congr hlink).mpr hroom))) _)
  unfold State.takeEntry
  dsimp only
  split <;> rfl

/-! ### An index that neither creates a parcel nor applies a declaration (R45, R46) -/

/-- R45: of the parcel unit the placing of a parcel changes records in use alone. -/
structure ParcelsMoved (s t : State) : Prop where
  frame : t.parcel = { s.parcel with parcels := t.parcel.parcels }
  free : ∀ k, s.parcel.parcels.get? k = none → t.parcel.parcels.get? k = none

theorem ParcelsMoved.refl (s : State) : ParcelsMoved s s := ⟨rfl, fun _ h => h⟩

theorem ParcelsMoved.trans {s t u : State} (h : ParcelsMoved s t) (h' : ParcelsMoved t u) : ParcelsMoved s u where
  frame := by rw [h'.frame, h.frame]
  free k hk := h'.free k (h.free k hk)

theorem ParcelsMoved.of_parcel {s t : State} (h : t.parcel = s.parcel) : ParcelsMoved s t where
  frame := by rw [h]
  free k hk := by rwa [h]

theorem ParcelsMoved.mapVals {s t : State} (f : Nat → Parcel → Parcel)
    (h : t.parcel = { s.parcel with parcels := s.parcel.parcels.mapVals f }) : ParcelsMoved s t where
  frame := by rw [h]
  free k hk := by rw [h, Table.get?_mapVals, hk]; rfl

theorem ParcelsMoved.place (k n stamp : Nat) (s : State) : ParcelsMoved s (s.place k n stamp) := by
  unfold State.place
  split
  · exact .refl s
  · refine ⟨rfl, fun j hj => ?_⟩
    show (s.parcel.parcels.mapVals _).get? j = none
    rw [Table.get?_mapVals, hj]
    rfl

theorem ParcelsMoved.takeQueue (n stamp : Nat) (s : State) : ParcelsMoved s (s.takeQueue n stamp) := by
  unfold State.takeQueue
  split
  · next k rest _ =>
    refine .trans (.trans (.mapVals (s := s) _ rfl) (.place k (n + 1) stamp _)) (.of_parcel (State.recover_parcel ..))
  · exact .refl s

theorem State.creation_absent (s : State) : s.creation false = none := by
  rw [State.creation, Bool.and_false, if_neg Bool.false_ne_true]

/-- R45: without a creation a fill places a parcel of the queue before the track, or none. -/
theorem ParcelsMoved.fill {n : Nat} {presence : Bool} (h : 2 ≤ n ∨ presence = false) (stamp : Nat) (s : State) :
    ParcelsMoved s (s.fill n presence stamp) := by
  by_cases hn : n = 1
  · obtain rfl : presence = false := h.resolve_left (by omega)
    subst hn
    rw [State.fill_nothing s.creation_absent]
    exact .refl s
  · rw [State.fill, if_neg hn]
    exact .takeQueue ..

/-- R46: without a staged declaration the staged edits leave parcels and notices. -/
theorem State.applyStaged_undeclared {n : Nat} {s : State} (h : 2 ≤ n ∨ s.parcel.staged = none) (stamp : Nat) :
    (s.applyStaged n stamp).parcel = s.parcel ∧ (s.applyStaged n stamp).link = s.link := by
  have hdeclared : (if n = 1 then s.applyDeclaration stamp else s) = s := by
    split
    · exact State.applyDeclaration_none (h.resolve_left (by omega)) stamp
    · rfl
  unfold State.applyStaged
  dsimp only
  rw [hdeclared]
  split <;> exact ⟨rfl, rfl⟩

/-- R43 to R47: what an index that creates nothing, declares nothing and ends no proving run adds to its departure. -/
structure IndexQuiet (u t : State) : Prop where
  moved : ParcelsMoved u t
  notices : ∀ b, Queued u b → Queued t b

theorem IndexQuiet.index {n : Nat} {t : Track} {presence : Bool} {stamp : Nat} {s : State} (hfill : 2 ≤ n ∨ presence = false)
    (hstaged : 2 ≤ n ∨ s.parcel.staged = none)
    (hopen : ∀ run, s.comm.record = ⟨.running, some run⟩ → run.entries.length + 1 < run.count) :
    IndexQuiet (s.depart n t stamp) (s.index n t presence stamp) := by
  obtain ⟨u, hu⟩ : ∃ u, u = s.depart n t stamp := ⟨_, rfl⟩
  have hmoved : ParcelsMoved u ((u.advance n stamp).fill n presence stamp) :=
    .trans (.mapVals (s := u) _ rfl) (.fill hfill stamp _)
  have hundeclared : 2 ≤ n ∨ ((u.advance n stamp).fill n presence stamp).parcel.staged = none := by
    rw [hmoved.frame, hu, (Departed.depart n t stamp s).staged]
    exact hstaged
  obtain ⟨hparcel, hlink⟩ := State.applyStaged_undeclared hundeclared stamp
  have hlink : (s.indexed n t presence stamp).link = u.link := by
    rw [State.indexed, ← hu, hlink, State.fill_link]
    rfl
  have hview : ((s.indexed n t presence stamp).indexNotice n (u.crosses n) stamp).lineView = u.lineView := by
    simp [State.indexed, hu]
  rw [← hu, State.index_eq, ← hu, State.completeProving_open]
  · refine ⟨.trans hmoved (.of_parcel ?_), fun b hb => ?_⟩
    · rw [State.indexNotice_frame, State.indexed, ← hu]
      exact hparcel
    · have hindexed : Queued (s.indexed n t presence stamp) b := (queued_congr (congrArg LinkUnit.notices hlink)).mpr hb
      unfold State.indexNotice
      (repeat' split)
      exacts [hindexed, hindexed.notify _, hindexed.notify _, hindexed, hindexed]
  · rw [comm_of_lineView hview, hu]
    exact (s.depart_comm n t stamp).open hopen

end Sys2Proof.Machine
end

section
/-! ## Released parcels and their lanes (R68, R115, R116, R119, R125 to R130, R133, R134) -/

namespace Sys2Proof.Machine

-- One declaration after the other, so that the text needs one thread for them and not one each.
set_option Elab.async false

/-! ### The pulse that indexes the last track -/

/-- R43, R68: from the last track the parcel of the last cell goes to the outfeed. -/
theorem State.depart_outfeed {s : State} {n k : Nat} {t : Track} {p : Parcel} (hn : n = s.track.tracks.length)
    (hlast : s.lastRecord n t = some k) (hp : s.parcel.parcels.get? k = some p) (stamp : Nat) :
    s.depart n t stamp = (s.vacated n t).outfeed k p stamp := by
  have hcell : s.track.cells.get? (s.track.cellOf n t (t.segments - 1)) = some k := hlast
  have hcount : n = s.track.count := hn
  unfold State.depart
  simp only [hcell, hp]
  rw [if_pos hcount]
  rfl

/-- R40, R43, R52: the state a completing pulse of track `n` hands to the outfeed. -/
def State.outfeedReady (n : Nat) (tr : Track) (s : State) : State := { s with
  track := { tracks := s.track.tracks.modify n fun x => { x with counter := 0 }
             cells := s.track.cells.del (s.track.cellOf n tr (tr.segments - 1)) }
  time := if s.line.state.runs = true ∧ tr.backedUp = false then
      { s.time with timers := s.time.timers.put (n - 1) (min (s.time.lineTime + tr.stallLimit) 281474976710655) }
    else s.time }

theorem State.segmentEnded_vacated (s : State) (n : Nat) (tr : Track) :
    (s.segmentEnded n tr).vacated n { tr with counter := 0 } = s.outfeedReady n tr := by
  rw [State.vacated, s.segmentEnded_cell n tr]
  rfl

section Outfeed
variable {s : State} {input n k : Nat} {tr : Track} {p : Parcel} (h : Indexes s input n tr) (hn : n = s.track.tracks.length)
  (hcell : s.track.cells.get? (s.track.cellOf n tr (tr.segments - 1)) = some k) (hp : s.parcel.parcels.get? k = some p)
include hn hcell hp

theorem State.segmentEnded_depart : (s.segmentEnded n tr).depart n { tr with counter := 0 } s.time.lineTime =
    (s.outfeedReady n tr).outfeed k p s.time.lineTime := by
  have hcount : n = (s.segmentEnded n tr).track.count := hn.trans (TrackUnit.count_of_plan (s.segmentEnded_plan n tr)).symm
  have hlast : (s.segmentEnded n tr).lastRecord n { tr with counter := 0 } = some k := by
    rwa [State.lastRecord, s.segmentEnded_cell n tr]
  rw [← State.segmentEnded_vacated]
  exact State.depart_outfeed hcount hlast hp _

include h

/-- R43, R68: an index of the last track sends the parcel of the last cell through the outfeed, and makes a staged map live. -/
theorem exec_outfeeds {presence : Bool} (hfill : 2 ≤ n ∨ presence = false) (hstaged : 2 ≤ n ∨ s.parcel.staged = none)
    (hopen : ∀ run, s.comm.record = ⟨.running, some run⟩ → run.entries.length + 1 < run.count) :
    ∃ t, exec (.encoderPulse input presence) s = .next t ∧
      t.dist = ((s.outfeedReady n tr).outfeed k p s.time.lineTime).applyClassMap.dist ∧
      ParcelsMoved ((s.outfeedReady n tr).outfeed k p s.time.lineTime) t ∧
      ∀ b, Queued ((s.outfeedReady n tr).outfeed k p s.time.lineTime) b → Queued t b := by
  have hdepart := State.segmentEnded_depart hn hcell hp
  have hcount : n = (s.segmentEnded n tr).track.count := hn.trans (TrackUnit.count_of_plan (s.segmentEnded_plan n tr)).symm
  have hquiet := IndexQuiet.index (s := s.segmentEnded n tr) (t := { tr with counter := 0 }) (stamp := s.time.lineTime)
    hfill hstaged hopen
  rw [hdepart] at hquiet
  refine ⟨_, exec_indexes h presence, ?_, hquiet.moved.trans (.of_parcel (State.finish_parcel _)), fun b hb => ?_⟩
  · rw [State.finish_dist, State.index_dist, if_pos hcount, hdepart]
  · exact (queued_finish ..).mpr (hquiet.notices b hb)

end Outfeed

/-- Settles O42: where `distribute` sends a parcel, what the choice leaves of the lanes, and the pulse whose index outfeeds it. -/
theorem onlyReleasedParcelsAreDiverted : Obligations.OnlyReleasedParcelsAreDiverted := by
  refine ⟨fun s t p v r h hnumbered => ?_, fun s t p v r e x h hnumbered hp hv hc he hx candidate hcand closed passable hclosed
    hpass => ?_, fun s input n presence tr k p hw hpin h1 h4 hone hget hn hruns hpulses hcell hp hfill hstaged hopen s1 s2 v r
    hs1 hv hs2 => ?_⟩
  · have hd := Diverted.distribute hnumbered.lanes p v
    have hzero : ∀ c, s.distribute p v = s.toLaneZero c → r = ⟨0, some c, none⟩ ∧ t.dist.lane0 = s.dist.lane0.add c ∧
        t.dist.lanes = s.dist.lanes ∧ t.dist.bags = s.dist.bags ∧ t.dist.pointers = s.dist.pointers := fun c hc => by
      have hkeeps := s.toLaneZero_keeps c
      rwa [← hc, h] at hkeeps
    rw [h] at hd
    refine ⟨hd.cause, fun hr => ?_, fun hp => ?_, fun hp hv => ?_, fun hp hv hc => ?_, fun hu => ?_⟩
    · obtain ⟨hp, hv, hc, hopen, hmapped⟩ := hd.released hr
      exact ⟨hp, hv, hc, hopen, hmapped, hd.bag⟩
    · obtain ⟨hr, hlane0, -⟩ := hzero _ (State.distribute_proving hp v s)
      exact ⟨hr, hlane0⟩
    · obtain ⟨hr, hlane0, -⟩ := hzero _ (State.distribute_held hp hv s)
      exact ⟨hr, hlane0⟩
    · obtain ⟨hr, hlane0, -⟩ := hzero _ (State.distribute_classless hp hv hc s)
      exact ⟨hr, hlane0⟩
    · obtain ⟨c, hc⟩ := State.distribute_unreleased hu s
      obtain ⟨-, -, hkept⟩ := hzero c hc
      exact hkept
  · have hlanes := hnumbered.lanes
    obtain rfl : candidate = s.dist.Candidate e.lanes p.slot := funext fun n => propext (hcand n)
    obtain rfl : passable = s.Passable := funext fun n => propext (hpass n)
    subst hclosed
    have hseal := fun {n l m} => State.distribute_sealDemand (n := n) (l := l) (m := m) h hlanes
    have hchoose : (t, r) = s.chooseLane e p v.time := h.symm.trans (State.distribute_mapped hp hv hc he)
    have hchosen := Chosen.chooseLane hlanes e p v.time
    rw [← hchoose] at hchosen
    refine ⟨hchosen.pointers, fun n l => hchosen.kept, fun n l number k b hmem hl hs hb hf hslot => ?_, fun hnone => ?_,
      fun n l y hn hl hy => ?_⟩
    · obtain ⟨hr, hbroken⟩ := hchosen.broken hlanes hl hmem hs fun hfits => hslot (hfits number k b hb hf)
      exact ⟨hr, hbroken, hseal hl hbroken rfl⟩
    · have hzero := hchoose.trans (State.chooseLane_noLane hlanes hnone v.time)
      have hdist : t.dist = _ := (congrArg (fun u => u.1.dist) hzero).trans (State.toLaneZero_dist ..)
      obtain rfl : r = _ := congrArg Prod.snd hzero
      rw [hdist]
      exact ⟨rfl, ⟨rfl, rfl, rfl, rfl, rfl⟩, rfl, rfl⟩
    · have huse := hchoose.trans (State.chooseLane_picked hlanes e p v.time hx hn hy)
      obtain ⟨hlane, hfits⟩ := State.pointed_candidate e y hl hn
      have hpointer := s.pointed_pointer e (p := p) y
      have hused := LaneUsed.useLane hlane (p := p) hfits v.time
      rw [← huse] at hused
      refine ⟨fun d hd hcand => ?_, fun hb hfull => ?_, fun hroom => ⟨fun hpassed => ?_, fun hbusy => ?_⟩⟩
      · obtain ⟨-, l', hl', -⟩ := id hcand
        obtain ⟨hlane', -⟩ := State.pointed_candidate e y hl' hcand
        exact (hused.lanes d hd).trans (hlane'.trans hl'.symm)
      · obtain ⟨hr, hdist⟩ := State.useLane_blocked (p := p) (stamp := v.time) hlane hb hfull
        rw [← huse] at hr hdist
        obtain rfl := hr
        rw [hdist]
        exact ⟨rfl, ⟨rfl, rfl, rfl, rfl, rfl⟩, hpointer, (Table.get?_modify_self ..).trans (congrArg _ hlane), rfl⟩
      · have hpassed : (s.pointed e p y).Passable n := hpassed
        obtain ⟨hr, hcause, hopen, hlane0, hcount⟩ := State.useLane_passes (stamp := v.time) hlane hroom hpointer hpassed
        rw [← huse] at hr hcause hopen hlane0 hcount
        refine ⟨hr, hcause, hopen, hlane0, hcount, fun number k b hb hf => ?_, fun hb j hfree => ?_⟩
        · obtain ⟨hbag, hlots, hlast, hjoined, hothers⟩ := State.useLane_joins (stamp := v.time) hlane hroom hpassed hb hf rfl
          rw [← huse] at hbag hlots hlast hjoined hothers
          refine ⟨hbag, hlots, hlast, fun hstored => ?_, hothers⟩
          obtain ⟨hjoin, hroomy, hfull⟩ := hjoined hstored
          exact ⟨hjoin, hroomy, fun hle => ⟨hfull hle, hseal hl (hfull hle) rfl⟩⟩
        · obtain ⟨hbag, hnew, hothers, hlast, hlane, hlots⟩ :=
            State.useLane_opens (stamp := v.time) hlane hroom hpassed hb hfree rfl
          rw [← huse] at hbag hnew hothers hlast hlane hlots
          obtain ⟨hfresh, hnext⟩ := s.dist.nextBag_fresh
          exact ⟨_, hbag, hnew, hothers, hlast, hfresh, hnext, hlane, hlots⟩
      · obtain ⟨hr, hdist⟩ := State.useLane_busy (p := p) (stamp := v.time) hlane hroom hbusy
        rw [← huse] at hr hdist
        rw [hdist]
        exact ⟨hr, rfl, rfl, hpointer, hlane, rfl, rfl⟩
  · obtain rfl : s1 = s.outfeedReady n tr := hs1
    obtain rfl : v = (s.outfeedReady n tr).verdict p s.time.lineTime := hv
    have hdist : ((s.outfeedReady n tr).outfeed k p s.time.lineTime).dist = s2.dist := by rw [State.outfeed_dist, hs2]
    obtain ⟨t, hexec, htdist, hmoved, hnotices⟩ :=
      exec_outfeeds ⟨hw, hpin, h1, h4, hone, hget, hruns, hpulses⟩ hn hcell hp hfill hstaged hopen
    refine ⟨t, hexec, ?_, fun hwf => hmoved.free k ?_, fun l hl hcur => ?_,
      fun hon hroom => hnotices _ (State.outfeed_queued hs2 hon hroom k)⟩
    · rw [htdist, State.applyClassMap_dist_congr hdist]
      cases hmap : s2.dist.staged with
      | none => rw [State.applyClassMap_none hmap]
      | some m => rw [State.applyClassMap_some hmap]
    · rw [State.outfeed_parcels]
      exact Table.get?_del_self _ hwf
    · have hout : t.parcel.lots.get? p.slot = some (l.outcome r) := by
        rw [hmoved.frame]
        exact State.outfeed_lot hs2 hl hcur k
      unfold Lot.outcome at hout
      refine ⟨fun hcause => by rwa [hcause] at hout, ?_, ?_⟩
      · rintro (hcause | hcause | hcause) <;> rwa [hcause] at hout
      · rintro (hcause | hcause | hcause) <;> rwa [hcause] at hout

end Sys2Proof.Machine
end

section
/-! ## BAG WEIGHT over a bag table that names a record twice (R136, R146) -/

namespace Sys2Proof.Machine

-- One declaration after the other, so that the text needs one thread for them and not one each.
set_option Elab.async false

/-! The weighing writes the bag of its record through `modify`, which writes every entry of that record. `BagWeightJudgesTheBag`
leaves the bag table free to hold a record twice, which no reachable state does: the bag that waits on the lane may then stand in
the second entry of the weighed record, and is gone when the transfer unit asks whether a bag of the lane waits. -/

/-- A bag of lane 1, lot 0 and recipe 0. -/
def laneOneBag (number : Nat) (state : BagState) : Bag :=
  { number := number, lane := 1, slot := 0, recipe := 0, state := state, parcels := 1, firstSeq := 1, lastSeq := 1, minCredit := 0
    openTime := 0, sealTime := some 0, grams := none }

/-- A lot that is current and holds two bags. -/
def twoBagLot : Lot :=
  { code := [], recipe := 0, cls := 0, proving := false, created := 2, released := 2, held := 0, redirected := 0, lost := 0
    bagsAccepted := 1, bagsRejected := 0, palletsStored := 0, palletsQuarantined := 0, firstSeq := none, lastSeq := none
    live := 0, bagRefs := 2, palletRefs := 0, retired := none }

/-- BAG WEIGHT for bag 1 at 0 g. -/
def weighBagOne : Frame := ⟨Request.bagWeight.kind, 0, [1, 0, 0, 0, 0]⟩

/-- Record 0 stands twice in the bag table: as bag 1, to be weighed, and as bag 2, which waits. -/
def recordTwice : State := { State.reset with
  link := { State.reset.link with receive := [.waiting weighBagOne] }
  dist := { State.reset.dist with bags := [(0, laneOneBag 1 .sealed), (0, laneOneBag 2 .accepted)] }
  parcel := { State.reset.parcel with lots := [(0, twoBagLot)], current := some 0 }
  transfer := { State.reset.transfer with waiting := [2] } }

/-- The waiting list of the transfer unit after a step. -/
def waitingAfter : Outcome → List Nat
  | .next t => t.transfer.waiting
  | _ => []

/-- R146: bag 1 is counted onto a new pallet, ahead of bag 2 of its lane. -/
theorem recordTwice_weighed : waitingAfter (exec .bagWeight recordTwice) = [2] := by decide +kernel

/-- What `BagWeightJudgesTheBag` asks of the bag of record 0. -/
theorem recordTwice_bag : AtHand recordTwice .bagWeight weighBagOne ∧
    recordTwice.dist.findBag 1 = some (0, laneOneBag 1 .sealed) ∧ recordTwice.dist.bags.get? 0 = some (laneOneBag 1 .sealed) ∧
    recordTwice.credit.recipes.get? 0 = some Recipe.factory ∧ recordTwice.parcel.lots.get? 0 = some twoBagLot ∧
    recordTwice.laneWaits 1 = true := by decide +kernel

/-- Refutes O46: on a bag table with two entries of one record a bag is counted although a bag of its lane waits. -/
theorem not_bagWeightJudgesTheBag : ¬ Obligations.BagWeightJudgesTheBag := by
  intro h
  obtain ⟨hhand, hfound, hrecord, hrecipe, hlot, hwaits⟩ := recordTwice_bag
  obtain ⟨-, -, hbag⟩ := h recordTwice weighBagOne 1 0 hhand rfl rfl rfl
  obtain ⟨-, hjudged⟩ := hbag 0 (laneOneBag 1 .sealed) Nat.one_ne_zero hfound hrecord
  obtain ⟨-, -, -, -, -, hwaiting⟩ := hjudged Recipe.factory twoBagLot rfl hrecipe hlot rfl
  obtain ⟨t, hexec, -, -, htransfer, -⟩ := hwaiting (Nat.le_refl _) (Nat.zero_le _) (Or.inl hwaits)
  have hcounted : waitingAfter (exec .bagWeight recordTwice) = [2] := recordTwice_weighed
  rw [hexec, waitingAfter, htransfer] at hcounted
  exact absurd hcounted (by decide +kernel)

end Sys2Proof.Machine
end

section
/-! ## PALLET CLOSE and the choice of the arbiter (R148, R151) -/

namespace Sys2Proof.Machine

-- One declaration after the other, so that the text needs one thread for them and not one each.
set_option Elab.async false

/-! ### The order of the arbiter (R151) -/

/-- R151: `q` does not go before `p`, by exposure due, lane and ready order. -/
def Pallet.NotAfter (p q : Pallet) : Prop :=
  p.exposureDue < q.exposureDue ∨ (p.exposureDue = q.exposureDue ∧
    (p.lane < q.lane ∨ (p.lane = q.lane ∧ p.readyOrder ≤ q.readyOrder)))

theorem Pallet.before_iff (p q : Pallet) : p.before q = true ↔ p.exposureDue < q.exposureDue ∨
    (p.exposureDue = q.exposureDue ∧ (p.lane < q.lane ∨ (p.lane = q.lane ∧ p.readyOrder < q.readyOrder))) := by
  simp [Pallet.before]

theorem Pallet.NotAfter.refl (p : Pallet) : p.NotAfter p := Or.inr ⟨rfl, Or.inr ⟨rfl, Nat.le_refl _⟩⟩

theorem Pallet.NotAfter.trans {p q x : Pallet} (hpq : p.NotAfter q) (hqx : q.NotAfter x) : p.NotAfter x := by
  unfold Pallet.NotAfter at *
  omega

theorem Pallet.NotAfter.of_before {p q : Pallet} (h : p.before q = true) : p.NotAfter q := by
  rw [Pallet.before_iff] at h
  unfold Pallet.NotAfter
  omega

/-- R151: the order is total. -/
theorem Pallet.NotAfter.of_not_before {p q : Pallet} (h : ¬q.before p = true) : p.NotAfter q := by
  rw [Pallet.before_iff] at h
  unfold Pallet.NotAfter
  omega

theorem bestReady_none {t : Table Pallet} (h : ∀ e ∈ t, e.2.state ≠ .ready) : bestReady t = none := by
  induction t with
  | nil => rfl
  | cons e t ih =>
    rw [bestReady, if_neg (h e (List.mem_cons_self ..))]
    exact ih fun x hx => h x (List.mem_cons_of_mem _ hx)

/-- R151: the pallet chosen is a READY one of the table. -/
theorem bestReady_mem {t : Table Pallet} {r : Nat} {p : Pallet} (h : bestReady t = some (r, p)) :
    (r, p) ∈ t ∧ p.state = .ready := by
  induction t with
  | nil => nomatch h
  | cons e t ih =>
    obtain ⟨k, v⟩ := e
    rw [bestReady] at h
    split at h
    · next hready =>
      split at h
      · next hrest =>
        split at h
        · obtain ⟨hmem, hstate⟩ := ih (hrest.trans h)
          exact ⟨List.mem_cons_of_mem _ hmem, hstate⟩
        · cases h
          exact ⟨List.mem_cons_self, hready⟩
      · cases h
        exact ⟨List.mem_cons_self, hready⟩
    · obtain ⟨hmem, hstate⟩ := ih h
      exact ⟨List.mem_cons_of_mem _ hmem, hstate⟩

/-- R151: where there is a READY pallet, one is chosen that no READY pallet goes before. -/
theorem bestReady_first {t : Table Pallet} (h : ∃ e ∈ t, e.2.state = .ready) :
    ∃ r p, bestReady t = some (r, p) ∧ ∀ e ∈ t, e.2.state = .ready → p.NotAfter e.2 := by
  induction t with
  | nil =>
    obtain ⟨e, he, -⟩ := h
    nomatch he
  | cons e t ih =>
    obtain ⟨k, v⟩ := e
    by_cases hrest : ∃ x ∈ t, x.2.state = .ready
    · obtain ⟨r, p, hbest, hfirst⟩ := ih hrest
      rw [bestReady, hbest]
      by_cases hready : v.state = .ready
      · rw [if_pos hready]
        by_cases hbefore : p.before v = true
        · refine ⟨r, p, if_pos hbefore, fun x hx hstate => ?_⟩
          rcases List.mem_cons.mp hx with rfl | hx
          · exact .of_before hbefore
          · exact hfirst x hx hstate
        · refine ⟨k, v, if_neg hbefore, fun x hx hstate => ?_⟩
          rcases List.mem_cons.mp hx with rfl | hx
          · exact .refl v
          · exact (Pallet.NotAfter.of_not_before hbefore).trans (hfirst x hx hstate)
      · refine ⟨r, p, if_neg hready, fun x hx hstate => ?_⟩
        rcases List.mem_cons.mp hx with rfl | hx
        · exact absurd hstate hready
        · exact hfirst x hx hstate
    · have hnone : bestReady t = none := bestReady_none fun x hx hstate => hrest ⟨x, hx, hstate⟩
      obtain ⟨x, hx, hstate⟩ := h
      rcases List.mem_cons.mp hx with rfl | hx
      · refine ⟨k, v, by rw [bestReady, if_pos hstate, hnone], fun y hy hy' => ?_⟩
        rcases List.mem_cons.mp hy with rfl | hy
        · exact .refl v
        · exact absurd ⟨y, hy, hy'⟩ hrest
      · exact absurd ⟨x, hx, hstate⟩ hrest

/-! ### The arbiter (R151) -/

theorem State.arbitrate_busy {s : State} (h : s.transfer.shuttle.state ≠ .idle) : s.arbitrate = s := if_neg h

theorem State.arbitrate_none {s : State} (h : ∀ e ∈ s.transfer.pallets, e.2.state ≠ .ready) : s.arbitrate = s := by
  unfold State.arbitrate
  rw [bestReady_none h]
  exact ite_self s

theorem State.arbitrate_grant {s : State} (h : s.transfer.shuttle.state = .idle) {r : Nat} {p : Pallet}
    (hbest : bestReady s.transfer.pallets = some (r, p)) : s.arbitrate = s.grant r p := by
  unfold State.arbitrate
  rw [if_pos h, hbest]

/-- R148, R151: with the shuttle not IDLE the pallet becomes READY and nothing else changes. -/
theorem State.becomeReady_busy {s : State} (h : s.transfer.shuttle.state ≠ .idle) (r : Nat) : s.becomeReady r =
    { s with transfer := { s.transfer with
      pallets := s.transfer.pallets.modify r fun p => { p with state := .ready, readyOrder := s.transfer.lastReady + 1 }
      lastReady := s.transfer.lastReady + 1 } } := State.arbitrate_busy (s := (s.onPallet r _).onTransfer _) h

/-! ### PALLET CLOSE (R148) -/

theorem TransferUnit.findPallet_none {u : TransferUnit} {number : Nat} (h : ∀ e ∈ u.pallets, e.2.number ≠ number) :
    u.findPallet number = none := Table.first?_none fun e he => decide_eq_false (h e he)

theorem exec_palletClose_taken {s : State} {f : Frame} (h : AtHand s .palletClose f) (hf : f.payload.length = 2) :
    exec .palletClose s = .next ((doPalletClose (leNat f.payload) s).1.replied f (doPalletClose (leNat f.payload) s).2) :=
  State.act_handOn s .palletClose f parseWord doPalletClose (taken_of_always h fun _ => rfl) _ (parseWord_of_length hf)

/-- R148: what PALLET CLOSE makes of a pallet found. -/
theorem doPalletClose_found {s : State} {number r : Nat} {p : Pallet} (hn : number ≠ 0)
    (hp : s.transfer.findPallet number = some (r, p)) : doPalletClose number s =
      if p.state = .building then (s.becomeReady r, .palletClose p.bags.length p.total) else s.refuse .wrongState := by
  rw [doPalletClose, if_neg hn, hp]

/-- Settles O47: the checks in their order; the choice is the first READY pallet in the arbiter's total order. -/
theorem palletsAreClosedAndGranted : Obligations.PalletsAreClosedAndGranted := by
  refine ⟨?_, fun s hidle => ⟨State.arbitrate_none, fun hready => ?_⟩⟩
  · rintro s f number h hf rfl
    rw [exec_palletClose_taken h hf]
    refine ⟨fun hzero => ?_, fun hn hnone => ?_, fun r p hn hfound => ?_⟩
    · rw [doPalletClose, if_pos hzero]
      rfl
    · rw [doPalletClose, if_neg hn, TransferUnit.findPallet_none hnone]
      rfl
    · rw [doPalletClose_found hn hfound]
      refine ⟨fun hstate => ?_, fun hstate hbusy => ?_⟩
      · rw [if_neg hstate]
        rfl
      · rw [if_pos hstate, State.becomeReady_busy hbusy]
  · obtain ⟨r, p, hbest, hfirst⟩ := bestReady_first hready
    obtain ⟨hmem, hstate⟩ := bestReady_mem hbest
    exact ⟨r, p, hmem, hstate, hfirst, State.arbitrate_grant hidle hbest⟩

end Sys2Proof.Machine
end

section
/-! ## The edges of ACCEPT, LOADED and DONE (R150, R152, R154) -/

namespace Sys2Proof.Machine

-- One declaration after the other, so that the text needs one thread for them and not one each.
set_option Elab.async false

/-- R29: a command that delivers the oldest edge taken, on a powered part. -/
theorem State.act_deliver {s : State} {e : Edge} {rest : List Edge} (hw : s.powered = true) (h : s.time.edges = e :: rest)
    (owner : Edge → State → State) : (s.act fun s => s.deliver e.input owner) =
      .next (owner e { s with time := { s.time with edges := rest } }).finish := by
  rw [State.act_powered _ _ hw, State.deliver_head h]
  rfl

/-! ### What each input's edge does (R150) -/

section Released
variable {s : State} {e : Edge} {rest : List Edge} (hw : s.powered = true) (hp : s.pin = false) (h : s.time.edges = e :: rest)
include hw hp h

theorem exec_acceptEdge_head (hi : e.input = .acceptIn) : exec .acceptEdge s =
    .next (if e.rising = true then
        (({ s with time := { s.time with edges := rest } } : State).onShuttle fun sh => { sh with acceptLevel := e.rising }).accepted
      else ({ s with time := { s.time with edges := rest } } : State).onShuttle fun sh =>
        { sh with acceptLevel := e.rising }).finish := by
  rw [exec, execAcceptEdge, ← hi, State.act_deliver hw h]
  simp [hp]

theorem exec_loadedEdge_head (hi : e.input = .loadedIn) : exec .loadedEdge s =
    .next (if e.rising = true then
        (({ s with time := { s.time with edges := rest } } : State).onShuttle fun sh => { sh with loadedLevel := e.rising }).loaded
      else ({ s with time := { s.time with edges := rest } } : State).onShuttle fun sh =>
        { sh with loadedLevel := e.rising }).finish := by
  rw [exec, execLoadedEdge, ← hi, State.act_deliver hw h]
  simp [hp]

theorem exec_doneEdge_head (hi : e.input = .doneIn) : exec .doneEdge s =
    .next (if e.rising = true then
        (({ s with time := { s.time with edges := rest } } : State).onShuttle fun sh => { sh with doneLevel := e.rising }).jobDone
      else ({ s with time := { s.time with edges := rest } } : State).onShuttle fun sh =>
        { sh with doneLevel := e.rising }).finish := by
  rw [exec, execDoneEdge, ← hi, State.act_deliver hw h]
  simp [hp]

end Released

/-! ### The handshake (R152, R154) -/

section Handshake
variable {s : State} {j : Job} {r : Nat} {p : Pallet}

theorem State.accepted_assigned (h : s.transfer.shuttle.state = .assigned) :
    s.accepted = s.onShuttle fun sh => { sh with jobValid := false } := if_pos h

theorem State.accepted_unexpected (h : s.transfer.shuttle.state ≠ .assigned) : s.accepted = s.unexpected .accept := if_neg h

/-- R152: the loaded pallet is the job's. -/
theorem State.loaded_assigned (h : s.transfer.shuttle.state = .assigned) (hj : s.transfer.shuttle.job = some j)
    (hp : s.transfer.findPallet j.pallet = some (r, p)) : s.loaded =
      (s.onShuttle fun sh => { sh with state := .carrying, jobValid := false }).onPallet r fun p => { p with state := .loaded } := by
  simp only [State.loaded, h, hj, hp]

theorem State.loaded_unexpected (h : s.transfer.shuttle.state ≠ .assigned) : s.loaded = s.unexpected .loaded := by
  unfold State.loaded
  split
  · next hs _ => exact absurd hs h
  · rfl

/-- R154: DONE after the door pass ends the job. -/
theorem State.jobDone_passed (h : s.transfer.shuttle.state = .carrying) (hj : s.transfer.shuttle.job = some j)
    (hd : j.doorMade = true) : s.jobDone =
      ((s.cancel .shuttleJob).onShuttle fun sh => { sh with state := .idle, job := none, jobValid := false }).arbitrate := by
  simp only [State.jobDone, h, hj, hd, if_true]

theorem State.jobDone_unexpected
    (h : s.transfer.shuttle.state ≠ .carrying ∨ ∃ j, s.transfer.shuttle.job = some j ∧ j.doorMade = false) :
    s.jobDone = s.unexpected .finished := by
  unfold State.jobDone
  split
  · next j hs hj =>
    rcases h with h | ⟨j', hj', hd⟩
    · exact absurd hs h
    · cases hj.symm.trans hj'
      simp [hd]
  · rfl

end Handshake

/-- Settles O48: each edge by its input's level, its expected case and its reported one. -/
theorem shuttleHandshake : Obligations.ShuttleHandshake := by
  rintro s e rest hw hp h s1 rfl
  refine ⟨fun hi => ?_, fun hi => ⟨fun hr => ?_, fun hr hs => ?_, fun j r p hr hs hj hfound => ?_⟩,
    fun hi => ⟨fun hr => ?_, fun hr hs => ?_, fun j hr hs hj hd => ?_⟩⟩
  · rw [exec_acceptEdge_head hw hp h hi]
    by_cases hr : e.rising = true
    · by_cases hs : s.transfer.shuttle.state = .assigned
      · simp only [if_pos hr, if_pos hs]
        exact congrArg (fun t : State => Host.Outcome.next t.finish) (State.accepted_assigned hs)
      · simp only [if_pos hr, if_neg hs]
        exact congrArg (fun t : State => Host.Outcome.next t.finish) (State.accepted_unexpected hs)
    · simp only [if_neg hr]
      rfl
  · rw [exec_loadedEdge_head hw hp h hi, hr]
    rfl
  · rw [exec_loadedEdge_head hw hp h hi, if_pos hr, hr]
    exact congrArg (fun t : State => Host.Outcome.next t.finish) (State.loaded_unexpected hs)
  · rw [exec_loadedEdge_head hw hp h hi, if_pos hr, hr]
    exact congrArg (fun t : State => Host.Outcome.next t.finish) (State.loaded_assigned hs hj hfound)
  · rw [exec_doneEdge_head hw hp h hi, hr]
    rfl
  · rw [exec_doneEdge_head hw hp h hi, if_pos hr, hr]
    exact congrArg (fun t : State => Host.Outcome.next t.finish) (State.jobDone_unexpected hs)
  · rw [exec_doneEdge_head hw hp h hi, if_pos hr, hr]
    exact congrArg (fun t : State => Host.Outcome.next t.finish) (State.jobDone_passed hs hj hd)

end Sys2Proof.Machine
end

section
/-! ## Shuttle faults, the exposure expiry and SHUTTLE RESET (R95, R149, R155, R157) -/

namespace Sys2Proof.Machine

-- One declaration after the other, so that the text needs one thread for them and not one each.
set_option Elab.async false

/-! ### What the arbiter changes (R151) -/

/-- R151: the arbiter makes no choice, or grants the shuttle. -/
theorem State.arbitrate_cases (s : State) : s.arbitrate = s ∨ ∃ r p, s.arbitrate = s.grant r p := by
  unfold State.arbitrate
  split
  · split
    · exact Or.inr ⟨_, _, rfl⟩
    · exact Or.inl rfl
  · exact Or.inl rfl

theorem State.arbitrate_frame (s : State) :
    s.arbitrate = { s with time := s.arbitrate.time, transfer := s.arbitrate.transfer } := by
  rcases s.arbitrate_cases with h | ⟨r, p, h⟩ <;> rw [h]
  rfl

/-- R151: of a pallet the choice can change the state alone, to GRANTED. -/
theorem State.arbitrate_pallet {s : State} {r : Nat} {p : Pallet} (h : s.transfer.pallets.get? r = some p) :
    s.arbitrate.transfer.pallets.get? r = some p ∨ s.arbitrate.transfer.pallets.get? r = some { p with state := .granted } := by
  rcases s.arbitrate_cases with harb | ⟨k, q, harb⟩ <;> rw [harb]
  · exact Or.inl h
  · have hget : (s.grant k q).transfer.pallets.get? r = if r = k then some { p with state := .granted } else some p := by
      refine (Table.get?_modify ..).trans ?_
      rw [h]
      rfl
    rw [hget]
    split
    · exact Or.inr rfl
    · exact Or.inl rfl

theorem State.becomeReady_frame (s : State) (r : Nat) :
    s.becomeReady r = { s with time := (s.becomeReady r).time, transfer := (s.becomeReady r).transfer } :=
  State.arbitrate_frame _

theorem State.becomeReady_probe (s : State) (r : Nat) : (s.becomeReady r).probe = s.probe := by rw [State.becomeReady_frame]
theorem State.becomeReady_link (s : State) (r : Nat) : (s.becomeReady r).link = s.link := by rw [State.becomeReady_frame]
theorem State.becomeReady_dist (s : State) (r : Nat) : (s.becomeReady r).dist = s.dist := by rw [State.becomeReady_frame]

/-- R151: a pallet that becomes READY takes the next ready order, and may be granted in the same step. -/
theorem State.becomeReady_pallet {s : State} {r : Nat} {p : Pallet} (h : s.transfer.pallets.get? r = some p) :
    ∃ st, (st = .ready ∨ st = .granted) ∧ (s.becomeReady r).transfer.pallets.get? r =
      some { p with state := st, readyOrder := s.transfer.lastReady + 1 } := by
  have hready : ((s.onPallet r fun p => { p with state := .ready, readyOrder := s.transfer.lastReady + 1 }).onTransfer
      fun u => { u with lastReady := s.transfer.lastReady + 1 }).transfer.pallets.get? r =
        some { p with state := .ready, readyOrder := s.transfer.lastReady + 1 } := by
    refine (Table.get?_modify_self ..).trans ?_
    rw [h]
    rfl
  rcases State.arbitrate_pallet hready with hget | hget
  · exact ⟨.ready, Or.inl rfl, hget⟩
  · exact ⟨.granted, Or.inr rfl, hget⟩

/-! ### The latches and timers after an event (R89, R94) -/

/-- R89: an event of EXPOSURE or SHUTTLE_FAULT sets its latch and leaves the others. -/
theorem State.fire_latch {s t : State} {x : TripSource} (hx : x.channel = none) {cause : TripCause} {pallet time : Nat}
    (h : t.probe = (s.fire x cause pallet time).probe) : t.latch x = true ∧ ∀ y, y ≠ x → t.latch y = s.latch y := by
  rw [State.latch_congr (h.trans (s.fire_probe ..))]
  refine ⟨State.latch_setLatch_of_record (fun k hk => ?_) true, fun y hy => State.latch_setLatch_ne s true hy⟩
  rw [hx] at hk
  nomatch hk

/-- R94: an event arms no timer. -/
theorem State.fire_get?_none {s : State} (hwf : s.time.timers.wf = true) {n : Nat} (h : s.time.timers.get? n = none)
    (x : TripSource) (cause : TripCause) (pallet time : Nat) : (s.fire x cause pallet time).time.timers.get? n = none := by
  have htime := s.tripped_time x cause pallet time
  rw [State.fire_eq]
  split
  · rw [State.enterHalted_get? (htime ▸ hwf), htime, h, ite_self]
  · rw [htime, h]

/-! ### The entry to FAULTED (R155) -/

/-- R155: the job is over: its timer cancelled, the shuttle FAULTED. -/
def State.jobFailed (s : State) (cause : ShuttleCause) : State :=
  (s.cancel .shuttleJob).onShuttle (Shuttle.fail cause (strandedBy s.transfer.jobPallet))

/-- R155: the entry to FAULTED up to its event. -/
def State.jobReturned (s : State) (cause : ShuttleCause) : State :=
  match s.transfer.jobPallet with
  | some (r, p) => (s.jobFailed cause).returnPallet r p
  | none => s.jobFailed cause

theorem State.faultShuttle_eq (s : State) (cause : ShuttleCause) : s.faultShuttle cause =
    (s.jobReturned cause).fire .shuttleFault .transfer (raisedNumber s.transfer.jobPallet) s.time.lineTime := rfl

section Returned
variable {s : State} {r : Nat} {p : Pallet} (cause : ShuttleCause)

/-- R155: a FAULTED shuttle is not granted, so a GRANTED pallet goes back to READY and stays there. -/
theorem State.jobReturned_granted (h : s.transfer.jobPallet = some (r, p)) (hp : p.state = .granted) : s.jobReturned cause =
    { s.jobFailed cause with transfer := { (s.jobFailed cause).transfer with
      pallets := s.transfer.pallets.modify r fun p => { p with state := .ready, readyOrder := s.transfer.lastReady + 1 }
      lastReady := s.transfer.lastReady + 1 } } := by
  have hbusy : (s.jobFailed cause).transfer.shuttle.state ≠ .idle := fun hidle => nomatch hidle
  simp only [State.jobReturned, h, State.returnPallet, if_pos hp]
  exact State.becomeReady_busy hbusy r

theorem State.jobReturned_loaded (h : s.transfer.jobPallet = some (r, p)) (hp : p.state = .loaded) : s.jobReturned cause =
    (s.jobFailed cause).onPallet r fun p => { p with stranded := true } := by
  have hng : p.state ≠ .granted := by simp [hp]
  simp only [State.jobReturned, h, State.returnPallet, if_neg hng, if_pos hp]

theorem State.jobReturned_other (h : ∀ r p, s.transfer.jobPallet = some (r, p) → p.state ≠ .granted ∧ p.state ≠ .loaded) :
    s.jobReturned cause = s.jobFailed cause := by
  unfold State.jobReturned
  split
  · next r p hjob =>
    obtain ⟨hng, hnl⟩ := h r p hjob
    rw [State.returnPallet, if_neg hng, if_neg hnl]
  · rfl

end Returned

/-- R155: up to its event the entry to FAULTED changes timers, pallets, the last ready order and the shuttle record. -/
theorem State.jobReturned_frame (s : State) (cause : ShuttleCause) : s.jobReturned cause =
    { s.jobFailed cause with transfer := { (s.jobFailed cause).transfer with
      pallets := (s.jobReturned cause).transfer.pallets, lastReady := (s.jobReturned cause).transfer.lastReady } } := by
  by_cases hgranted : ∃ r p, s.transfer.jobPallet = some (r, p) ∧ p.state = .granted
  · obtain ⟨r, p, hjob, hp⟩ := hgranted
    rw [State.jobReturned_granted cause hjob hp]
  by_cases hloaded : ∃ r p, s.transfer.jobPallet = some (r, p) ∧ p.state = .loaded
  · obtain ⟨r, p, hjob, hp⟩ := hloaded
    rw [State.jobReturned_loaded cause hjob hp]
    rfl
  · rw [State.jobReturned_other cause fun r p hjob => ⟨fun hp => hgranted ⟨r, p, hjob, hp⟩, fun hp => hloaded ⟨r, p, hjob, hp⟩⟩]

theorem State.jobReturned_shuttle (s : State) (cause : ShuttleCause) : (s.jobReturned cause).transfer.shuttle =
    s.transfer.shuttle.fail cause (strandedBy s.transfer.jobPallet) := by
  rw [State.jobReturned_frame]
  rfl

/-- R155: without a pallet of the job no pallet changes. -/
theorem State.jobReturned_none {s : State} (h : s.transfer.jobPallet = none) (cause : ShuttleCause) :
    (s.jobReturned cause).transfer.pallets = s.transfer.pallets ∧ (s.jobReturned cause).transfer.shuttle.stranded = none := by
  refine ⟨?_, ?_⟩
  · rw [State.jobReturned_other cause fun r p hp => nomatch h.symm.trans hp]
    rfl
  · rw [State.jobReturned_shuttle, h]
    rfl

/-- R155: what a fault makes of the pallet of the job, by its state. -/
theorem State.jobReturned_pallet {s : State} {r : Nat} {p : Pallet} (h : s.transfer.jobPallet = some (r, p))
    (hget : s.transfer.pallets.get? r = some p) (cause : ShuttleCause) :
    (p.state = .granted → (s.jobReturned cause).transfer.shuttle.stranded = none ∧ (s.jobReturned cause).transfer.pallets.get? r =
      some { p with state := .ready, readyOrder := s.transfer.lastReady + 1 }) ∧
    (p.state = .loaded → (s.jobReturned cause).transfer.shuttle.stranded = some p.number ∧
      (s.jobReturned cause).transfer.pallets.get? r = some { p with stranded := true }) ∧
    (p.state = .stored → (s.jobReturned cause).transfer.shuttle.stranded = none ∧
      (s.jobReturned cause).transfer.pallets = s.transfer.pallets) := by
  have hstranded : (s.jobReturned cause).transfer.shuttle.stranded = if p.state = .loaded then some p.number else none := by
    rw [State.jobReturned_shuttle, h]
    rfl
  rw [hstranded]
  refine ⟨fun hp => ⟨if_neg (by simp [hp]), ?_⟩, fun hp => ⟨if_pos hp, ?_⟩, fun hp => ⟨if_neg (by simp [hp]), ?_⟩⟩
  · rw [State.jobReturned_granted cause h hp]
    exact (Table.get?_modify_self ..).trans (congrArg (Option.map _) hget)
  · rw [State.jobReturned_loaded cause h hp]
    exact (Table.get?_modify_self ..).trans (congrArg (Option.map _) hget)
  · rw [State.jobReturned_other cause fun k q hq => ?_]
    · rfl
    · cases h.symm.trans hq
      simp [hp]

/-- R91, R155: with NOTIFY and a free entry the event is reported with its number. -/
theorem State.faultShuttle_queued {s : State} (hn : s.probe.shuttleFault.route.notify = true) (hroom : Room s 1)
    (cause : ShuttleCause) : Queued (s.faultShuttle cause).finish (.trip .shuttleFault .transfer none
      (raisedNumber s.transfer.jobPallet) s.probe.shuttleFault.route s.time.lineTime) := by
  have hprobe : (s.jobReturned cause).probe = s.probe := by rw [State.jobReturned_frame]; rfl
  have hlink : (s.jobReturned cause).link = s.link := by rw [State.jobReturned_frame]; rfl
  have hroute : (s.jobReturned cause).route .shuttleFault = s.probe.shuttleFault.route := by rw [State.route_congr hprobe]; rfl
  rw [queued_finish, State.faultShuttle_eq, ← hroute]
  exact State.fire_queued (x := .shuttleFault) (by rwa [hroute]) ((room_congr hlink).mpr hroom) ..

/-- R155: every entry to FAULTED. -/
theorem State.faultedFrom {s : State} (hwf : s.time.timers.wf = true) (cause : ShuttleCause) :
    FaultedFrom s (s.faultShuttle cause).finish cause := by
  have hprobe : (s.jobReturned cause).probe = s.probe := by rw [State.jobReturned_frame]; rfl
  have htimers : (s.jobReturned cause).time.timers = s.time.timers.del 14 := by rw [State.jobReturned_frame]; rfl
  have htransfer : (s.faultShuttle cause).finish.transfer = (s.jobReturned cause).transfer := by
    rw [State.finish_transfer, State.faultShuttle_eq, State.fire_transfer]
  have hshuttle := s.jobReturned_shuttle cause
  obtain ⟨hlatch, hothers⟩ := State.fire_latch (s := s.jobReturned cause) (x := .shuttleFault) rfl
    (State.finish_probe (s.faultShuttle cause))
  rw [State.latch_congr hprobe] at hothers
  unfold FaultedFrom
  rw [htransfer]
  refine ⟨congrArg Shuttle.state hshuttle, congrArg Shuttle.job hshuttle, congrArg Shuttle.jobValid hshuttle,
    congrArg Shuttle.cause hshuttle, ?_, hlatch, hothers, ?_, ?_, fun hjob => ?_, fun hn hroom => ⟨fun hjob => ?_, ?_⟩,
    fun j hj hd => ?_, fun j r p hj hd hfound hget => ?_⟩
  · rw [State.finish_time, State.faultShuttle_eq]
    exact State.fire_get?_none (htimers ▸ Table.wf_del 14 hwf) (htimers ▸ Table.get?_del_self 14 hwf) ..
  · rw [State.finish_dist, State.faultShuttle_eq, State.fire_dist, State.jobReturned_frame]
    rfl
  · rw [State.finish_track, State.faultShuttle_eq, State.fire_track, State.jobReturned_frame]
    rfl
  · exact State.jobReturned_none (TransferUnit.jobPallet_idle _ hjob) cause
  · have hnone : s.transfer.jobPallet = none := by
      rcases hjob with hjob | ⟨j, hj, hd⟩
      · exact TransferUnit.jobPallet_idle _ hjob
      · exact TransferUnit.jobPallet_passed _ j hj hd
    have hqueued := State.faultShuttle_queued hn hroom cause
    rwa [hnone] at hqueued
  · intro j r p hj hd hfound hstored
    have hqueued := State.faultShuttle_queued hn hroom cause
    rwa [TransferUnit.jobPallet_carried _ j hj hd, hfound, raisedNumber, if_neg hstored] at hqueued
  · exact State.jobReturned_none (TransferUnit.jobPallet_passed _ j hj hd) cause
  · exact State.jobReturned_pallet ((TransferUnit.jobPallet_carried _ j hj hd).trans hfound) hget cause

theorem exec_faultEdge_head {s : State} {e : Edge} {rest : List Edge} (hw : s.powered = true) (hp : s.pin = false)
    (h : s.time.edges = e :: rest) (hi : e.input = .faultIn) : exec .faultEdge s =
      .next (if e.rising = true ∧ s.transfer.shuttle.state ≠ .faulted then
          (({ s with time := { s.time with edges := rest } } : State).onShuttle fun sh =>
            { sh with faultLevel := e.rising }).faultShuttle .input
        else ({ s with time := { s.time with edges := rest } } : State).onShuttle fun sh =>
          { sh with faultLevel := e.rising }).finish := by
  rw [exec, execFaultEdge, ← hi, State.act_deliver hw h]
  simp [hp]

theorem State.faultShuttle_faultLevel (s : State) (cause : ShuttleCause) :
    (s.faultShuttle cause).finish.transfer.shuttle.faultLevel = s.transfer.shuttle.faultLevel := by
  rw [State.finish_transfer, State.faultShuttle_eq, State.fire_transfer, State.jobReturned_shuttle]
  rfl

/-! ### The exposure expiry (R95, R149) -/

section Exposure
variable {s : State} {r : Nat} {p : Pallet}

theorem State.exposureExpired_stored (h : s.transfer.pallets.get? r = some p) (hp : p.state = .stored) :
    s.exposureExpired r = s := by
  simp only [State.exposureExpired, h, if_pos hp]

theorem State.exposureExpired_building (h : s.transfer.pallets.get? r = some p) (hp : p.state = .building) :
    s.exposureExpired r = (s.expose r p).becomeReady r := by
  have hns : p.state ≠ .stored := by simp [hp]
  simp only [State.exposureExpired, h, if_neg hns, if_pos hp]

theorem State.exposureExpired_other (h : s.transfer.pallets.get? r = some p) (hns : p.state ≠ .stored)
    (hnb : p.state ≠ .building) : s.exposureExpired r = s.expose r p := by
  simp only [State.exposureExpired, h, if_neg hns, if_neg hnb]

variable (s r p)

theorem State.expose_transfer : (s.expose r p).transfer =
    { s.transfer with pallets := s.transfer.pallets.modify r fun p => { p with exposed := true } } := by
  rw [State.expose, State.notify_transfer, State.fire_transfer]
  rfl

theorem State.expose_probe : (s.expose r p).probe = (s.fire .exposure .transfer p.number s.time.lineTime).probe := by
  rw [State.expose, State.notify_probe, State.fire_probe, State.fire_probe]
  rfl

variable {s r p}

theorem State.expose_pallet (h : s.transfer.pallets.get? r = some p) :
    (s.expose r p).transfer.pallets.get? r = some { p with exposed := true } := by
  rw [State.expose_transfer]
  exact (Table.get?_modify_self ..).trans (congrArg (Option.map _) h)

/-- R149: PALLET EXPOSED is queued where the event itself takes no entry. -/
theorem State.expose_queued (hn : s.probe.exposure.route.notify = false) (hstop : s.probe.exposure.route.stopLine = false)
    (hroom : Room s 1) : Queued (s.expose r p)
      (.palletExposed p.number p.lane p.slot p.state p.exposureStart p.exposureDue) := by
  have hlink : ((s.onPallet r fun p => { p with exposed := true }).fire .exposure .transfer p.number s.time.lineTime).link =
      s.link := by
    rw [State.fire_eq, if_neg fun h => Bool.false_ne_true (hstop.symm.trans h.1)]
    exact State.tripped_link_silent (s := s.onPallet r _) (x := .exposure) (fun h => Bool.false_ne_true (hn.symm.trans h)) ..
  exact State.notify_queued _ ((room_congr hlink).mpr hroom)

/-- R149: the expiry of a pallet that is not STORED. -/
theorem State.exposureExpired_exposed (h : s.transfer.pallets.get? r = some p) (hns : p.state ≠ .stored) :
    (∃ st order, (s.exposureExpired r).transfer.pallets.get? r =
        some { p with exposed := true, state := st, readyOrder := order } ∧ (p.state ≠ .building → st = p.state) ∧
      (p.state = .building → st = .ready ∨ st = .granted)) ∧
    (s.exposureExpired r).probe = (s.expose r p).probe ∧ (s.exposureExpired r).link = (s.expose r p).link := by
  have hexposed := State.expose_pallet h
  by_cases hb : p.state = .building
  · rw [State.exposureExpired_building h hb]
    obtain ⟨st, hst, hget⟩ := State.becomeReady_pallet hexposed
    exact ⟨⟨st, _, hget, fun hnb => absurd hb hnb, fun _ => hst⟩, State.becomeReady_probe .., State.becomeReady_link ..⟩
  · rw [State.exposureExpired_other h hns hb]
    exact ⟨⟨p.state, p.readyOrder, hexposed, fun _ => rfl, fun hb' => absurd hb' hb⟩, rfl, rfl⟩

end Exposure

theorem exec_exposureTimerExpiry_due {s : State} {r : Nat} (h1 : 1 ≤ r) (h8 : r ≤ 8) (hw : s.powered = true) (hp : s.pin = false)
    (h : TimerId.exposure r ∈ s.time.expired) : exec (.exposureTimerExpiry r) s =
      .next (({ s with time := { s.time with expired := s.time.expired.erase (.exposure r) } } : State).exposureExpired r).finish := by
  rw [exec, execExposureTimerExpiry, if_pos (by simp [Instr.wellFormed, h1, h8]), State.act_expire hw hp h]

/-! ### SHUTTLE RESET (R157) -/

theorem exec_shuttleReset_taken {s : State} {f : Frame} (h : AtHand s .shuttleReset f) (hf : f.payload = []) :
    exec .shuttleReset s = .next ((doShuttleReset () s).1.replied f (doShuttleReset () s).2) :=
  State.act_handOn s .shuttleReset f parseNone doShuttleReset (taken_of_always h fun _ => rfl) () (by rw [hf]; rfl)

theorem doShuttleReset_done {s : State} (h : s.transfer.shuttle.state = .faulted) (hlevel : s.transfer.shuttle.faultLevel = false) :
    doShuttleReset () s = (s.recoverShuttle, .shuttleReset (s.transfer.shuttle.stranded.getD 0)) := by
  rw [doShuttleReset, if_neg (not_not.mpr h), if_neg (by simp [hlevel])]

theorem State.recoverShuttle_none {s : State} (h : s.transfer.shuttle.stranded = none) :
    s.recoverShuttle = (s.onShuttle Shuttle.recover).arbitrate := by
  simp only [State.recoverShuttle, h, Option.bind_none]

theorem State.recoverShuttle_stranded {s : State} {number r : Nat} {p : Pallet} (h : s.transfer.shuttle.stranded = some number)
    (hfound : s.transfer.findPallet number = some (r, p)) :
    s.recoverShuttle = (s.onShuttle Shuttle.recover).becomeReady r := by
  simp only [State.recoverShuttle, h, Option.bind_some, hfound]

/-- Settles O50: every entry to FAULTED is `faultShuttle`, every expiry of a pallet not STORED its exposure; then the reset by its
checks. -/
theorem faultsExposureAndRecovery : Obligations.FaultsExposureAndRecovery := by
  refine ⟨⟨fun s e rest hw hp h hi hwf => ⟨fun hquiet => ?_, fun hr hs => ?_⟩, fun s hw hp hx hwf => ⟨fun hs => ?_, fun hs => ?_⟩,
    fun s r p hw hp h1 h8 hx hget => ⟨fun hs => ?_, fun hs => ?_⟩⟩, fun s f h hf => ⟨fun hs => ?_, fun hs hlevel => ?_, ?_⟩⟩
  · rw [exec_faultEdge_head hw hp h hi, if_neg (by rcases hquiet with hq | hq <;> simp [hq])]
    rfl
  · rw [exec_faultEdge_head hw hp h hi, if_pos ⟨hr, hs⟩]
    exact ⟨_, rfl, State.faultedFrom (by exact hwf) .input, (State.faultShuttle_faultLevel ..).trans hr⟩
  · refine ⟨_, (State.act_expire hw hp hx).trans (congrArg (fun t : State => Host.Outcome.next t.finish) (if_pos hs)), ?_⟩
    exact State.faultedFrom (s := { s with time := { s.time with expired := s.time.expired.erase .shuttleJob } }) hwf .timeout
  · refine (State.act_expire hw hp hx).trans (congrArg (fun t : State => Host.Outcome.next t.finish) (if_neg ?_))
    rcases hs with hs | hs <;> simp [hs]
  · rw [exec_exposureTimerExpiry_due h1 h8 hw hp hx]
    exact congrArg (fun t : State => Host.Outcome.next t.finish) (State.exposureExpired_stored (by exact hget) hs)
  · obtain ⟨u, hu⟩ : ∃ u : State, u = { s with time := { s.time with expired := s.time.expired.erase (.exposure r) } } := ⟨_, rfl⟩
    have hpallet : u.transfer.pallets.get? r = some p := by rw [hu]; exact hget
    obtain ⟨⟨st, order, hgot, hkept, hready⟩, hprobe, hlink⟩ := State.exposureExpired_exposed hpallet hs
    obtain ⟨hlatch, hothers⟩ := State.fire_latch rfl
      ((State.finish_probe _).trans (hprobe.trans (u.expose_probe r p)))
    rw [exec_exposureTimerExpiry_due h1 h8 hw hp hx, ← hu]
    refine ⟨_, { p with exposed := true, state := st, readyOrder := order }, rfl, ?_, rfl, rfl, rfl, hkept, hready, hlatch,
      fun y hy => ?_, fun hn hstop hroom => ?_⟩
    · rw [State.finish_transfer, hgot]
    · rw [hothers y hy, hu]
      rfl
    · rw [queued_finish, queued_congr (congrArg LinkUnit.notices hlink)]
      subst hu
      exact State.expose_queued hn hstop hroom
  · rw [exec_shuttleReset_taken h hf, doShuttleReset, if_pos hs]
    rfl
  · rw [exec_shuttleReset_taken h hf, doShuttleReset, if_neg (not_not.mpr hs), if_pos hlevel]
    rfl
  · rintro s1 rfl hs hlevel
    rw [exec_shuttleReset_taken h hf, doShuttleReset_done hs hlevel]
    refine ⟨fun hnone => ?_, fun number r p hsome hfound => ?_⟩
    · rw [hnone, State.recoverShuttle_none hnone]
      rfl
    · rw [hsome, State.recoverShuttle_stranded hsome hfound]
      rfl

end Sys2Proof.Machine
end

section
/-! ## Records freed and the waiting list walked (R138, R145 to R147, R159) -/

namespace Sys2Proof.Machine

-- One declaration after the other, so that the text needs one thread for them and not one each.
set_option Elab.async false

/-! ### A record changed and then deleted -/

theorem Table.modify_absent {α : Type} {t : Table α} {k : Nat} (h : ∀ e ∈ t, e.1 ≠ k) (f : α → α) : Table.modify t k f = t := by
  have hsame : Table.modify t k f = Table.mapVals (fun _ v => v) t := Table.mapVals_congr fun e he => if_neg (h e he)
  rw [hsame, Table.mapVals_id]

theorem Table.del_modify_self {α : Type} {t : Table α} (h : t.wf = true) (k : Nat) (f : α → α) :
    (t.modify k f).del k = t.del k := by
  rw [Table.wf_iff, List.pairwise_map] at h
  induction t with
  | nil => rfl
  | cons e t ih =>
    obtain ⟨j, v⟩ := e
    obtain ⟨hlt, hrest⟩ := List.pairwise_cons.mp h
    have hmodify : Table.modify ((j, v) :: t) k f = (j, if j = k then f v else v) :: Table.modify t k f := rfl
    rw [hmodify, Table.del, Table.del]
    split
    · next hk => exact Table.modify_absent (fun x hx => Nat.ne_of_gt (hk ▸ hlt x hx)) f
    · next hk => rw [if_neg (Ne.symm hk), ih hrest]

/-- A record deleted was not the one a search without result was for. -/
theorem Table.first?_del_none {α : Type} {p : Nat → α → Bool} {t : Table α} (h : t.first? p = none) (k : Nat) :
    (t.del k).first? p = none := by
  refine Table.first?_none fun e he => ?_
  by_contra hp
  obtain ⟨x, hx⟩ := Table.first?_isSome ((Table.del_sublist t k).mem he) (Bool.not_eq_false _ ▸ hp)
  nomatch h.symm.trans hx

/-! ### A bag record freed (R138, R139) -/

@[simp] theorem State.unblock_transfer (s : State) : s.unblock.transfer = s.transfer := by
  unfold State.unblock
  split <;> rfl

@[simp] theorem State.unblock_bags (s : State) : s.unblock.dist.bags = s.dist.bags := by
  unfold State.unblock
  split <;> rfl

@[simp] theorem State.freeBag_transfer (s : State) (k : Nat) : (s.freeBag k).transfer = s.transfer := by
  unfold State.freeBag
  split
  · simp
  · rfl

theorem State.freeBag_bags {s : State} {k : Nat} {b : Bag} (h : s.dist.bags.get? k = some b) :
    (s.freeBag k).dist.bags = s.dist.bags.del k := by
  simp only [State.freeBag, h, State.unblock_bags, State.retireTest_dist, State.onLot_dist]
  rfl

/-! ### A bag counted (R144, R145, R147) -/

/-- R147: the bag counted is the last of its pallet, which may have become READY; its record is freed. -/
theorem State.countOnto_counted {s : State} {r k : Nat} {p : Pallet} {b : Bag} (hp : s.transfer.pallets.get? r = some p)
    (hb : s.dist.bags.get? k = some b) : ∃ p', (s.countOnto r k).transfer.pallets.get? r = some p' ∧ p'.lane = p.lane ∧
      p'.bags = p.bags ++ [⟨b.number, b.grams.getD 0, b.parcels, b.minCredit⟩] ∧
      (s.countOnto r k).dist.bags = s.dist.bags.del k := by
  obtain ⟨p', hp'⟩ : ∃ p', p' = p.count b (s.recipeOfSlot p.slot).exposureLimit := ⟨_, rfl⟩
  obtain ⟨u, hu⟩ : ∃ u : State, u = (((s.onPallet r fun _ => p').arm (.exposure r) p'.exposureDue).freeBag k) := ⟨_, rfl⟩
  have hcount : s.countOnto r k = if p'.target ≤ p'.bags.length then u.becomeReady r else u := by
    rw [hu, hp']
    simp only [State.countOnto, hp, hb]
  have hpallet : u.transfer.pallets.get? r = some p' := by
    rw [hu, State.freeBag_transfer]
    exact (Table.get?_modify_self ..).trans (congrArg (Option.map _) hp)
  have hbags : u.dist.bags = s.dist.bags.del k := by
    rw [hu]
    exact State.freeBag_bags (s := (s.onPallet r fun _ => p').arm (.exposure r) p'.exposureDue) hb
  rw [hcount]
  split
  · obtain ⟨st, -, hget⟩ := State.becomeReady_pallet hpallet
    exact ⟨_, hget, by rw [hp']; rfl, by rw [hp']; rfl, by rw [State.becomeReady_dist, hbags]⟩
  · exact ⟨p', hpallet, by rw [hp']; rfl, by rw [hp']; rfl, hbags⟩

/-- R144, R145: on a lane without a BUILDING pallet a bag is counted onto a new one where a record is free. -/
theorem State.tryCount_new {s : State} {k r : Nat} {b : Bag} (hb : s.dist.bags.get? k = some b)
    (hnone : s.transfer.building b.lane = none) (hfree : s.transfer.pallets.freeKey 1 8 = some r) :
    (s.tryCount k).2 = true ∧ ∃ p', (s.tryCount k).1.transfer.pallets.get? r = some p' ∧ p'.lane = b.lane ∧
      p'.bags = [⟨b.number, b.grams.getD 0, b.parcels, b.minCredit⟩] ∧ (s.tryCount k).1.dist.bags = s.dist.bags.del k := by
  have htry : s.tryCount k = ((s.createPallet r b).countOnto r k, true) := by
    have hfree' : s.transfer.pallets.freeKey 1 Config.palletCount = some r := hfree
    simp only [State.tryCount, hb, hnone, State.countNew, hfree']
  rw [htry]
  exact ⟨rfl, State.countOnto_counted (s := s.createPallet r b) (Table.get?_put_self ..) hb⟩

/-! ### The walk of the waiting list (R146) -/

/-- R146: the walk keeps the order of the waiting list. -/
theorem walk_sublist (numbers lanes : List Nat) (s : State) : (walk numbers lanes s).2.Sublist numbers := by
  induction numbers generalizing lanes s with
  | nil => exact List.Sublist.slnil
  | cons number rest ih =>
    unfold walk
    split
    · exact (ih ..).cons _
    · dsimp only
      split
      · exact (ih ..).cons_cons _
      · split
        · exact (ih ..).cons _
        · exact (ih ..).cons_cons _

theorem State.walkWaiting_nil {s : State} (h : s.transfer.waiting = []) : s.walkWaiting = s := by
  have hwalk : s.walkWaiting = { s with transfer := { s.transfer with waiting := [] } } := by
    unfold State.walkWaiting
    rw [h]
    rfl
  rw [hwalk, ← h]

/-- R146: the only bag that waits is counted where it can be. -/
theorem State.walkWaiting_counted {s : State} {number k : Nat} {b : Bag} (h : s.transfer.waiting = [number])
    (hfound : s.dist.findBag number = some (k, b)) (htry : (s.tryCount k).2 = true) :
    s.walkWaiting = (s.tryCount k).1.onTransfer fun u => { u with waiting := [] } := by
  unfold State.walkWaiting
  rw [h]
  simp [walk, hfound, htry]

/-! ### The pallet of a door pass (R153, R159) -/

/-- The pallet of record `r`, in a table in canonical form, and its lot, which is current. -/
structure Carried (s : State) (r : Nat) (p : Pallet) (l : Lot) : Prop where
  pallet : s.transfer.pallets.get? r = some p
  pallets : s.transfer.pallets.wf = true
  lot : s.parcel.lots.get? p.slot = some l
  current : s.parcel.current = some p.slot

/-- R159: the summary of a pallet. -/
def Pallet.summary (p : Pallet) (code : List Byte) : PalletSummary :=
  { number := p.number, lane := p.lane, slot := p.slot, code := code, exposed := p.exposed, stranded := p.stranded
    target := p.target, bagCount := p.bags.length, total := p.total, exposureStart := p.exposureStart
    exposureDue := p.exposureDue, doorTime := p.doorTime }

/-- R159: the notice of one part of PALLET TRANSFER. -/
def Pallet.transferPart (p : Pallet) (code : List Byte) (part : Nat) : NoticeBody :=
  .palletTransfer (p.summary code) part p.parts (p.partEntries part)

theorem Pallet.transferPart_whole {p : Pallet} (h : p.bags.length ≤ 60) (code : List Byte) :
    p.transferPart code 1 = .palletTransfer (p.summary code) 1 1 p.bags := by
  have hparts : p.parts = 1 := if_pos h
  have hentries : p.partEntries 1 = p.bags := List.take_of_length_le h
  rw [Pallet.transferPart, hparts, hentries]

theorem Pallet.parts_two {p : Pallet} (h : 60 < p.bags.length) : p.parts = 2 := if_neg (Nat.not_le.mpr h)

theorem Pallet.transferPart_first {p : Pallet} (h : 60 < p.bags.length) (code : List Byte) :
    p.transferPart code 1 = .palletTransfer (p.summary code) 1 2 (p.bags.take 60) := by
  rw [Pallet.transferPart, Pallet.parts_two h]
  rfl

theorem Pallet.transferPart_second {p : Pallet} (h : 60 < p.bags.length) (code : List Byte) :
    p.transferPart code 2 = .palletTransfer (p.summary code) 2 2 (p.bags.drop 60) := by
  rw [Pallet.transferPart, Pallet.parts_two h]
  rfl

/-- R159: what the freeing of a pallet's record leaves before the walk of the waiting list. -/
def State.palletFreed (r : Nat) (p : Pallet) (s : State) : State :=
  { s with
    transfer := { s.transfer with pallets := s.transfer.pallets.del r }
    time := { s.time with
      timers := s.time.timers.del (5 + r), expired := s.time.expired.filter fun x => !decide (x = .exposure r) }
    parcel := { s.parcel with lots := s.parcel.lots.modify p.slot Lot.dropPallet } }

theorem Room.enter {s : State} {k : Nat} (h : Room s (k + 1)) (b : NoticeBody) : Room (s.enter b) k := by
  obtain ⟨hn, hw⟩ := h
  refine ⟨?_, hw⟩
  rw [State.enter_link, List.length_append, List.length_singleton]
  omega

section Carried
variable {s : State} {r : Nat} {p : Pallet} {l : Lot}

theorem Carried.summary (h : Carried s r p l) : s.palletSummary p = p.summary l.code := by
  simp only [State.palletSummary, h.lot]
  rfl

theorem Carried.enter (h : Carried s r p l) (b : NoticeBody) : Carried (s.enter b) r p l :=
  ⟨h.pallet, h.pallets, h.lot, h.current⟩

/-- R73, R159: a current lot does not retire as its pallet's record is freed. -/
theorem Carried.freePallet (h : Carried s r p l) : s.freePallet r = (s.palletFreed r p).walkWaiting := by
  have hkeep : (s.palletFreed r p).retireTest p.slot = s.palletFreed r p :=
    State.retireTest_keep _ _ fun l' _ => by simp [ParcelUnit.mayRetire, State.palletFreed, h.current]
  simp only [State.freePallet, h.pallet]
  exact congrArg State.walkWaiting hkeep

theorem Carried.enterTransfer (h : Carried s r p l) (part : Nat) :
    s.enterTransfer r part = s.enter (p.transferPart l.code part) := by
  simp only [State.enterTransfer, h.pallet, h.summary]
  rfl

theorem Carried.enterLast (h : Carried s r p l) (part : Nat) :
    s.enterLast r part = ((s.enter (p.transferPart l.code part)).palletFreed r p).walkWaiting := by
  rw [State.enterLast, h.enterTransfer]
  exact (h.enter _).freePallet

/-- R159: a pallet of one part is reported and its record freed. -/
theorem Carried.offerPart_whole (h : Carried s r p l) (hroom : Room s 1) (hbags : p.bags.length ≤ 60) :
    s.offerPart r 1 = ((s.enter (p.transferPart l.code 1)).palletFreed r p).walkWaiting := by
  have hhas : s.link.hasRoom = true := decide_eq_true hroom.1
  have hparts : p.parts = 1 := if_pos hbags
  rw [State.offerPart, if_pos hhas]
  simp only [State.enterPart, h.pallet, hparts, if_neg (Nat.lt_irrefl 1)]
  exact h.enterLast 1

/-- R159: the first part of a pallet of two parts. -/
theorem Carried.offerPart_first (h : Carried s r p l) (hroom : Room s 1) (hbags : 60 < p.bags.length) :
    s.offerPart r 1 = (s.enter (p.transferPart l.code 1)).offerLast r 2 := by
  have hhas : s.link.hasRoom = true := decide_eq_true hroom.1
  rw [State.offerPart, if_pos hhas]
  simp only [State.enterPart, h.pallet, Pallet.parts_two hbags, if_pos Nat.one_lt_two, h.enterTransfer]

/-- R159: both parts enter, and the record is freed with the second. -/
theorem Carried.offerPart_both (h : Carried s r p l) (hroom : Room s 2) (hbags : 60 < p.bags.length) : s.offerPart r 1 =
    (((s.enter (p.transferPart l.code 1)).enter (p.transferPart l.code 2)).palletFreed r p).walkWaiting := by
  have hhas : (s.enter (p.transferPart l.code 1)).link.hasRoom = true := decide_eq_true (hroom.enter _).1
  rw [h.offerPart_first (hroom.mono (by omega)) hbags, State.offerLast, if_pos hhas]
  exact (h.enter _).enterLast 2

/-- R159, R185: without room the second part waits, and the record stays. -/
theorem Carried.offerPart_waits (h : Carried s r p l) (hroom : Room s 1) (hfull : s.link.notices.length = 31)
    (hbags : 60 < p.bags.length) : s.offerPart r 1 = (s.enter (p.transferPart l.code 1)).await (.palletPart r 2) := by
  have hhas : ¬(s.enter (p.transferPart l.code 1)).link.hasRoom = true := by
    simp [LinkUnit.hasRoom, hfull, Config.noticeDepth]
  rw [h.offerPart_first hroom hbags, State.offerLast, if_neg hhas]

end Carried

end Sys2Proof.Machine
end

section
/-! ## The door pass (R149, R153, R154, R159) -/

namespace Sys2Proof.Machine

-- One declaration after the other, so that the text needs one thread for them and not one each.
set_option Elab.async false

/-! ### EXPOSURE on a line that is not proving (R89, R94, R95) -/

theorem State.markZone_unzoned (s : State) {x : TripSource} (hx : x.channel = none) : s.markZone x = s := by
  unfold State.markZone
  rw [hx]

section NotProving
variable {s : State} (h : s.line.state ≠ .proving)
include h

/-- R92, R170: an event of no channel changes nothing of the parcel unit unless its halt ends a proving run. -/
theorem State.fire_parcel_of_not_proving {x : TripSource} (hx : x.channel = none) (cause : TripCause) (pallet time : Nat) :
    (s.fire x cause pallet time).parcel = s.parcel := by
  have htripped : (s.tripped x cause pallet time).parcel = s.parcel := by
    rw [State.tripped, State.markZone_unzoned _ hx, ite_self]
    rfl
  rw [State.fire_eq]
  split
  · rw [State.enterHalted_eq, if_neg (by rwa [State.tripped_line]), State.halting_parcel, htripped]
  · exact htripped

/-- R185: an event takes two entries at most: TRIP, and the LINE STATE of its halt. -/
theorem Room.fire_of_not_proving {k : Nat} (hroom : Room s (k + 2)) (x : TripSource) (cause : TripCause) (pallet time : Nat) :
    Room (s.fire x cause pallet time) k := by
  have htripped : Room (s.tripped x cause pallet time) (k + 1) := hroom.tripped ..
  rw [State.fire_eq]
  split
  · rw [State.enterHalted_eq, if_neg (by rwa [State.tripped_line])]
    exact htripped.halting _
  · exact htripped.mono (by omega)

end NotProving

/-! ### A pallet quarantined EXPOSED (R149, R153) -/

section Expose
variable (s : State) (r : Nat) (p : Pallet)

theorem State.expose_lineTime : (s.expose r p).time.lineTime = s.time.lineTime := by
  rw [State.expose, State.notify_time, State.fire_time]
  rfl

theorem State.expose_timer_none {s : State} (hwf : s.time.timers.wf = true) {n : Nat} (h : s.time.timers.get? n = none) :
    (s.expose r p).time.timers.get? n = none := State.fire_get?_none (s := s.onPallet r _) hwf h ..

/-- R149, R185: on a line that is not proving TRIP and LINE STATE come before PALLET EXPOSED. -/
theorem State.expose_notices {s : State} (h : s.line.state ≠ .proving) {k : Nat} (hroom : Room s (k + 3)) :
    Room (s.expose r p) k ∧ ∃ before, (s.expose r p).link.notices = before ++
      [⟨s.time.lineTime, .palletExposed p.number p.lane p.slot p.state p.exposureStart p.exposureDue⟩] := by
  obtain ⟨u, hu⟩ : ∃ u : State, u = (s.onPallet r fun p => { p with exposed := true }).fire .exposure .transfer p.number
    s.time.lineTime := ⟨_, rfl⟩
  have hfired : Room u (k + 1) := by
    rw [hu]
    exact Room.fire_of_not_proving (s := s.onPallet r _) h hroom ..
  have htime : u.time.lineTime = s.time.lineTime := by
    rw [hu, State.fire_time]
    rfl
  rw [State.expose, ← hu]
  refine ⟨hfired.notify _, u.link.notices, ?_⟩
  rw [State.notify_link_room _ _ (hfired.mono (by omega)), htime]

end Expose

/-! ### The parts of a door pass (R153) -/

/-- R153, steps 1 and 2: the door time, the door pass made, the exposure timer cancelled. -/
def State.atDoor (r stamp : Nat) (s : State) : State :=
  ((s.onPallet r fun p => { p with doorTime := some stamp }).onShuttle fun sh =>
    { sh with job := sh.job.map fun j => { j with doorMade := true } }).cancel (.exposure r)

theorem State.atDoor_shuttle {s : State} {j : Job} (hj : s.transfer.shuttle.job = some j) (r stamp : Nat) :
    (s.atDoor r stamp).transfer.shuttle = { s.transfer.shuttle with job := some { j with doorMade := true } } := by
  simp [State.atDoor, State.onShuttle, State.onPallet, hj]

theorem State.doorPass_eq (r stamp : Nat) (s : State) :
    s.doorPass r stamp = ((s.atDoor r stamp).judgeDoor r stamp).storePallet r := rfl

/-- R153, step 4: the pallet STORED and counted by its verdict, before its PALLET TRANSFER is offered. -/
def State.palletStored (r : Nat) (p : Pallet) (s : State) : State :=
  (s.onPallet r fun p => { p with state := .stored }).onLot p.slot (Lot.storePallet p.quarantined)

/-- R153, R159: what the storing of a pallet and the freeing of its record leave before the walk of the waiting list. -/
def State.palletGone (r : Nat) (p : Pallet) (s : State) : State :=
  { s with
    transfer := { s.transfer with pallets := s.transfer.pallets.del r }
    time := { s.time with
      timers := s.time.timers.del (5 + r), expired := s.time.expired.filter fun x => !decide (x = .exposure r) }
    parcel := { s.parcel with
      lots := s.parcel.lots.modify p.slot fun l => (l.storePallet p.quarantined).dropPallet } }

theorem Lot.storePallet_code (quarantined : Bool) (l : Lot) : (l.storePallet quarantined).code = l.code := by
  cases quarantined <;> rfl

/-- R72, R153: the account of a lot after one of its pallets has passed the door. -/
theorem Lot.dropPallet_storePallet (quarantined : Bool) (l : Lot) : (l.storePallet quarantined).dropPallet = { l with
    palletsStored := if quarantined then l.palletsStored else l.palletsStored + 1
    palletsQuarantined := if quarantined then l.palletsQuarantined + 1 else l.palletsQuarantined
    palletRefs := l.palletRefs - 1 } := by
  cases quarantined <;> rfl

section Carried
variable {s : State} {r : Nat} {p : Pallet} {l : Lot}

theorem Carried.atDoor (h : Carried s r p l) (stamp : Nat) : Carried (s.atDoor r stamp) r { p with doorTime := some stamp } l where
  pallet := (Table.get?_modify_self ..).trans (congrArg (Option.map _) h.pallet)
  pallets := (Table.wf_modify ..).trans h.pallets
  lot := h.lot
  current := h.current

theorem Carried.palletStored (h : Carried s r p l) :
    Carried (s.palletStored r p) r { p with state := .stored } (l.storePallet p.quarantined) where
  pallet := (Table.get?_modify_self ..).trans (congrArg (Option.map _) h.pallet)
  pallets := (Table.wf_modify ..).trans h.pallets
  lot := (Table.get?_modify_self ..).trans (congrArg (Option.map _) h.lot)
  current := h.current

/-- R149, R153: a pallet found late at the door, on a line that is not proving. -/
theorem Carried.expose (h : Carried s r p l) (hs : s.line.state ≠ .proving) :
    Carried (s.expose r p) r { p with exposed := true } l := by
  have hparcel : (s.expose r p).parcel = s.parcel :=
    State.fire_parcel_of_not_proving (s := s.onPallet r _) hs (x := .exposure) rfl ..
  refine ⟨State.expose_pallet h.pallet, ?_, ?_, ?_⟩
  · rw [State.expose_transfer]
    exact (Table.wf_modify ..).trans h.pallets
  · rw [hparcel]
    exact h.lot
  · rw [hparcel]
    exact h.current

theorem Carried.storePallet (h : Carried s r p l) : s.storePallet r = (s.palletStored r p).offerPart r 1 := by
  simp only [State.storePallet, h.pallet]
  rfl

theorem Carried.palletGone (h : Carried s r p l) :
    (s.palletStored r p).palletFreed r { p with state := .stored } = s.palletGone r p := by
  have hpallets : (s.palletStored r p).transfer.pallets.del r = s.transfer.pallets.del r := Table.del_modify_self h.pallets ..
  have hlots : (s.palletStored r p).parcel.lots.modify p.slot Lot.dropPallet =
      s.parcel.lots.modify p.slot fun l => (l.storePallet p.quarantined).dropPallet := Table.modify_modify ..
  unfold State.palletFreed State.palletGone
  rw [hpallets, hlots]
  rfl

/-- R153, R159: a pallet of one part is stored and reported, and its record freed. -/
theorem Carried.storePallet_whole (h : Carried s r p l) (hroom : Room s 1) (hbags : p.bags.length ≤ 60) : s.storePallet r =
    ((s.enter (.palletTransfer (p.summary l.code) 1 1 p.bags)).palletGone r p).walkWaiting := by
  have hoffer := h.palletStored.offerPart_whole hroom hbags
  rw [Lot.storePallet_code] at hoffer
  rw [← Pallet.transferPart_whole hbags, h.storePallet, hoffer, ← (h.enter _).palletGone]
  rfl

/-- R153, R159: a pallet of two parts with room for both. -/
theorem Carried.storePallet_both (h : Carried s r p l) (hroom : Room s 2) (hbags : 60 < p.bags.length) : s.storePallet r =
    (((s.enter (.palletTransfer (p.summary l.code) 1 2 (p.bags.take 60))).enter
      (.palletTransfer (p.summary l.code) 2 2 (p.bags.drop 60))).palletGone r p).walkWaiting := by
  have hoffer := h.palletStored.offerPart_both hroom hbags
  rw [Lot.storePallet_code] at hoffer
  rw [← Pallet.transferPart_first hbags, ← Pallet.transferPart_second hbags, h.storePallet, hoffer, ← ((h.enter _).enter _).palletGone]
  rfl

/-- R153, R159, R185: a pallet of two parts with room for the first alone. -/
theorem Carried.storePallet_waits (h : Carried s r p l) (hroom : Room s 1) (hfull : s.link.notices.length = 31)
    (hbags : 60 < p.bags.length) : s.storePallet r =
      ((s.palletStored r p).enter (.palletTransfer (p.summary l.code) 1 2 (p.bags.take 60))).await (.palletPart r 2) := by
  have hoffer := h.palletStored.offerPart_waits hroom hfull hbags
  rw [Lot.storePallet_code] at hoffer
  rw [← Pallet.transferPart_first hbags, h.storePallet, hoffer]
  rfl

/-- R153: with the stamp within the due the pallet keeps its verdict. -/
theorem Carried.doorPass_inTime (h : Carried s r p l) {stamp : Nat} (hdue : stamp ≤ p.exposureDue) :
    s.doorPass r stamp = (s.atDoor r stamp).storePallet r := by
  have hjudge : (s.atDoor r stamp).judgeDoor r stamp = s.atDoor r stamp := by
    simp only [State.judgeDoor, (h.atDoor stamp).pallet]
    exact if_neg fun hlate => absurd hlate.1 (Nat.not_lt.mpr hdue)
  rw [State.doorPass_eq, hjudge]

/-- R153, step 3: a stamp past the due quarantines the pallet. -/
theorem Carried.doorPass_late (h : Carried s r p l) {stamp : Nat} (hdue : p.exposureDue < stamp) (hexposed : p.exposed = false) :
    s.doorPass r stamp = ((s.atDoor r stamp).expose r { p with doorTime := some stamp }).storePallet r := by
  have hjudge : (s.atDoor r stamp).judgeDoor r stamp = (s.atDoor r stamp).expose r { p with doorTime := some stamp } := by
    simp only [State.judgeDoor, (h.atDoor stamp).pallet]
    exact if_pos ⟨hdue, hexposed⟩
  rw [State.doorPass_eq, hjudge]

/-! ### What is left of a pallet that has passed -/

/-- R72, R153: the lot's account. -/
theorem Carried.gone_lot (h : Carried s r p l) (v : State) (hv : v.parcel = s.parcel) :
    (v.palletGone r p).parcel.lots.get? p.slot = some { l with
      palletsStored := if p.quarantined then l.palletsStored else l.palletsStored + 1
      palletsQuarantined := if p.quarantined then l.palletsQuarantined + 1 else l.palletsQuarantined
      palletRefs := l.palletRefs - 1 } := by
  refine (Table.get?_modify_self ..).trans ?_
  rw [hv, h.lot, Option.map_some, Lot.dropPallet_storePallet]

end Carried

/-! ### The door eye's edges (R153, R154) -/

theorem exec_doorEyeEdge_head {s : State} {e : Edge} {rest : List Edge} (hw : s.powered = true) (hp : s.pin = false)
    (h : s.time.edges = e :: rest) (hi : e.input = .doorEye) : exec .doorEyeEdge s =
      .next (if e.rising = true then ({ s with time := { s.time with edges := rest } } : State).doorEdge e.stamp
        else { s with time := { s.time with edges := rest } }).finish := by
  rw [exec, execDoorEyeEdge, ← hi, State.act_deliver hw h]
  simp [hp]

section DoorEdge
variable {s : State} {j : Job} {r : Nat} {p : Pallet} (stamp : Nat)

theorem State.doorEdge_unexpected (h : s.transfer.shuttle.state ≠ .carrying) :
    s.doorEdge stamp = s.notify (.doorUnexpected stamp (some s.transfer.shuttle.state) none) := by
  unfold State.doorEdge
  split
  · next hs _ => exact absurd hs h
  · rfl

theorem State.doorEdge_again (h : s.transfer.shuttle.state = .carrying) (hj : s.transfer.shuttle.job = some j)
    (hd : j.doorMade = true) : s.doorEdge stamp = s.notify (.doorUnexpected stamp none (some j.pallet)) := by
  simp only [State.doorEdge, h, hj, hd, if_true]

theorem State.doorEdge_pass (h : s.transfer.shuttle.state = .carrying) (hj : s.transfer.shuttle.job = some j)
    (hd : j.doorMade = false) (hp : s.transfer.findPallet j.pallet = some (r, p)) : s.doorEdge stamp = s.doorPass r stamp := by
  simp only [State.doorEdge, h, hj, hd, hp]
  rfl

end DoorEdge

/-! ### A pass within the due (R153, R159) -/

section InTime
variable {s t : State} {r stamp : Nat} {p : Pallet} {l : Lot} (h : Carried s r p l) (hdue : stamp ≤ p.exposureDue)
  (ht : t = (s.doorPass r stamp).finish)
include h

/-- R159: the pallet's record is the one that is freed. -/
theorem Carried.atDoor_del : (s.atDoor r stamp).transfer.pallets.del r = s.transfer.pallets.del r :=
  Table.del_modify_self h.pallets ..

include hdue

theorem Carried.doorPass_whole (hroom : Room s 1) (hbags : p.bags.length ≤ 60) : s.doorPass r stamp =
    (((s.atDoor r stamp).enter (.palletTransfer (Pallet.summary { p with doorTime := some stamp } l.code) 1 1 p.bags)).palletGone r
      { p with doorTime := some stamp }).walkWaiting := by
  rw [h.doorPass_inTime hdue]
  exact (h.atDoor stamp).storePallet_whole hroom hbags

include ht

/-- R153, R159: a pallet of one part, with room in the queue and no bag waiting. -/
theorem Carried.passed_whole (htimers : s.time.timers.wf = true) (hwait : s.transfer.waiting = []) (hroom : Room s 1)
    (hbags : p.bags.length ≤ 60) {j : Job} (hj : s.transfer.shuttle.job = some j) :
    t = { s with time := t.time, parcel := t.parcel, transfer := t.transfer, link := t.link, pins := t.pins } ∧
    t.transfer.pallets = s.transfer.pallets.del r ∧
    t.transfer.shuttle = { s.transfer.shuttle with job := some { j with doorMade := true } } ∧
    t.time.timers.get? (5 + r) = none ∧ (∀ k, k ≠ 5 + r → t.time.timers.get? k = s.time.timers.get? k) ∧
    t.parcel.lots.get? p.slot = some { l with
      palletsStored := if p.exposed || p.stranded then l.palletsStored else l.palletsStored + 1
      palletsQuarantined := if p.exposed || p.stranded then l.palletsQuarantined + 1 else l.palletsQuarantined
      palletRefs := l.palletRefs - 1 } ∧
    Queued t (.palletTransfer (Pallet.summary { p with doorTime := some stamp } l.code) 1 1 p.bags) := by
  rw [h.doorPass_whole hdue hroom hbags, State.walkWaiting_nil (by exact hwait)] at ht
  subst ht
  rw [queued_finish, State.finish_transfer, State.finish_time, State.finish_parcel]
  refine ⟨?_, h.atDoor_del, State.atDoor_shuttle hj r stamp, ?_, fun k hk => ?_, ?_, ?_⟩
  · rw [State.finish_frame]
    apply State.ext_fields <;> rfl
  · exact Table.get?_del_none _ (Table.get?_del_self _ htimers)
  · exact (Table.get?_del_ne _ hk).trans (Table.get?_del_ne _ hk)
  · exact (h.atDoor stamp).gone_lot _ rfl
  · exact ⟨_, List.mem_append_right _ (List.mem_singleton_self _), rfl⟩

/-- R159: a pallet of two parts, with room for both. -/
theorem Carried.passed_both (hwait : s.transfer.waiting = []) (hroom : Room s 2) (hbags : 60 < p.bags.length) :
    t.transfer.pallets = s.transfer.pallets.del r ∧ t.link.notices = s.link.notices ++
      [⟨s.time.lineTime, .palletTransfer (Pallet.summary { p with doorTime := some stamp } l.code) 1 2 (p.bags.take 60)⟩,
        ⟨s.time.lineTime, .palletTransfer (Pallet.summary { p with doorTime := some stamp } l.code) 2 2 (p.bags.drop 60)⟩] := by
  rw [h.doorPass_inTime hdue, (h.atDoor stamp).storePallet_both hroom hbags, State.walkWaiting_nil (by exact hwait)] at ht
  subst ht
  rw [State.finish_transfer, State.finish_notices]
  exact ⟨h.atDoor_del, List.append_assoc ..⟩

/-- R159, R185: a pallet of two parts, with room for the first alone. -/
theorem Carried.passed_waits (hfull : s.link.notices.length = 31) (hwait : s.link.waiting = []) (hbags : 60 < p.bags.length) :
    t.link.waiting = [.palletPart r 2] ∧
    t.transfer.pallets.get? r = some { p with state := .stored, doorTime := some stamp } ∧
    t.link.notices = s.link.notices ++
      [⟨s.time.lineTime, .palletTransfer (Pallet.summary { p with doorTime := some stamp } l.code) 1 2 (p.bags.take 60)⟩] := by
  have hroom : Room s 1 := ⟨by rw [hfull]; decide, hwait⟩
  rw [h.doorPass_inTime hdue, (h.atDoor stamp).storePallet_waits hroom hfull hbags] at ht
  subst ht
  rw [State.finish_transfer, State.finish_notices, State.finish_waiting]
  refine ⟨?_, (h.atDoor stamp).palletStored.pallet, rfl⟩
  show s.link.waiting ++ _ = _
  rw [hwait]
  rfl

/-- R146, R159: the only bag that waits takes a record, the freed one where no lower one is free. -/
theorem Carried.passed_counts (h1 : 1 ≤ r) (h8 : r ≤ 8) (hroom : Room s 1) (hbags : p.bags.length ≤ 60) {number k : Nat} {b : Bag}
    (hwait : s.transfer.waiting = [number]) (hfound : s.dist.findBag number = some (k, b)) (hbag : s.dist.bags.get? k = some b)
    (hnone : s.transfer.building b.lane = none) : ∃ q p', t.transfer.waiting = [] ∧ t.transfer.pallets.get? q = some p' ∧
      p'.lane = b.lane ∧ p'.bags = [⟨b.number, b.grams.getD 0, b.parcels, b.minCredit⟩] ∧
      (s.dist.bags.wf = true → t.dist.bags.get? k = none) := by
  obtain ⟨u, hu⟩ : ∃ u : State, u = ((s.atDoor r stamp).enter
    (.palletTransfer (Pallet.summary { p with doorTime := some stamp } l.code) 1 1 p.bags)).palletGone r
      { p with doorTime := some stamp } := ⟨_, rfl⟩
  have hdist : u.dist = s.dist := by rw [hu]; rfl
  have hpallets : u.transfer.pallets = s.transfer.pallets.del r := by rw [hu]; exact h.atDoor_del
  have hlane : u.transfer.building b.lane = none := by
    rw [TransferUnit.building, hpallets]
    exact Table.first?_del_none hnone r
  obtain ⟨q, hfree⟩ : ∃ q, u.transfer.pallets.freeKey 1 8 = some q := by
    refine Option.ne_none_iff_exists'.mp fun hfull => ?_
    have hheld := Table.freeKey_none hfull r h1 (by omega)
    rw [hpallets, Table.get?_del_self r h.pallets] at hheld
    nomatch hheld
  obtain ⟨htry, p', hget, hon, hentries, hfreed⟩ := State.tryCount_new (hdist ▸ hbag) hlane hfree
  rw [h.doorPass_whole hdue hroom hbags, ← hu,
    State.walkWaiting_counted (by rw [hu]; exact hwait) (hdist ▸ hfound) htry] at ht
  subst ht
  rw [State.finish_transfer, State.finish_dist]
  refine ⟨q, p', rfl, hget, hon, hentries, fun hwf => ?_⟩
  rw [State.onTransfer_dist, hfreed, hdist]
  exact Table.get?_del_self k hwf

end InTime

/-! ### A pass past the due (R149, R153) -/

section Late
variable {s t : State} {r : Nat} {p : Pallet} {l : Lot} (h : Carried s r p l) (htimers : s.time.timers.wf = true)
  (hs : s.line.state ≠ .proving) (hwait : s.transfer.waiting = []) (hroom : Room s 4) (hbags : p.bags.length ≤ 60)
include h htimers hs hwait hroom hbags

/-- R149, R153: a pallet of one part, quarantined at the door on a line that is not proving, and stored. -/
theorem Carried.stored_exposed (ht : t = ((s.expose r p).storePallet r).finish) (htimer : s.time.timers.get? (5 + r) = none) :
    t.transfer.pallets = s.transfer.pallets.del r ∧ t.latch .exposure = true ∧
    (∀ y, y ≠ .exposure → t.latch y = s.latch y) ∧ t.time.timers.get? (5 + r) = none ∧
    t.parcel.lots.get? p.slot = some { l with
      palletsQuarantined := l.palletsQuarantined + 1, palletRefs := l.palletRefs - 1 } ∧
    ∃ before after, t.link.notices = before ++
      ⟨s.time.lineTime, .palletExposed p.number p.lane p.slot p.state p.exposureStart p.exposureDue⟩ ::
      ⟨s.time.lineTime, .palletTransfer (Pallet.summary { p with exposed := true } l.code) 1 1 p.bags⟩ :: after := by
  obtain ⟨hroomExposed, before, hnotices⟩ := State.expose_notices r p hs (k := 1) hroom
  have hwaiting : (s.expose r p).transfer.waiting = [] := by rw [State.expose_transfer]; exact hwait
  rw [(h.expose hs).storePallet_whole hroomExposed hbags, State.walkWaiting_nil (by exact hwaiting)] at ht
  have hprobe : t.probe = (s.fire .exposure .transfer p.number s.time.lineTime).probe := by
    rw [ht, State.finish_probe, ← State.expose_probe]
    rfl
  obtain ⟨hlatch, hothers⟩ := State.fire_latch rfl hprobe
  subst ht
  rw [State.finish_transfer, State.finish_time, State.finish_parcel, State.finish_notices]
  refine ⟨?_, hlatch, hothers, Table.get?_del_none _ (State.expose_timer_none r p htimers htimer), (h.expose hs).gone_lot _ rfl,
    before, [], ?_⟩
  · show (s.expose r p).transfer.pallets.del r = _
    rw [State.expose_transfer]
    exact Table.del_modify_self h.pallets ..
  · show (s.expose r p).link.notices ++ [⟨(s.expose r p).time.lineTime, _⟩] = _
    rw [hnotices, State.expose_lineTime, List.append_assoc]
    rfl

/-- R153, step 3: a pallet of one part, found late on a line that is not proving. -/
theorem Carried.passed_late {stamp : Nat} (ht : t = (s.doorPass r stamp).finish) (hdue : p.exposureDue < stamp)
    (hexposed : p.exposed = false) : t.transfer.pallets = s.transfer.pallets.del r ∧ t.latch .exposure = true ∧
      (∀ y, y ≠ .exposure → t.latch y = s.latch y) ∧ t.time.timers.get? (5 + r) = none ∧
      t.parcel.lots.get? p.slot = some { l with
        palletsQuarantined := l.palletsQuarantined + 1, palletRefs := l.palletRefs - 1 } ∧
      ∃ before after, t.link.notices = before ++
        ⟨s.time.lineTime, .palletExposed p.number p.lane p.slot p.state p.exposureStart p.exposureDue⟩ ::
        ⟨s.time.lineTime, .palletTransfer (Pallet.summary { p with exposed := true, doorTime := some stamp } l.code) 1 1 p.bags⟩ ::
          after := by
  rw [h.doorPass_late hdue hexposed] at ht
  obtain ⟨hgone, hrest⟩ := (h.atDoor stamp).stored_exposed (Table.wf_del _ htimers) hs hwait hroom hbags ht
    (Table.get?_del_self (5 + r) htimers)
  exact ⟨hgone.trans h.atDoor_del, hrest⟩

end Late

/-- Settles O49: a falling edge and an unexpected one as they stand; a pass by its judgement, its parts and the bag that waits. -/
theorem doorPassStoresThePallet : Obligations.DoorPassStoresThePallet := by
  refine ⟨fun s => walk_sublist .., ?_⟩
  rintro s e rest hw hp h hi s1 rfl
  have hexec := exec_doorEyeEdge_head hw hp h hi
  refine ⟨fun hr => ?_, fun hr hs => ?_, fun j hr hs hj hd => ?_, ?_, ?_⟩
  · rw [hexec, if_neg (by simp [hr])]
  · rw [hexec, if_pos hr]
    exact congrArg (fun t : State => Host.Outcome.next t.finish) (State.doorEdge_unexpected _ hs)
  · rw [hexec, if_pos hr]
    exact congrArg (fun t : State => Host.Outcome.next t.finish) (State.doorEdge_again _ hs hj hd)
  · intro j r p l hr hs hj hd hfound hget hpallets htimers hlot hcur hwait hbags hdue hroom
    have hc : Carried { s with time := { s.time with edges := rest } } r p l := ⟨hget, hpallets, hlot, hcur⟩
    rw [hexec, if_pos hr, State.doorEdge_pass e.stamp (by exact hs) (by exact hj) hd (by exact hfound)]
    exact ⟨_, rfl, hc.passed_whole hdue rfl htimers hwait hroom hbags hj⟩
  · rintro j r p l sum hr hs hj hd hfound hget hpallets htimers hlot hcur rfl
    have hc : Carried { s with time := { s.time with edges := rest } } r p l := ⟨hget, hpallets, hlot, hcur⟩
    rw [hexec, if_pos hr, State.doorEdge_pass e.stamp (by exact hs) (by exact hj) hd (by exact hfound)]
    refine ⟨fun hdue hexposed hbags hnp hwait hroom => ?_, fun hdue hbags hwait hroom => ?_, fun hdue hbags hfull hwait => ?_,
      fun number k b hdue hbags h1 h8 hroom hwait hfoundb hbag hnone => ?_⟩
    · exact ⟨_, rfl, hc.passed_late htimers hnp hwait hroom hbags rfl hdue hexposed⟩
    · obtain ⟨hgone, hnotices⟩ := hc.passed_both hdue rfl hwait hroom hbags
      exact ⟨_, rfl, hgone, [], hnotices⟩
    · exact ⟨_, rfl, hc.passed_waits hdue rfl hfull hwait hbags⟩
    · obtain ⟨q, p', hcounted⟩ := hc.passed_counts hdue rfl h1 h8 hroom hbags hwait hfoundb hbag hnone
      exact ⟨_, q, p', rfl, hcounted⟩

end Sys2Proof.Machine
end
